-- ==== Sys2Proof/Word.lean ====
section
/-! DEFINITION. The words of the Indabel 7220 that the manual treats as bits: bytes of the station port and
the unit link, the link's CRC register, and the set of 23 notices. Every other quantity of the part is a count,
a number or a name, and is a `Nat`, an `Int` or an inductive type. -/

namespace Sys2Proof

/-- One byte of a station-port or unit-link frame (R202, R204). -/
abbrev Byte := BitVec 8

/-- The register of the unit link's CRC-16 (R171). -/
abbrev Crc := BitVec 16

/-- A set of the 23 notices, bit `i` for the flag at position `i` of the table of section 10.2 (R192, R203). -/
abbrev NoticeSet := BitVec 23

end Sys2Proof
end

