-- ==== Sys2Proof/Config.lean ====
section
/-! DEFINITION. What the manual leaves open, as opaque free values (nothing can evaluate them, so a claim holds
whatever they are), and the names of the seven blocks that take an interval boundary. -/

namespace Sys2Proof

/-- The blocks that take an interval boundary, each for its own state (R163 step 5). -/
inductive Block where
  | book | engine | caverns | store | roster | dispatch | scanner
  deriving DecidableEq, Repr

/-- Every block that takes a boundary, once (R163 step 5). -/
def Config.allBlocks : List Block :=
  [.book, .engine, .caverns, .store, .roster, .dispatch, .scanner]

/-- FREE VALUE. The place of each block in the order in which one boundary is taken: the blocks take it "in either
order" (R139, R156) and the manual fixes none. Log entry 3. -/
opaque Config.blockRank : Nat → Block → Nat

/-- FREE VALUE. The interval that follows 4,294,967,295, the end of the 32-bit range (R159, R160): not stated.
Log entry 6. -/
opaque Config.intervalPastEnd : Nat → BitVec 32

/-- FREE VALUE. Whether the seconds left on a timer that is not at a whole second are carried rounded up or down
(R118 states no rounding). Log entry 7. -/
opaque Config.secondsRoundUp : Nat → Bool

/-- FREE VALUE. The reported kW that `last_report` holds after an ANNOUNCE, which carries none (R96, R102).
Brought within 0 to 150,000 where it is used. Log entry 8. -/
opaque Config.announceKw : Nat → Nat

/-- FREE VALUE. The fault code that `last_report` holds after an ANNOUNCE, which carries none (R96, R102).
Log entry 8. -/
opaque Config.announceFault : Nat → BitVec 16

/-- The order in which one boundary reaches the blocks: every block once, sorted by the free rank (R163 step 5). -/
def Config.blockOrder (n : Nat) : List Block :=
  Config.allBlocks.insertionSort (fun a b => Config.blockRank n a ≤ Config.blockRank n b)

end Sys2Proof
end

