-- ==== Sys2Proof/Syntax.lean ====
section
/-! DEFINITION. The commands of the part: one constructor of `Instr` for each row of spec/opcode_table.json.
The operands of a station command are the parameters of its request frame (R202, R203) as plain numbers, which may
lie outside their ranges: the rule of each command says what an out-of-range parameter does. An enumerated
parameter is its code, the position of its value counting from 0 (R202). An optional parameter that is left out
is `none`. -/

namespace Sys2Proof

/-- Parameters of BOOK (R8). Class: 0 TENTATIVE, 1 FIRM. Direction: 0 CHARGE, 1 DISCHARGE. -/
structure BookParams where
  tradeRef : Nat
  cls : Nat
  dir : Nat
  start : Nat
  length : Nat
  power : Nat
  tolerance : Option Nat
  holdExpiry : Option Nat
  deriving DecidableEq, Repr

/-- Parameters of AMEND (R12). -/
structure AmendParams where
  key : Nat
  power : Option Nat
  length : Option Nat
  start : Option Nat
  deriving DecidableEq, Repr

/-- Parameters of SET_CAVERN (R66). -/
structure CavernParams where
  number : Nat
  inService : Option Nat
  weight : Option Nat
  pMin : Option Nat
  pMax : Option Nat
  rateLimit : Option Nat
  driftLimit : Option Nat
  deriving DecidableEq, Repr

/-- Parameters of LOAD_CAVERN_TABLE (R63). -/
structure CavernTableParams where
  number : Nat
  m0 : Nat
  step : Nat
  pressures : Vector Nat 17
  deriving DecidableEq, Repr

/-- Parameters of SET_STORE (R86). -/
structure StoreParams where
  capacity : Option Nat
  heatFloor : Option Nat
  capturePermille : Option Nat
  drawPermille : Option Nat
  lossPpm : Option Nat
  yieldG : Option Nat
  useG : Option Nat
  tMaxCharge : Option Int
  tMinDischarge : Option Int
  deriving DecidableEq, Repr

/-- Parameters of LOAD_STORE_TABLE (R84): nine points, each a temperature and a content. -/
structure StoreTableParams where
  temps : Vector Int 9
  contents : Vector Nat 9
  deriving DecidableEq, Repr

/-- Parameters of SET_TRAIN (R99). Kind: 0 COMPRESSOR, 1 EXPANDER. A name is its twelve character codes
(R203, R204), 0 after the last character. -/
structure TrainParams where
  entry : Nat
  configured : Option Nat
  kind : Option Nat
  index : Option Nat
  name : Option (Vector Nat 12)
  holdRating : Option Nat
  ratedKw : Option Nat
  minStableKw : Option Nat
  priority : Option Nat
  startLead : Option Nat
  minRun : Option Nat
  minRest : Option Nat
  startTimeout : Option Nat
  stopTimeout : Option Nat
  deriving DecidableEq, Repr

/-- One outage window: a first and a last interval, inclusive (R96, R115). -/
structure Window where
  first : Nat
  last : Nat
  deriving DecidableEq, Repr

/-- Parameters of SET_OUTAGE (R115). -/
structure OutageParams where
  entry : Nat
  windows : List Window
  deriving DecidableEq, Repr

/-- Parameters of SET_SITE (R195). -/
structure SiteParams where
  importLimit : Option Nat
  exportLimit : Option Nat
  changeoverGap : Option Nat
  minNotice : Option Nat
  pollPeriod : Option Nat
  holdLimit : Option Nat
  tol : Option Nat
  errorThreshold : Option Nat
  deriving DecidableEq, Repr

/-- A role as it is sent (R203): the alternative (0 CAVERN_PRESSURE, 1 STORE_TEMP, 2 HEADER_PRESSURE, 3 SPARE) and
two parameters: cavern and position, or vessel and sensor. -/
structure RoleCode where
  alternative : Nat
  first : Nat
  second : Nat
  deriving DecidableEq, Repr

/-- Parameters of SET_CHANNEL (R143). Window mode: 0 ALARM_OUTSIDE, 1 ALARM_INSIDE. -/
structure ChannelParams where
  channel : Nat
  role : Option RoleCode
  gain : Option Int
  offset : Option Int
  averaging : Option Nat
  windowLow : Option Int
  windowHigh : Option Int
  windowMode : Option Nat
  deriving DecidableEq, Repr

/-- The value given to an alias table entry by SET_ALIAS (R186): an alias address, a roster entry and a quiet flag. -/
structure AliasValue where
  address : Nat
  entry : Nat
  quiet : Nat
  deriving DecidableEq, Repr

/-- Parameters of SET_ALIAS (R186): the table entry, the alternative (0 empties the entry, 1 gives it the value), and the
value, which alternative 0 leaves unused. -/
structure AliasParams where
  index : Nat
  alternative : Nat
  value : AliasValue
  deriving DecidableEq, Repr

/-- Parameters of FORWARD (R187). Kind: position in R172's table of kinds sent, POLL 0 to SPEED 7. -/
structure ForwardParams where
  address : Nat
  kind : Nat
  payload : List Byte
  deriving DecidableEq, Repr

/-- A taken request that is refused without any command acting (R190). -/
inductive RefusedRequest where
  /-- SEL was released before the whole frame was clocked in. -/
  | shortFrame
  /-- The command code names no command. -/
  | unknownCode (code : Nat)
  /-- The parameter bytes do not fit the parameters of the command that the code names. -/
  | misfit (code : Nat)
  deriving DecidableEq, Repr

/-- The commands of the Indabel 7220: one constructor per row of spec/opcode_table.json, in its order. -/
inductive Instr where
  /-- BOOK (R9) -/
  | book (p : BookParams)
  /-- CONFIRM (R11) -/
  | confirm (key : Nat)
  /-- AMEND (R12) -/
  | amend (p : AmendParams)
  /-- RETIRE (R18) -/
  | retire (key : Nat)
  /-- READ_COMMITMENT (R25) -/
  | readCommitment (key : Nat)
  /-- LIST_COMMITMENTS (R26) -/
  | listCommitments (page : Nat)
  /-- READ_PROJECTION (R58) -/
  | readProjection (page : Nat)
  /-- VERIFY (R30) -/
  | verify
  /-- SET_CAVERN (R66) -/
  | setCavern (p : CavernParams)
  /-- LOAD_CAVERN_TABLE (R63) -/
  | loadCavernTable (p : CavernTableParams)
  /-- READ_CAVERN (R68) -/
  | readCavern (number : Nat)
  /-- SET_STORE (R86) -/
  | setStore (p : StoreParams)
  /-- LOAD_STORE_TABLE (R84) -/
  | loadStoreTable (p : StoreTableParams)
  /-- READ_STORE (R95) -/
  | readStore
  /-- SET_TRAIN (R99) -/
  | setTrain (p : TrainParams)
  /-- SET_OUTAGE (R115) -/
  | setOutage (p : OutageParams)
  /-- WITHDRAW (R112) -/
  | withdraw (entry : Nat)
  /-- RESTORE (R113) -/
  | restore (entry : Nat)
  /-- RELEASE (R108) -/
  | release (entry : Nat)
  /-- REBIND (R114) -/
  | rebind (entry : Nat)
  /-- READ_TRAIN (R118) -/
  | readTrain (entry : Nat)
  /-- SET_SITE (R195) -/
  | setSite (p : SiteParams)
  /-- READ_DISPATCH (R140) -/
  | readDispatch
  /-- SET_CHANNEL (R143) -/
  | setChannel (p : ChannelParams)
  /-- SET_SCAN_LIST (R145) -/
  | setScanList (channels : List Nat)
  /-- READ_CHANNEL (R158) -/
  | readChannel (channel : Nat)
  /-- SNAPSHOT (R157) -/
  | snapshot
  /-- SET_INTERVAL (R160). Form: 0 NOW, 1 AT_PULSE. -/
  | setInterval (n : Nat) (form : Nat)
  /-- READ_CLOCK (R170) -/
  | readClock
  /-- SET_ALIAS (R186) -/
  | setAlias (p : AliasParams)
  /-- FORWARD (R187) -/
  | forward (p : ForwardParams)
  /-- LINK_SPEED (R185). Target: 0 BASE, 1 FAST. -/
  | linkSpeed (target : Nat)
  /-- READ_LINK (R183) -/
  | readLink
  /-- SAVE_SETTINGS (R197) -/
  | saveSettings
  /-- READ_NOTICES (R193) -/
  | readNotices
  /-- SET_NOTICE_MASK (R194): the mask as the number its three bytes spell. -/
  | setNoticeMask (mask : Nat)
  /-- RESET_STATION (R200) -/
  | resetStation
  /-- IDENTIFY (R201) -/
  | identify
  /-- UNKNOWN_COMMAND (R190) -/
  | unknownCommand (r : RefusedRequest)
  /-- FETCH (R189): a fetch transfer in which `clocked` bytes are clocked. -/
  | fetch (clocked : Nat)
  /-- POWER_ON_RESET (R199) -/
  | powerOnReset
  /-- SAVE_COMPLETE (R197) -/
  | saveComplete
  /-- PULSE (R168) -/
  | pulse
  /-- OWN_TIMER_EXPIRY (R165) -/
  | ownTimerExpiry
  /-- ABSORB_WINDOW_CLOSE (R167) -/
  | absorbWindowClose
  /-- SITE_TRIP_ASSERT (R126) -/
  | siteTripAssert
  /-- SITE_TRIP_RELEASE (R126) -/
  | siteTripRelease
  /-- RUN_START (R32) -/
  | runStart
  /-- VERIFICATION_RUN_COMPLETE (R46) -/
  | verificationRunComplete
  /-- ADMISSION_RUN_COMPLETE (R47) -/
  | admissionRunComplete
  /-- PIN_TIMEOUT (R60) -/
  | pinTimeout
  /-- ENTRY_COMPLETE (R147): the codes converted for the scan list entry in progress. -/
  | entryComplete (codes : List Nat)
  /-- GRANT (R176) -/
  | grant
  /-- REPLY_RECEIVED (R174): the bytes of the frame received. -/
  | replyReceived (bytes : List Byte)
  /-- REPLY_TIMEOUT (R174) -/
  | replyTimeout
  /-- BROADCAST_SENT (R185) -/
  | broadcastSent
  /-- UNSOLICITED_FRAME (R175) -/
  | unsolicitedFrame
  /-- LINK_RESET (R184) -/
  | linkReset
  /-- START_TIMER_EXPIRY (R107), of an entry 1 to 8 -/
  | startTimerExpiry (entry : Nat)
  /-- STOP_TIMER_EXPIRY (R107), of an entry 1 to 8 -/
  | stopTimerExpiry (entry : Nat)
  /-- POLL_DUE (R179), of an entry 1 to 8 -/
  | pollDue (entry : Nat)
  /-- PERIODIC_IDENT (R101), of an entry 1 to 8 -/
  | periodicIdent (entry : Nat)
  deriving DecidableEq, Repr

end Sys2Proof
end

