-- ==== Sys2Proof/WellFormed.lean ====
section
/-! DEFINITION. Well-formed commands: every operand fits the field of the frame that carries it (R202, R203).
A well-formed operand may still lie outside the range its rule gives; that is for the command to judge. -/

namespace Sys2Proof

/-- An unsigned number fits a field of `w` bytes. -/
def fitsNat (w n : Nat) : Bool := decide (n < 256 ^ w)

/-- A signed number fits a two's complement field of `w` bytes, `w` at least 1. -/
def fitsInt (w : Nat) (i : Int) : Bool :=
  decide (-(256 ^ w / 2 : Nat) ≤ i) && decide (i < (256 ^ w / 2 : Nat))

/-- An optional unsigned parameter fits. -/
def fitsOptNat (w : Nat) (o : Option Nat) : Bool := o.all (fitsNat w)

/-- An optional signed parameter fits. -/
def fitsOptInt (w : Nat) (o : Option Int) : Bool := o.all (fitsInt w)

/-- A number names a roster entry, 1 to 8 (R96). -/
def isEntry (n : Nat) : Bool := decide (1 ≤ n) && decide (n ≤ 8)

/-- Parameters of BOOK fit their fields. -/
def BookParams.fits (p : BookParams) : Bool :=
  fitsNat 4 p.tradeRef && fitsNat 1 p.cls && fitsNat 1 p.dir && fitsNat 4 p.start && fitsNat 1 p.length
    && fitsNat 4 p.power && fitsOptNat 1 p.tolerance && fitsOptNat 4 p.holdExpiry

/-- Parameters of AMEND fit their fields. -/
def AmendParams.fits (p : AmendParams) : Bool :=
  fitsNat 2 p.key && fitsOptNat 4 p.power && fitsOptNat 1 p.length && fitsOptNat 4 p.start

/-- Parameters of SET_CAVERN fit their fields. -/
def CavernParams.fits (p : CavernParams) : Bool :=
  fitsNat 1 p.number && fitsOptNat 1 p.inService && fitsOptNat 1 p.weight && fitsOptNat 2 p.pMin
    && fitsOptNat 2 p.pMax && fitsOptNat 2 p.rateLimit && fitsOptNat 4 p.driftLimit

/-- Parameters of LOAD_CAVERN_TABLE fit their fields. -/
def CavernTableParams.fits (p : CavernTableParams) : Bool :=
  fitsNat 1 p.number && fitsNat 4 p.m0 && fitsNat 4 p.step && p.pressures.toList.all (fitsNat 2)

/-- Parameters of SET_STORE fit their fields. -/
def StoreParams.fits (p : StoreParams) : Bool :=
  fitsOptNat 4 p.capacity && fitsOptNat 4 p.heatFloor && fitsOptNat 2 p.capturePermille
    && fitsOptNat 2 p.drawPermille && fitsOptNat 2 p.lossPpm && fitsOptNat 2 p.yieldG && fitsOptNat 2 p.useG
    && fitsOptInt 2 p.tMaxCharge && fitsOptInt 2 p.tMinDischarge

/-- Parameters of LOAD_STORE_TABLE fit their fields. -/
def StoreTableParams.fits (p : StoreTableParams) : Bool :=
  p.temps.toList.all (fitsInt 2) && p.contents.toList.all (fitsNat 4)

/-- Parameters of SET_TRAIN fit their fields. -/
def TrainParams.fits (p : TrainParams) : Bool :=
  fitsNat 1 p.entry && fitsOptNat 1 p.configured && fitsOptNat 1 p.kind && fitsOptNat 1 p.index
    && p.name.all (fun v => v.toList.all (fitsNat 1)) && fitsOptNat 1 p.holdRating && fitsOptNat 4 p.ratedKw
    && fitsOptNat 4 p.minStableKw && fitsOptNat 1 p.priority && fitsOptNat 1 p.startLead && fitsOptNat 1 p.minRun
    && fitsOptNat 1 p.minRest && fitsOptNat 2 p.startTimeout && fitsOptNat 2 p.stopTimeout

/-- A window fits its field. -/
def Window.fits (w : Window) : Bool := fitsNat 4 w.first && fitsNat 4 w.last

/-- Parameters of SET_OUTAGE fit their fields: there is room for four windows (R203). -/
def OutageParams.fits (p : OutageParams) : Bool :=
  fitsNat 1 p.entry && decide (p.windows.length ≤ 4) && p.windows.all Window.fits

/-- Parameters of SET_SITE fit their fields. -/
def SiteParams.fits (p : SiteParams) : Bool :=
  fitsOptNat 4 p.importLimit && fitsOptNat 4 p.exportLimit && fitsOptNat 1 p.changeoverGap
    && fitsOptNat 1 p.minNotice && fitsOptNat 2 p.pollPeriod && fitsOptNat 1 p.holdLimit && fitsOptNat 2 p.tol
    && fitsOptNat 1 p.errorThreshold

/-- A role fits its field. -/
def RoleCode.fits (r : RoleCode) : Bool := fitsNat 1 r.alternative && fitsNat 1 r.first && fitsNat 1 r.second

/-- Parameters of SET_CHANNEL fit their fields. -/
def ChannelParams.fits (p : ChannelParams) : Bool :=
  fitsNat 1 p.channel && p.role.all RoleCode.fits && fitsOptInt 2 p.gain && fitsOptInt 4 p.offset
    && fitsOptNat 1 p.averaging && fitsOptInt 4 p.windowLow && fitsOptInt 4 p.windowHigh && fitsOptNat 1 p.windowMode

/-- The value of an alias fits its field. -/
def AliasValue.fits (a : AliasValue) : Bool := fitsNat 1 a.address && fitsNat 1 a.entry && fitsNat 1 a.quiet

/-- Parameters of SET_ALIAS fit their fields. -/
def AliasParams.fits (p : AliasParams) : Bool := fitsNat 1 p.index && fitsNat 1 p.alternative && p.value.fits

/-- Parameters of FORWARD fit their fields: there is room for sixteen payload bytes (R203). -/
def ForwardParams.fits (p : ForwardParams) : Bool :=
  fitsNat 1 p.address && fitsNat 1 p.kind && decide (p.payload.length ≤ 16)

/-- A refused request is one that R190 refuses: a code above 38 names no command, and 1 to 38 are commands. -/
def RefusedRequest.fits : RefusedRequest → Bool
  | .shortFrame => true
  | .unknownCode c => decide (38 < c) && fitsNat 1 c
  | .misfit c => decide (1 ≤ c) && decide (c ≤ 38)

/-- Every operand of the command fits the field that carries it; an event's operands are what the event can
carry: codes of the 12-bit converter, as many as an averaging (R141, R147), a frame of at least one byte, an entry
number. -/
def Instr.wellFormed : Instr → Bool
  | .book p => p.fits
  | .confirm key => fitsNat 2 key
  | .amend p => p.fits
  | .retire key => fitsNat 2 key
  | .readCommitment key => fitsNat 2 key
  | .listCommitments page => fitsNat 1 page
  | .readProjection page => fitsNat 1 page
  | .verify => true
  | .setCavern p => p.fits
  | .loadCavernTable p => p.fits
  | .readCavern n => fitsNat 1 n
  | .setStore p => p.fits
  | .loadStoreTable p => p.fits
  | .readStore => true
  | .setTrain p => p.fits
  | .setOutage p => p.fits
  | .withdraw e => fitsNat 1 e
  | .restore e => fitsNat 1 e
  | .release e => fitsNat 1 e
  | .rebind e => fitsNat 1 e
  | .readTrain e => fitsNat 1 e
  | .setSite p => p.fits
  | .readDispatch => true
  | .setChannel p => p.fits
  | .setScanList l => decide (l.length ≤ 32) && l.all (fitsNat 1)
  | .readChannel c => fitsNat 1 c
  | .snapshot => true
  | .setInterval n form => fitsNat 4 n && fitsNat 1 form
  | .readClock => true
  | .setAlias p => p.fits
  | .forward p => p.fits
  | .linkSpeed t => fitsNat 1 t
  | .readLink => true
  | .saveSettings => true
  | .readNotices => true
  | .setNoticeMask m => fitsNat 3 m
  | .resetStation => true
  | .identify => true
  | .unknownCommand r => r.fits
  | .fetch n => decide (1 ≤ n)
  | .powerOnReset => true
  | .saveComplete => true
  | .pulse => true
  | .ownTimerExpiry => true
  | .absorbWindowClose => true
  | .siteTripAssert => true
  | .siteTripRelease => true
  | .runStart => true
  | .verificationRunComplete => true
  | .admissionRunComplete => true
  | .pinTimeout => true
  | .entryComplete codes => decide (codes.length ∈ [1, 2, 4, 8]) && codes.all (fun c => decide (c ≤ 4095))
  | .grant => true
  | .replyReceived bytes => !bytes.isEmpty
  | .replyTimeout => true
  | .broadcastSent => true
  | .unsolicitedFrame => true
  | .linkReset => true
  | .startTimerExpiry e => isEntry e
  | .stopTimerExpiry e => isEntry e
  | .pollDue e => isEntry e
  | .periodicIdent e => isEntry e

end Sys2Proof
end

