-- ==== Sys2Proof/Decode.lean ====
section
/-! DEFINITION. From bytes to commands. No row of spec/opcode_table.json gives bits, so `decodeTableWord` answers
none. What the part itself decodes is a transfer at the station port (R189, R190, R202, R203): `decodeTransfer`
is total on any bytes and refuses by name, and `encodeTransfer` writes the frame of a well-formed command. -/

namespace Sys2Proof

/-- The command that a word spells by the table's bits: the table gives bits to no row. -/
def decodeTableWord (_nbits _w : Nat) : Option Instr := none

/-! ### Numbers as bytes, most significant first (R202) -/

/-- `n` in `w` bytes, most significant first. -/
def beBytes : Nat → Nat → List Byte
  | 0, _ => []
  | w + 1, n => BitVec.ofNat 8 (n / 256 ^ w) :: beBytes w n

/-- The number that bytes spell, most significant first. -/
def beNat : List Byte → Nat
  | [] => 0
  | b :: bs => b.toNat * 256 ^ bs.length + beNat bs

/-- A signed number in `w` bytes of two's complement. -/
def beInt (w : Nat) (i : Int) : List Byte := beBytes w (i % (256 ^ w : Nat)).toNat

/-- The signed number that `n` stands for in `w` bytes of two's complement. -/
def signedOf (w n : Nat) : Int := if n < 256 ^ w / 2 then (n : Int) else (n : Int) - (256 ^ w : Nat)

/-! ### Reading parameters -/

/-- Read an unsigned number of `w` bytes; none when too few bytes are left. -/
def takeNat (w : Nat) (bs : List Byte) : Option (Nat × List Byte) :=
  if bs.length < w then none else some (beNat (bs.take w), bs.drop w)

/-- Read a signed number of `w` bytes. -/
def takeInt (w : Nat) (bs : List Byte) : Option (Int × List Byte) :=
  (takeNat w bs).map fun r => (signedOf w r.1, r.2)

/-- Read an optional field whose value is read by `f`: a presence byte, 1 present and 0 absent, then the value's
bytes, sent even when the field is absent (R202). Two choices of the model, both in log entry 15: any other presence byte
does not fit, and the value bytes of an absent field, which R203 says hold 0, are passed over whatever they hold. -/
def takeOpt {α : Type} (f : List Byte → Option (α × List Byte)) (bs : List Byte) : Option (Option α × List Byte) :=
  match takeNat 1 bs with
  | some (0, rest) => (f rest).map fun r => (none, r.2)
  | some (1, rest) => (f rest).map fun r => (some r.1, r.2)
  | _ => none

/-- Read `n` items in their order. -/
def takeMany {α : Type} (f : List Byte → Option (α × List Byte)) : Nat → List Byte → Option (List α × List Byte)
  | 0, bs => some ([], bs)
  | n + 1, bs =>
    match f bs with
    | none => none
    | some (x, rest) => (takeMany f n rest).map fun r => (x :: r.1, r.2)

/-- Read a list of varying length (R203): a count byte, then room for `room` items. A count beyond the room names
items that were not sent; they read as `pad`, and the command's own rule refuses the length. That unused items which hold
other bytes than 0 are passed over is the model's choice (log entry 15). -/
def takeList {α : Type} (f : List Byte → Option (α × List Byte)) (room : Nat) (pad : α) (bs : List Byte) :
    Option (List α × List Byte) :=
  match takeNat 1 bs with
  | none => none
  | some (n, rest) =>
    (takeMany f room rest).map fun r =>
      ((if n ≤ room then r.1.take n else r.1 ++ List.replicate (n - room) pad), r.2)

/-- Read a fixed array of `n` items. -/
def takeVec {α : Type} (f : List Byte → Option (α × List Byte)) (n : Nat) (bs : List Byte) :
    Option (Vector α n × List Byte) :=
  match takeMany f n bs with
  | none => none
  | some (l, rest) => if h : l.length = n then some (⟨l.toArray, by simpa using h⟩, rest) else none

/-! ### Writing parameters -/

/-- Write an optional unsigned field of `w` bytes. -/
def putOptNat (w : Nat) : Option Nat → List Byte
  | none => beBytes 1 0 ++ beBytes w 0
  | some n => beBytes 1 1 ++ beBytes w n

/-- Write an optional signed field of `w` bytes. -/
def putOptInt (w : Nat) : Option Int → List Byte
  | none => beBytes 1 0 ++ beBytes w 0
  | some i => beBytes 1 1 ++ beInt w i

/-- Write a list of varying length whose items are of `size` bytes, with room for `room` items (R203). -/
def putList {α : Type} (put : α → List Byte) (room size : Nat) (l : List α) : List Byte :=
  beBytes 1 l.length ++ l.flatMap put ++ List.replicate ((room - l.length) * size) 0#8

/-! ### The parameters of each command, in the order its rule names them -/

/-- BOOK (R8). -/
def BookParams.parse (bs : List Byte) : Option (BookParams × List Byte) := do
  let (tradeRef, bs) ← takeNat 4 bs
  let (cls, bs) ← takeNat 1 bs
  let (dir, bs) ← takeNat 1 bs
  let (start, bs) ← takeNat 4 bs
  let (length, bs) ← takeNat 1 bs
  let (power, bs) ← takeNat 4 bs
  let (tolerance, bs) ← takeOpt (takeNat 1) bs
  let (holdExpiry, bs) ← takeOpt (takeNat 4) bs
  return (⟨tradeRef, cls, dir, start, length, power, tolerance, holdExpiry⟩, bs)

/-- BOOK (R8). -/
def BookParams.bytes (p : BookParams) : List Byte :=
  beBytes 4 p.tradeRef ++ beBytes 1 p.cls ++ beBytes 1 p.dir ++ beBytes 4 p.start ++ beBytes 1 p.length
    ++ beBytes 4 p.power ++ putOptNat 1 p.tolerance ++ putOptNat 4 p.holdExpiry

/-- AMEND (R12). -/
def AmendParams.parse (bs : List Byte) : Option (AmendParams × List Byte) := do
  let (key, bs) ← takeNat 2 bs
  let (power, bs) ← takeOpt (takeNat 4) bs
  let (length, bs) ← takeOpt (takeNat 1) bs
  let (start, bs) ← takeOpt (takeNat 4) bs
  return (⟨key, power, length, start⟩, bs)

/-- AMEND (R12). -/
def AmendParams.bytes (p : AmendParams) : List Byte :=
  beBytes 2 p.key ++ putOptNat 4 p.power ++ putOptNat 1 p.length ++ putOptNat 4 p.start

/-- SET_CAVERN (R66). -/
def CavernParams.parse (bs : List Byte) : Option (CavernParams × List Byte) := do
  let (number, bs) ← takeNat 1 bs
  let (inService, bs) ← takeOpt (takeNat 1) bs
  let (weight, bs) ← takeOpt (takeNat 1) bs
  let (pMin, bs) ← takeOpt (takeNat 2) bs
  let (pMax, bs) ← takeOpt (takeNat 2) bs
  let (rateLimit, bs) ← takeOpt (takeNat 2) bs
  let (driftLimit, bs) ← takeOpt (takeNat 4) bs
  return (⟨number, inService, weight, pMin, pMax, rateLimit, driftLimit⟩, bs)

/-- SET_CAVERN (R66). -/
def CavernParams.bytes (p : CavernParams) : List Byte :=
  beBytes 1 p.number ++ putOptNat 1 p.inService ++ putOptNat 1 p.weight ++ putOptNat 2 p.pMin ++ putOptNat 2 p.pMax
    ++ putOptNat 2 p.rateLimit ++ putOptNat 4 p.driftLimit

/-- LOAD_CAVERN_TABLE (R63). -/
def CavernTableParams.parse (bs : List Byte) : Option (CavernTableParams × List Byte) := do
  let (number, bs) ← takeNat 1 bs
  let (m0, bs) ← takeNat 4 bs
  let (step, bs) ← takeNat 4 bs
  let (pressures, bs) ← takeVec (takeNat 2) 17 bs
  return (⟨number, m0, step, pressures⟩, bs)

/-- LOAD_CAVERN_TABLE (R63). -/
def CavernTableParams.bytes (p : CavernTableParams) : List Byte :=
  beBytes 1 p.number ++ beBytes 4 p.m0 ++ beBytes 4 p.step ++ p.pressures.toList.flatMap (beBytes 2)

/-- SET_STORE (R86). -/
def StoreParams.parse (bs : List Byte) : Option (StoreParams × List Byte) := do
  let (capacity, bs) ← takeOpt (takeNat 4) bs
  let (heatFloor, bs) ← takeOpt (takeNat 4) bs
  let (capturePermille, bs) ← takeOpt (takeNat 2) bs
  let (drawPermille, bs) ← takeOpt (takeNat 2) bs
  let (lossPpm, bs) ← takeOpt (takeNat 2) bs
  let (yieldG, bs) ← takeOpt (takeNat 2) bs
  let (useG, bs) ← takeOpt (takeNat 2) bs
  let (tMaxCharge, bs) ← takeOpt (takeInt 2) bs
  let (tMinDischarge, bs) ← takeOpt (takeInt 2) bs
  return (⟨capacity, heatFloor, capturePermille, drawPermille, lossPpm, yieldG, useG, tMaxCharge, tMinDischarge⟩, bs)

/-- SET_STORE (R86). -/
def StoreParams.bytes (p : StoreParams) : List Byte :=
  putOptNat 4 p.capacity ++ putOptNat 4 p.heatFloor ++ putOptNat 2 p.capturePermille ++ putOptNat 2 p.drawPermille
    ++ putOptNat 2 p.lossPpm ++ putOptNat 2 p.yieldG ++ putOptNat 2 p.useG ++ putOptInt 2 p.tMaxCharge
    ++ putOptInt 2 p.tMinDischarge

/-- One point of the temperature–content table (R84). -/
def takePoint (bs : List Byte) : Option ((Int × Nat) × List Byte) := do
  let (t, bs) ← takeInt 2 bs
  let (c, bs) ← takeNat 4 bs
  return ((t, c), bs)

/-- LOAD_STORE_TABLE (R84): nine points, a temperature and a content each. -/
def StoreTableParams.parse (bs : List Byte) : Option (StoreTableParams × List Byte) := do
  let (points, bs) ← takeVec takePoint 9 bs
  return (⟨Vector.ofFn fun i : Fin 9 => points[i].1, Vector.ofFn fun i : Fin 9 => points[i].2⟩, bs)

/-- LOAD_STORE_TABLE (R84). -/
def StoreTableParams.bytes (p : StoreTableParams) : List Byte :=
  (p.temps.toList.zip p.contents.toList).flatMap fun q => beInt 2 q.1 ++ beBytes 4 q.2

/-- SET_TRAIN (R99), in the order of R96. -/
def TrainParams.parse (bs : List Byte) : Option (TrainParams × List Byte) := do
  let (entry, bs) ← takeNat 1 bs
  let (configured, bs) ← takeOpt (takeNat 1) bs
  let (kind, bs) ← takeOpt (takeNat 1) bs
  let (index, bs) ← takeOpt (takeNat 1) bs
  let (name, bs) ← takeOpt (takeVec (takeNat 1) 12) bs
  let (holdRating, bs) ← takeOpt (takeNat 1) bs
  let (ratedKw, bs) ← takeOpt (takeNat 4) bs
  let (minStableKw, bs) ← takeOpt (takeNat 4) bs
  let (priority, bs) ← takeOpt (takeNat 1) bs
  let (startLead, bs) ← takeOpt (takeNat 1) bs
  let (minRun, bs) ← takeOpt (takeNat 1) bs
  let (minRest, bs) ← takeOpt (takeNat 1) bs
  let (startTimeout, bs) ← takeOpt (takeNat 2) bs
  let (stopTimeout, bs) ← takeOpt (takeNat 2) bs
  return (⟨entry, configured, kind, index, name, holdRating, ratedKw, minStableKw, priority, startLead, minRun,
    minRest, startTimeout, stopTimeout⟩, bs)

/-- A name field of SET_TRAIN: presence and twelve character codes (R203). -/
def putOptName : Option (Vector Nat 12) → List Byte
  | none => beBytes 1 0 ++ List.replicate 12 0#8
  | some v => beBytes 1 1 ++ v.toList.flatMap (beBytes 1)

/-- SET_TRAIN (R99). -/
def TrainParams.bytes (p : TrainParams) : List Byte :=
  beBytes 1 p.entry ++ putOptNat 1 p.configured ++ putOptNat 1 p.kind ++ putOptNat 1 p.index ++ putOptName p.name
    ++ putOptNat 1 p.holdRating ++ putOptNat 4 p.ratedKw ++ putOptNat 4 p.minStableKw ++ putOptNat 1 p.priority
    ++ putOptNat 1 p.startLead ++ putOptNat 1 p.minRun ++ putOptNat 1 p.minRest ++ putOptNat 2 p.startTimeout
    ++ putOptNat 2 p.stopTimeout

/-- One outage window (R115). -/
def takeWindow (bs : List Byte) : Option (Window × List Byte) := do
  let (first, bs) ← takeNat 4 bs
  let (last, bs) ← takeNat 4 bs
  return (⟨first, last⟩, bs)

/-- One outage window (R115). -/
def Window.bytes (w : Window) : List Byte := beBytes 4 w.first ++ beBytes 4 w.last

/-- SET_OUTAGE (R115). -/
def OutageParams.parse (bs : List Byte) : Option (OutageParams × List Byte) := do
  let (entry, bs) ← takeNat 1 bs
  let (windows, bs) ← takeList takeWindow 4 ⟨0, 0⟩ bs
  return (⟨entry, windows⟩, bs)

/-- SET_OUTAGE (R115). -/
def OutageParams.bytes (p : OutageParams) : List Byte := beBytes 1 p.entry ++ putList Window.bytes 4 8 p.windows

/-- SET_SITE (R195). -/
def SiteParams.parse (bs : List Byte) : Option (SiteParams × List Byte) := do
  let (importLimit, bs) ← takeOpt (takeNat 4) bs
  let (exportLimit, bs) ← takeOpt (takeNat 4) bs
  let (changeoverGap, bs) ← takeOpt (takeNat 1) bs
  let (minNotice, bs) ← takeOpt (takeNat 1) bs
  let (pollPeriod, bs) ← takeOpt (takeNat 2) bs
  let (holdLimit, bs) ← takeOpt (takeNat 1) bs
  let (tol, bs) ← takeOpt (takeNat 2) bs
  let (errorThreshold, bs) ← takeOpt (takeNat 1) bs
  return (⟨importLimit, exportLimit, changeoverGap, minNotice, pollPeriod, holdLimit, tol, errorThreshold⟩, bs)

/-- SET_SITE (R195). -/
def SiteParams.bytes (p : SiteParams) : List Byte :=
  putOptNat 4 p.importLimit ++ putOptNat 4 p.exportLimit ++ putOptNat 1 p.changeoverGap ++ putOptNat 1 p.minNotice
    ++ putOptNat 2 p.pollPeriod ++ putOptNat 1 p.holdLimit ++ putOptNat 2 p.tol ++ putOptNat 1 p.errorThreshold

/-- A role: the alternative and two parameters (R203). -/
def takeRole (bs : List Byte) : Option (RoleCode × List Byte) := do
  let (alternative, bs) ← takeNat 1 bs
  let (first, bs) ← takeNat 1 bs
  let (second, bs) ← takeNat 1 bs
  return (⟨alternative, first, second⟩, bs)

/-- An optional role (R203). -/
def putOptRole : Option RoleCode → List Byte
  | none => beBytes 1 0 ++ List.replicate 3 0#8
  | some r => beBytes 1 1 ++ beBytes 1 r.alternative ++ beBytes 1 r.first ++ beBytes 1 r.second

/-- SET_CHANNEL (R143). -/
def ChannelParams.parse (bs : List Byte) : Option (ChannelParams × List Byte) := do
  let (channel, bs) ← takeNat 1 bs
  let (role, bs) ← takeOpt takeRole bs
  let (gain, bs) ← takeOpt (takeInt 2) bs
  let (offset, bs) ← takeOpt (takeInt 4) bs
  let (averaging, bs) ← takeOpt (takeNat 1) bs
  let (windowLow, bs) ← takeOpt (takeInt 4) bs
  let (windowHigh, bs) ← takeOpt (takeInt 4) bs
  let (windowMode, bs) ← takeOpt (takeNat 1) bs
  return (⟨channel, role, gain, offset, averaging, windowLow, windowHigh, windowMode⟩, bs)

/-- SET_CHANNEL (R143). -/
def ChannelParams.bytes (p : ChannelParams) : List Byte :=
  beBytes 1 p.channel ++ putOptRole p.role ++ putOptInt 2 p.gain ++ putOptInt 4 p.offset ++ putOptNat 1 p.averaging
    ++ putOptInt 4 p.windowLow ++ putOptInt 4 p.windowHigh ++ putOptNat 1 p.windowMode

/-- The value of an alias (R186). -/
def takeAlias (bs : List Byte) : Option (AliasValue × List Byte) := do
  let (address, bs) ← takeNat 1 bs
  let (entry, bs) ← takeNat 1 bs
  let (quiet, bs) ← takeNat 1 bs
  return (⟨address, entry, quiet⟩, bs)

/-- SET_ALIAS (R186): the table entry, then the alternative and its three parameters (R203; log entry 15). Any alternative
fits, and the command judges it, after BUSY (R186, R198). -/
def AliasParams.parse (bs : List Byte) : Option (AliasParams × List Byte) := do
  let (index, bs) ← takeNat 1 bs
  let (alternative, bs) ← takeNat 1 bs
  let (value, bs) ← takeAlias bs
  return (⟨index, alternative, value⟩, bs)

/-- SET_ALIAS (R186). -/
def AliasParams.bytes (p : AliasParams) : List Byte :=
  beBytes 1 p.index ++ beBytes 1 p.alternative ++ beBytes 1 p.value.address ++ beBytes 1 p.value.entry
    ++ beBytes 1 p.value.quiet

/-- One payload byte. -/
def takeByte : List Byte → Option (Byte × List Byte)
  | [] => none
  | b :: bs => some (b, bs)

/-- FORWARD (R187). -/
def ForwardParams.parse (bs : List Byte) : Option (ForwardParams × List Byte) := do
  let (address, bs) ← takeNat 1 bs
  let (kind, bs) ← takeNat 1 bs
  let (payload, bs) ← takeList takeByte 16 0#8 bs
  return (⟨address, kind, payload⟩, bs)

/-- FORWARD (R187). -/
def ForwardParams.bytes (p : ForwardParams) : List Byte :=
  beBytes 1 p.address ++ beBytes 1 p.kind ++ putList (fun b => [b]) 16 1 p.payload

/-- SET_INTERVAL (R160). -/
def takeIntervalForm (bs : List Byte) : Option ((Nat × Nat) × List Byte) := do
  let (n, bs) ← takeNat 4 bs
  let (form, bs) ← takeNat 1 bs
  return ((n, form), bs)

/-! ### Transfers -/

/-- The parse of a whole parameter area: a value with no byte left over (R190: the length fits). -/
def whole {α : Type} (r : Option (α × List Byte)) : Option α :=
  match r with
  | some (a, []) => some a
  | _ => none

/-- The parameter area of a command that takes none. -/
def noParams (i : Instr) (bs : List Byte) : Option Instr := if bs.isEmpty then some i else none

/-- The command of a code 1 to 38 with its parameter bytes, in the order of the command table of section 10.1
(R202); none when the bytes do not fit the command's parameters. -/
def decodeCommand (code : Nat) (bs : List Byte) : Option Instr :=
  match code with
  | 1 => (whole (BookParams.parse bs)).map .book
  | 2 => (whole (takeNat 2 bs)).map .confirm
  | 3 => (whole (AmendParams.parse bs)).map .amend
  | 4 => (whole (takeNat 2 bs)).map .retire
  | 5 => (whole (takeNat 2 bs)).map .readCommitment
  | 6 => (whole (takeNat 1 bs)).map .listCommitments
  | 7 => (whole (takeNat 1 bs)).map .readProjection
  | 8 => noParams .verify bs
  | 9 => (whole (CavernParams.parse bs)).map .setCavern
  | 10 => (whole (CavernTableParams.parse bs)).map .loadCavernTable
  | 11 => (whole (takeNat 1 bs)).map .readCavern
  | 12 => (whole (StoreParams.parse bs)).map .setStore
  | 13 => (whole (StoreTableParams.parse bs)).map .loadStoreTable
  | 14 => noParams .readStore bs
  | 15 => (whole (TrainParams.parse bs)).map .setTrain
  | 16 => (whole (OutageParams.parse bs)).map .setOutage
  | 17 => (whole (takeNat 1 bs)).map .withdraw
  | 18 => (whole (takeNat 1 bs)).map .restore
  | 19 => (whole (takeNat 1 bs)).map .release
  | 20 => (whole (takeNat 1 bs)).map .rebind
  | 21 => (whole (takeNat 1 bs)).map .readTrain
  | 22 => (whole (SiteParams.parse bs)).map .setSite
  | 23 => noParams .readDispatch bs
  | 24 => (whole (ChannelParams.parse bs)).map .setChannel
  | 25 => (whole (takeList (takeNat 1) 32 0 bs)).map .setScanList
  | 26 => (whole (takeNat 1 bs)).map .readChannel
  | 27 => noParams .snapshot bs
  | 28 => (whole (takeIntervalForm bs)).map fun q => .setInterval q.1 q.2
  | 29 => noParams .readClock bs
  | 30 => (whole (AliasParams.parse bs)).map .setAlias
  | 31 => (whole (ForwardParams.parse bs)).map .forward
  | 32 => (whole (takeNat 1 bs)).map .linkSpeed
  | 33 => noParams .readLink bs
  | 34 => noParams .saveSettings bs
  | 35 => noParams .readNotices bs
  | 36 => (whole (takeNat 3 bs)).map .setNoticeMask
  | 37 => noParams .resetStation bs
  | 38 => noParams .identify bs
  | _ => none

/-- The step that one transfer makes, from the bytes clocked in while SEL was held (R189, R190, R202): none when
no byte was clocked in; a fetch when the first byte is the fetch code 0; otherwise a request, decoded short frame
first, then unknown code, then the parameters. Bytes beyond the announced length are discarded. A misfit settings write
is thus BAD_VALUE, not BUSY, while a save is in flight (log entry 17). -/
def decodeTransfer (bytes : List Byte) : Option Instr :=
  match bytes with
  | [] => none
  | code :: rest =>
    if code = 0#8 then some (.fetch (rest.length + 1))
    else
      match rest with
      | [] => some (.unknownCommand .shortFrame)
      | len :: ps =>
        if ps.length < len.toNat then some (.unknownCommand .shortFrame)
        else if 38 < code.toNat then some (.unknownCommand (.unknownCode code.toNat))
        else
          match decodeCommand code.toNat (ps.take len.toNat) with
          | some i => some i
          | none => some (.unknownCommand (.misfit code.toNat))

/-- The command code and the parameter bytes of a station command; none for the other rows (R202). -/
def encodeCommand : Instr → Option (Nat × List Byte)
  | .book p => some (1, p.bytes)
  | .confirm key => some (2, beBytes 2 key)
  | .amend p => some (3, p.bytes)
  | .retire key => some (4, beBytes 2 key)
  | .readCommitment key => some (5, beBytes 2 key)
  | .listCommitments page => some (6, beBytes 1 page)
  | .readProjection page => some (7, beBytes 1 page)
  | .verify => some (8, [])
  | .setCavern p => some (9, p.bytes)
  | .loadCavernTable p => some (10, p.bytes)
  | .readCavern n => some (11, beBytes 1 n)
  | .setStore p => some (12, p.bytes)
  | .loadStoreTable p => some (13, p.bytes)
  | .readStore => some (14, [])
  | .setTrain p => some (15, p.bytes)
  | .setOutage p => some (16, p.bytes)
  | .withdraw e => some (17, beBytes 1 e)
  | .restore e => some (18, beBytes 1 e)
  | .release e => some (19, beBytes 1 e)
  | .rebind e => some (20, beBytes 1 e)
  | .readTrain e => some (21, beBytes 1 e)
  | .setSite p => some (22, p.bytes)
  | .readDispatch => some (23, [])
  | .setChannel p => some (24, p.bytes)
  | .setScanList l => some (25, putList (beBytes 1) 32 1 l)
  | .readChannel c => some (26, beBytes 1 c)
  | .snapshot => some (27, [])
  | .setInterval n form => some (28, beBytes 4 n ++ beBytes 1 form)
  | .readClock => some (29, [])
  | .setAlias p => some (30, p.bytes)
  | .forward p => some (31, p.bytes)
  | .linkSpeed t => some (32, beBytes 1 t)
  | .readLink => some (33, [])
  | .saveSettings => some (34, [])
  | .readNotices => some (35, [])
  | .setNoticeMask m => some (36, beBytes 3 m)
  | .resetStation => some (37, [])
  | .identify => some (38, [])
  | .unknownCommand _ => none
  | .fetch _ => none
  | .powerOnReset => none
  | .saveComplete => none
  | .pulse => none
  | .ownTimerExpiry => none
  | .absorbWindowClose => none
  | .siteTripAssert => none
  | .siteTripRelease => none
  | .runStart => none
  | .verificationRunComplete => none
  | .admissionRunComplete => none
  | .pinTimeout => none
  | .entryComplete _ => none
  | .grant => none
  | .replyReceived _ => none
  | .replyTimeout => none
  | .broadcastSent => none
  | .unsolicitedFrame => none
  | .linkReset => none
  | .startTimerExpiry _ => none
  | .stopTimerExpiry _ => none
  | .pollDue _ => none
  | .periodicIdent _ => none

/-- The bytes of the request transfer that carries a station command (R202); none for the other rows. -/
def encodeTransfer (i : Instr) : Option (List Byte) :=
  (encodeCommand i).map fun q => beBytes 1 q.1 ++ beBytes 1 q.2.length ++ q.2

end Sys2Proof
end

