-- ==== Sys2Proof/Machine/Types.lean ====
section
/-! DEFINITION. The records of the part's twelve blocks, as plain data: the commitment book, the projection engine,
the caverns, the heat store, the train roster, the dispatch unit, the scanner, the clock, the unit link, the
notices, the settings store and the station port. An enumerated type lists its values in the order of the list or
table that defines it, since that order gives their codes (R202). -/

namespace Sys2Proof.Machine

/-! ### Commitment book (chapter 1) -/

/-- What the store does for a trade (R1). -/
inductive Direction where
  | charge | discharge
  deriving DecidableEq, Repr

/-- The class a record is to take when admitted (R1). -/
inductive TradeClass where
  | tentative | firm
  deriving DecidableEq, Repr

/-- The commitment states (R1, section 1.3). -/
inductive RecordState where
  | proposed | refused | tentative | firm | active | ending | closed
  deriving DecidableEq, Repr

/-- The refusal reasons a record can show (R10); all but `late` are slot failure reasons (R36). -/
inductive Reason where
  | grid | capacity | changeover | heatShort | noCavern | tableRange | massLow | massHigh | rate | late
  deriving DecidableEq, Repr

/-- How a CLOSED record ended (R1). -/
inductive CloseOutcome where
  | honoured | short | curtailed | lapsed
  deriving DecidableEq, Repr

/-- A new power and the interval from which it applies (R1, R16). -/
structure PowerChange where
  power : Nat
  since : Nat
  deriving DecidableEq, Repr

/-- A refusal: the reason, the first failing interval, and the cavern number 1 to 4 where the reason is a cavern's
(R1, R10). -/
structure RefusalNote where
  reason : Reason
  interval : Nat
  cavern : Option Nat
  deriving DecidableEq, Repr

/-- A pending amendment, filled out with all three values (R1, R12). -/
structure Amendment where
  power : Nat
  length : Nat
  start : Nat
  deriving DecidableEq, Repr

/-- The result of the last amendment (R1). -/
inductive AmendResult where
  | admitted
  | refused (note : RefusalNote)
  deriving DecidableEq, Repr

/-- Energy owed and energy credited over a record's life, in Wh (R1, R23). -/
structure Sums where
  due : Nat
  delivered : Nat
  deriving DecidableEq, Repr

/-- A commitment record (R1), without its key: the key is its slot's generation × 128 plus the slot number (R3).
`atRisk` holds the first failing interval while the flag is set. -/
structure Record where
  tradeRef : Nat
  cls : TradeClass
  dir : Direction
  start : Nat
  length : Nat
  power : Nat
  change : Option PowerChange
  tolerance : Nat
  holdExpiry : Option Nat
  state : RecordState
  refusal : Option RefusalNote
  pendingAmend : Option Amendment
  lastAmend : Option AmendResult
  atRisk : Option Nat
  sums : Option Sums
  outcome : Option CloseOutcome
  deriving DecidableEq, Repr

/-- A slot of the book: its generation and the record it holds, or free (R3). -/
structure BookSlot where
  gen : Nat
  record : Option Record
  deriving DecidableEq, Repr

/-- The kind of an admission item (R28). -/
inductive ItemKind where
  | admitting | amend
  deriving DecidableEq, Repr

/-- An admission item (R28). -/
structure Item where
  key : Nat
  kind : ItemKind
  deriving DecidableEq, Repr

/-! ### Caverns (chapter 3) -/

/-- How far a measured value is trusted (R61, R82). -/
inductive Trust where
  | good | held | unknown
  deriving DecidableEq, Repr

/-- The ban a cavern or the store places on the dispatch unit (R61, R77, R82). -/
inductive Inhibit where
  | noBan | noDischarge | noCharge
  deriving DecidableEq, Repr

/-- Where a cavern's voted pressure lies against its table (R61). -/
inductive TableFlag where
  | inTable | belowTable | aboveTable
  deriving DecidableEq, Repr

/-- A pressure–mass table: 17 pressures at equally spaced masses (R61, R63). -/
structure MassTable where
  m0 : Nat
  step : Nat
  p : Vector Nat 17
  deriving DecidableEq, Repr

/-- One disagree flag for each position A, B and C (R61). -/
structure Disagree where
  a : Bool
  b : Bool
  c : Bool
  deriving DecidableEq, Repr

/-- The settings-class fields of a cavern (R61). -/
structure CavernCfg where
  inService : Bool
  weight : Nat
  table : MassTable
  pMin : Nat
  pMax : Nat
  rateLimit : Nat
  driftLimit : Nat
  deriving DecidableEq, Repr

/-- The working fields of a cavern (R61). -/
structure CavernWork where
  votedP : Option Nat
  status : Trust
  holdAge : Nat
  measured : Option Nat
  startMass : Nat
  drift : Option Int
  inhibit : Inhibit
  disagree : Disagree
  tableFlag : TableFlag
  deriving DecidableEq, Repr

/-! ### Heat store (chapter 4) -/

/-- The settings-class fields of the heat store (R82). -/
structure StoreCfg where
  capacity : Nat
  heatFloor : Nat
  capturePermille : Nat
  drawPermille : Nat
  lossPpm : Nat
  yieldG : Nat
  useG : Nat
  tMaxCharge : Int
  tMinDischarge : Int
  temps : Vector Int 9
  contents : Vector Nat 9
  deriving DecidableEq, Repr

/-- The working fields of the heat store (R82), and `heard`: whether a temperature outcome has been taken since the
previous boundary or beginning (R91 step 1). -/
structure StoreWork where
  meanT : Option Int
  validCount : Nat
  content : Option Nat
  startContent : Nat
  status : Trust
  holdAge : Nat
  inhibit : Inhibit
  heard : Bool
  deriving DecidableEq, Repr

/-! ### Train roster (chapter 5) -/

/-- What a train does (R96). -/
inductive TrainKind where
  | compressor | expander
  deriving DecidableEq, Repr

/-- The part's view of a train (R96, section 5.4). -/
inductive TrainState where
  | absent | ready | starting | running | stopping | resting | lockedOut | lost | withdrawn
  deriving DecidableEq, Repr

/-- The state a train reports (R96, R172). -/
inductive ReportedState where
  | stopped | starting | running | stopping | fault
  deriving DecidableEq, Repr

/-- Why the last attempt to bind did not succeed (R96). -/
inductive BindFault where
  | identity | kind | noAnswer
  deriving DecidableEq, Repr

/-- Why an entry is locked out (R96). -/
inductive LockoutCause where
  | reported | startFail | stopFail
  deriving DecidableEq, Repr

/-- The latest accepted reply of a train (R96). -/
structure Report where
  state : ReportedState
  kw : Nat
  fault : Nat
  deriving DecidableEq, Repr

/-- Which timer an entry runs (R105, R107). -/
inductive TimerKind where
  | start | stop
  deriving DecidableEq, Repr

/-- A running train timer: its kind and the moment it runs out (R105, R107). -/
structure Timer where
  kind : TimerKind
  expiry : Nat
  deriving DecidableEq, Repr

/-- The settings-class fields of a roster entry (R96). A name is its character codes of R204. -/
structure TrainCfg where
  configured : Bool
  kind : TrainKind
  index : Nat
  name : List Nat
  holdRating : Bool
  ratedKw : Nat
  minStableKw : Nat
  priority : Nat
  startLead : Nat
  minRun : Nat
  minRest : Nat
  startTimeout : Nat
  stopTimeout : Nat
  deriving DecidableEq, Repr

/-- The working fields of a roster entry (R96), its timer, and `identDue`: the moment the next periodic IDENT falls
due (R101). -/
structure TrainWork where
  outages : List Window
  state : TrainState
  bindFault : Option BindFault
  lockout : Option LockoutCause
  runCount : Nat
  restCount : Nat
  report : Option Report
  timer : Option Timer
  identDue : Option Nat
  deriving DecidableEq, Repr

/-! ### Instrument scanner (chapter 7) -/

/-- The position of a transducer on its cavern (R141). -/
inductive Position where
  | a | b | c
  deriving DecidableEq, Repr

/-- What an input measures (R141). Caverns are counted from 0 here, vessels and sensors too. -/
inductive Role where
  | cavernPressure (cavern : Fin 4) (pos : Position)
  | storeTemp (vessel : Fin 2) (sensor : Fin 4)
  | headerPressure
  | spare
  deriving DecidableEq, Repr

/-- Which side of the window is the alarm (R141). -/
inductive WindowMode where
  | alarmOutside | alarmInside
  deriving DecidableEq, Repr

/-- The window state of a result (R141). -/
inductive WindowState where
  | noState | clear | alarm
  deriving DecidableEq, Repr

/-- The settings-class fields of a channel entry (R141). -/
structure ChannelCfg where
  role : Role
  gain : Int
  offset : Int
  averaging : Nat
  windowLow : Int
  windowHigh : Int
  windowMode : WindowMode
  deriving DecidableEq, Repr

/-- A channel's latest result (R141, R147): valid exactly when it carries a value. -/
structure ChanResult where
  code : Nat
  value : Option Int
  window : WindowState
  deriving DecidableEq, Repr

/-- The outcome of a cavern's vote (R152, R154). -/
inductive VoteOutcome where
  | good (p : Nat)
  | noMajority
  deriving DecidableEq, Repr

/-- The record of a cavern's last vote (R155): the outcome, the counted values with their positions in sorted order,
the flags, and the pass count of the pass that produced it. -/
structure VoteRecord where
  outcome : VoteOutcome
  counted : List (Nat × Position)
  flags : Disagree
  pass : Nat
  deriving DecidableEq, Repr

/-- The snapshot copy (R157). -/
structure SnapCopy where
  results : Vector (Option ChanResult) 24
  marks : Vector Bool 24
  votes : Vector (Option VoteRecord) 4
  pass : Nat
  interval : Option Nat
  deriving DecidableEq, Repr

/-- The working state of the scanner (R141, R146, R151, R155, R157). `pos` and `began` say which entry of the scan
list is being converted and since when (R146). -/
structure Scanner where
  results : Vector (Option ChanResult) 24
  marks : Vector Bool 24
  pos : Nat
  began : Nat
  passCount : Nat
  votes : Vector (Option VoteRecord) 4
  flags : Vector Disagree 4
  handed : Vector Bool 4
  snapPending : Bool
  copy : Option SnapCopy
  deriving DecidableEq, Repr

/-! ### Settings (chapter 10) -/

/-- The eight site values (R195). -/
structure SiteCfg where
  importLimit : Nat
  exportLimit : Nat
  changeoverGap : Nat
  minNotice : Nat
  pollPeriod : Nat
  holdLimit : Nat
  tol : Nat
  errorThreshold : Nat
  deriving DecidableEq, Repr

/-- A valid alias table entry (R186). Roster entries are counted from 0 here. -/
structure AliasEntry where
  address : Nat
  entry : Fin 8
  quiet : Bool
  deriving DecidableEq, Repr

/-- All settings-class data (section 10.4): what the settings store's image holds. -/
structure Settings where
  trains : Vector TrainCfg 8
  caverns : Vector CavernCfg 4
  store : StoreCfg
  channels : Vector ChannelCfg 24
  scanList : List (Fin 24)
  aliases : Vector (Option AliasEntry) 8
  site : SiteCfg
  deriving DecidableEq, Repr

/-- Where the settings at the last power-on came from (R199, R201). -/
inductive SettingsSource where
  | image | defaults
  deriving DecidableEq, Repr

/-- The last save outcome (R197, R198, R201). -/
inductive SaveOutcome where
  | noSave | completed | abandoned
  deriving DecidableEq, Repr

/-- The settings store (R197 to R199): SAVING holds the data being written; an image that is absent fails its
check. -/
structure SettingsStore where
  saving : Option Settings
  image : Option Settings
  source : SettingsSource
  lastSave : SaveOutcome
  deriving DecidableEq, Repr

/-! ### Projection engine (chapter 2) -/

/-- The status of a projection slot (R36, R54): OK, the first failure reason, or NONE. -/
inductive SlotStatus where
  | ok
  | fail (r : Reason)
  | noStatus
  deriving DecidableEq, Repr

/-- End mass and end pressure of a cavern in a slot (R45). -/
structure CavernEnd where
  mass : Nat
  pressure : Nat
  deriving DecidableEq, Repr

/-- A slot of a projection table (R45). `failCavern` is 1 to 4, or 0 where the status is not a cavern's. -/
structure ProjSlot where
  interval : Nat
  net : Int
  chargeCap : Nat
  dischargeCap : Nat
  caverns : Vector (Option CavernEnd) 4
  heat : Nat
  dump : Bool
  status : SlotStatus
  failCavern : Nat
  deriving DecidableEq, Repr

/-- How a run counts a record (R34, R35): over its span, in slot 0 alone, or as the amendment of an ACTIVE record,
at its power in force in slot 0 and at the new power up to the last interval of the amended span. -/
inductive CountMode where
  | span
  | slotZero
  | amended (power : Nat) (last : Nat)
  deriving DecidableEq, Repr

/-- A counted record in a run's copy (R33, R34). -/
structure Counted where
  key : Nat
  dir : Direction
  power : Nat
  change : Option PowerChange
  start : Nat
  length : Nat
  mode : CountMode
  deriving DecidableEq, Repr

/-- What a run copies of a cavern (R33). -/
structure CavernInput where
  inService : Bool
  weight : Nat
  status : Trust
  startMass : Nat
  table : MassTable
  pMin : Nat
  pMax : Nat
  rateLimit : Nat
  deriving DecidableEq, Repr

/-- The copy of its inputs that a run works from (R33). The capacities are those of slots 0 to 287. -/
structure RunCopy where
  interval : Nat
  counted : List Counted
  caverns : Vector CavernInput 4
  startContent : Nat
  capacity : Nat
  heatFloor : Nat
  capturePermille : Nat
  drawPermille : Nat
  lossPpm : Nat
  storeStatus : Trust
  chargeCaps : List Nat
  dischargeCaps : List Nat
  importLimit : Nat
  exportLimit : Nat
  changeoverGap : Nat
  trip : Bool
  direction : Option Direction
  yieldG : Nat
  useG : Nat
  deriving DecidableEq, Repr

/-- The kind of a run (R59). -/
inductive RunKind where
  | admitting | amend | verification
  deriving DecidableEq, Repr

/-- The run in flight: its kind, its subject's key (absent for a verification run and for a run that has lost its
subject), whether a cause of R30 was taken after it started (R31), and its copy. -/
structure Run where
  kind : RunKind
  subject : Option Nat
  stale : Bool
  copy : RunCopy
  deriving DecidableEq, Repr

/-- The snapshot buffer (R58, R60): the copied table (none: an invalid copy), its run count, the superseded mark, and
the pin as the moment its 10 s timer last started. -/
structure SnapBuffer where
  table : Option (List ProjSlot)
  runCount : Nat
  superseded : Bool
  pin : Option Nat
  deriving DecidableEq, Repr

/-- The projection engine (R30 to R33, R54, R55, R58, R59). `live` and `closed` are absent while invalid. -/
structure Engine where
  run : Option Run
  flag : Bool
  live : Option (List ProjSlot)
  closed : Option ProjSlot
  runCount : Nat
  snap : SnapBuffer
  deriving DecidableEq, Repr

/-! ### Dispatch unit (chapter 6) -/

/-- A setpoint: the held value and the value last sent (R119). -/
structure Setpoint where
  held : Nat
  issued : Option Nat
  deriving DecidableEq, Repr

/-- A member of a tally (R121). -/
structure Member where
  key : Nat
  dir : Direction
  power : Nat
  deriving DecidableEq, Repr

/-- The open tally (R119, R121): accumulators in kW·ms. -/
structure OpenTally where
  interval : Nat
  members : List Member
  accCompressor : Nat
  accExpander : Nat
  deriving DecidableEq, Repr

/-- A member of the closed tally with its due and credited energy in Wh (R138). -/
structure Credit where
  member : Member
  due : Nat
  delivered : Nat
  deriving DecidableEq, Repr

/-- The closed tally (R138). `ePhys` is absent where N is 0, and the two energies are then unassigned (R137). -/
structure ClosedTally where
  interval : Nat
  credits : List Credit
  chargePower : Nat
  dischargePower : Nat
  compressorWh : Nat
  expanderWh : Nat
  ePhys : Option Nat
  deriving DecidableEq, Repr

/-- The dispatch unit (R119). The shortfall is `target - clamped`. -/
structure DispatchUnit where
  target : Int
  clamped : Int
  setpoints : Vector (Option Setpoint) 8
  changeKind : Option TrainKind
  changeCount : Nat
  trip : Bool
  expanderHold : Bool
  openTally : Option OpenTally
  closedTally : Option ClosedTally
  replyMarks : Vector (Option Nat) 8
  deriving DecidableEq, Repr

/-! ### Interval clock (chapter 8) -/

/-- How the clock stands toward the reference (R159). -/
inductive ClockMode where
  | unset | armed | locked | free | holdover
  deriving DecidableEq, Repr

/-- The interval clock (R159). `due` is the moment at which the boundary or beginning that opened the absorb window
was due (R167 step 5); `armed` is the number to begin (R162). -/
structure Clock where
  mode : ClockMode
  interval : Nat
  origin : Nat
  absorbOpen : Bool
  due : Nat
  armed : Option Nat
  earlyCount : Nat
  timerCount : Nat
  lastOffset : Option Int
  deriving DecidableEq, Repr

/-! ### Unit link (chapter 9) -/

/-- The link's two speeds (R173). -/
inductive Speed where
  | base | fast
  deriving DecidableEq, Repr

/-- The message kinds, in the order of their codes 1 to 11 (R172, R204). -/
inductive MsgKind where
  | poll | set | start | stop | ident | diagRead | diagWrite | speed | status | announce | reject
  deriving DecidableEq, Repr

/-- A unit-link frame without its check (R171). -/
structure Frame where
  address : Nat
  tag : Nat
  kind : MsgKind
  payload : List Byte
  deriving DecidableEq, Repr

/-- What a dispatch command tells its train (R177). -/
inductive CmdKind where
  | start
  | stop
  | set (kw : Nat)
  deriving DecidableEq, Repr

/-- A dispatch command (R177). -/
structure Cmd where
  entry : Fin 8
  kind : CmdKind
  deriving DecidableEq, Repr

/-- A forwarded message (R187): `owed` while the port waits for its response (R188, R191). -/
structure Fwd where
  entry : Fin 8
  kind : MsgKind
  payload : List Byte
  quiet : Bool
  owed : Bool
  deriving DecidableEq, Repr

/-- Where a transaction comes from (R173). -/
inductive Origin where
  | command (c : Cmd) (reissued : Bool)
  | passThrough (f : Fwd)
  | ident
  | poll
  | broadcast (target : Speed)
  deriving DecidableEq, Repr

/-- The transaction in flight (R173). `speeds`: the speeds at which its frame is sent, one sending after the other (R185).
`disowned`: a SET_TRAIN has made its outcome one that the roster and the dispatch unit do not take; `identAfter`: an IDENT
joins the line when it ends (R100). -/
structure Txn where
  frame : Frame
  speeds : List Speed
  entry : Option (Fin 8)
  origin : Origin
  disowned : Bool
  identAfter : Bool
  deriving DecidableEq, Repr

/-- The counters of an entry (R173, R181, R182). -/
structure Counters where
  crc : Nat
  seq : Nat
  missed : Nat
  reject : Nat
  consecutive : Nat
  deriving DecidableEq, Repr

/-- The poll mark of a bound entry (R179): whether a poll is due, and the moment the next one falls due. -/
structure PollMark where
  due : Bool
  next : Option Nat
  deriving DecidableEq, Repr

/-- The unit link controller (R173). `polls` holds a mark for each bound entry. -/
structure Link where
  slot : Option Txn
  speed : Speed
  speedPending : Option Speed
  tag : Nat
  cmds : List Cmd
  reissue : Option Cmd
  pass : List Fwd
  idents : List (Fin 8)
  polls : Vector (Option PollMark) 8
  lastPolled : Nat
  counters : Vector Counters 8
  stallCount : Nat
  unsolicited : Nat
  deriving DecidableEq, Repr

/-! ### Notices and station port (chapter 10) -/

/-- The 23 notices, in the order of the table of section 10.2. -/
inductive Notice where
  | admissionDone | atRisk | holdLapsed | closed | short | cavernLimit | drift | sensorDisagree | cavernHeld
  | cavernUnknown | heatLimit | trainFault | trainLost | identity | shortfall | holdover | pulseUnstable
  | linkErrors | linkStall | window | saveDone | settingsDefaulted | siteTrip
  deriving DecidableEq, Repr

/-- The notice set, the mask and the reported set (R192, R193). -/
structure Notices where
  flags : NoticeSet
  mask : NoticeSet
  reported : NoticeSet
  deriving DecidableEq, Repr

/-- The result codes, in the order of their codes 0 to 15 (section 10.1, R202). -/
inductive ResultCode where
  | done | queued | full | queueFull | noRecord | wrongState | badValue | horizon | late | clockUnset | busy | owned
  | timeout | noSnapshot | sequenceError | unknownCommand
  deriving DecidableEq, Repr

/-- An entry of a LIST_COMMITMENTS page (R26): a record's key and state, or a free slot's next generation. -/
inductive ListEntry where
  | occupied (key : Nat) (state : RecordState)
  | vacant (gen : Nat)
  deriving DecidableEq, Repr

/-- The header of a projection page (R59, R205). -/
structure ProjHeader where
  runCount : Nat
  page : Nat
  superseded : Bool
  running : Option (RunKind × Option Nat)
  flag : Bool
  items : List Item
  deriving DecidableEq, Repr

/-- What READ_CHANNEL carries (R158). -/
structure ChannelView where
  cfg : ChannelCfg
  result : Option ChanResult
  mark : Bool
  snap : Option (Option ChanResult)
  vote : Option VoteRecord
  scanning : Bool
  passCount : Nat
  scanList : List (Fin 24)
  snapPending : Bool
  snapStamp : Option (Nat × Option Nat)
  deriving DecidableEq, Repr

/-- What READ_CLOCK carries (R170). -/
structure ClockView where
  mode : ClockMode
  interval : Nat
  armed : Option Nat
  elapsed : Option Nat
  remaining : Option Nat
  absorbOpen : Bool
  earlyCount : Nat
  timerCount : Nat
  lastOffset : Option Int
  deriving DecidableEq, Repr

/-- The body of a response: what each reading command carries, as it stood when the request was taken. The bytes of
a body are `Body.bytes` (R202, R203, R205). -/
inductive Body where
  | empty
  | key (k : Nat)
  | commitment (k : Nat) (r : Record)
  | listing (entries : List ListEntry) (held : Nat)
  | projection (h : ProjHeader) (slot0 : Option Nat) (slots : List ProjSlot)
  | cavern (number : Nat) (cfg : CavernCfg) (work : CavernWork) (transducers : Vector (Option Nat) 3)
  | store (cfg : StoreCfg) (work : StoreWork) (sensors : Vector (Option Nat) 8)
  | train (number : Nat) (cfg : TrainCfg) (work : TrainWork) (address : Option Nat) (countsFrom : Option Nat)
      (secondsLeft : Option Nat)
  | dispatch (d : DispatchUnit)
  | channel (v : ChannelView)
  | clock (v : ClockView)
  | link (l : Link) (addresses : Vector (Option Nat) 8) (aliases : Vector (Option AliasEntry) 8)
  | notices (flags mask : NoticeSet)
  | identity (source : SettingsSource) (saving : Bool) (lastSave : SaveOutcome)
  | reply (kind : MsgKind) (payload : List Byte)
  deriving DecidableEq, Repr

/-- A response frame: a result code and a body (R189, R190). -/
structure Response where
  result : ResultCode
  body : Body
  deriving DecidableEq, Repr

/-- The state of the station port (R189). -/
inductive PortState where
  | idle
  | owed
  | holding (r : Response)
  deriving DecidableEq, Repr

/-- The station port: its state, and the bytes the last transfer clocked out on SDO (R189, R202). -/
structure Port where
  state : PortState
  sdo : List Byte
  deriving DecidableEq, Repr

/-- The level of the TRIP input (R119, R126). -/
structure Pins where
  trip : Bool
  deriving DecidableEq, Repr

end Sys2Proof.Machine
end

