-- ==== Sys2Proof/Machine/Defaults.lean ====
section
/-! DEFINITION. The factory defaults of the settings-class data (R62, R83, R97, R142, R145, R173, R195), and the value
every working record takes at a power-on reset and at a station reset. -/

namespace Sys2Proof.Machine

/-- Factory defaults of a cavern (R62). -/
def CavernCfg.factory : CavernCfg where
  inService := false
  weight := 0
  table := { m0 := 0, step := 250000000, p := Vector.replicate 17 0 }
  pMin := 0
  pMax := 30000
  rateLimit := 12
  driftLimit := 1000000

/-- Factory defaults of the heat store (R83). -/
def StoreCfg.factory : StoreCfg where
  capacity := 0
  heatFloor := 0
  capturePermille := 600
  drawPermille := 550
  lossPpm := 20
  yieldG := 7000
  useG := 6500
  tMaxCharge := 7000
  tMinDischarge := -400
  temps := ⟨#[-400, 500, 1400, 2300, 3200, 4100, 5000, 5900, 6800], rfl⟩
  contents := Vector.replicate 9 0

/-- The name UNNAMED in the character codes of R204 (R97). -/
def unnamed : List Nat := [21, 14, 14, 1, 13, 5, 4]

/-- Factory defaults of roster entry `i + 1` (R97): the index is the entry number less 1. -/
def TrainCfg.factory (i : Fin 8) : TrainCfg where
  configured := false
  kind := .compressor
  index := i
  name := unnamed
  holdRating := false
  ratedKw := 1000
  minStableKw := 0
  priority := 15
  startLead := 0
  minRun := 1
  minRest := 0
  startTimeout := 300
  stopTimeout := 300

/-- Factory defaults of a channel (R142). -/
def ChannelCfg.factory : ChannelCfg where
  role := .spare
  gain := 4096
  offset := 0
  averaging := 1
  windowLow := 0
  windowHigh := 4095
  windowMode := .alarmOutside

/-- Default site values (R195). -/
def SiteCfg.factory : SiteCfg where
  importLimit := 400000
  exportLimit := 400000
  changeoverGap := 1
  minNotice := 2
  pollPeriod := 1000
  holdLimit := 6
  tol := 25
  errorThreshold := 16

/-- The factory defaults of every settings-class value (R199). -/
def Settings.factory : Settings where
  trains := Vector.ofFn TrainCfg.factory
  caverns := Vector.replicate 4 .factory
  store := .factory
  channels := Vector.replicate 24 .factory
  scanList := []
  aliases := Vector.replicate 8 none
  site := .factory

/-- All three disagree flags clear. -/
def Disagree.allClear : Disagree := ⟨false, false, false⟩

/-- Working fields of a cavern after a reset (R62). -/
def CavernWork.cleared : CavernWork where
  votedP := none
  status := .held
  holdAge := 0
  measured := none
  startMass := 0
  drift := none
  inhibit := .noBan
  disagree := .allClear
  tableFlag := .inTable

/-- Working fields of the heat store after a reset (R83). -/
def StoreWork.cleared : StoreWork where
  meanT := none
  validCount := 0
  content := none
  startContent := 0
  status := .held
  holdAge := 0
  inhibit := .noBan
  heard := false

/-- Working fields of a roster entry after a reset (R97). -/
def TrainWork.cleared : TrainWork where
  outages := []
  state := .absent
  bindFault := none
  lockout := none
  runCount := 0
  restCount := 0
  report := none
  timer := none
  identDue := none

/-- The scanner after a reset at moment `now` (R142, R151, R155, R157): where the scan list is not empty a pass begins
at its head at once. -/
def Scanner.cleared (now : Nat) : Scanner where
  results := Vector.replicate 24 none
  marks := Vector.replicate 24 false
  pos := 0
  began := now
  passCount := 0
  votes := Vector.replicate 4 none
  flags := Vector.replicate 4 .allClear
  handed := Vector.replicate 4 false
  snapPending := false
  copy := none

/-- An empty snapshot buffer that is not pinned (R60). -/
def SnapBuffer.cleared : SnapBuffer := { table := none, runCount := 0, superseded := false, pin := none }

/-- The projection engine after a reset (R31, R32, R54, R59, R60). -/
def Engine.cleared : Engine where
  run := none
  flag := false
  live := none
  closed := none
  runCount := 0
  snap := .cleared

/-- The dispatch unit after a reset, before the TRIP input is taken (R120). -/
def DispatchUnit.cleared : DispatchUnit where
  target := 0
  clamped := 0
  setpoints := Vector.replicate 8 none
  changeKind := none
  changeCount := 3
  trip := false
  expanderHold := false
  openTally := none
  closedTally := none
  replyMarks := Vector.replicate 8 none

/-- The clock after a power-on reset (R159). -/
def Clock.cleared : Clock where
  mode := .unset
  interval := 0
  origin := 0
  absorbOpen := false
  due := 0
  armed := none
  earlyCount := 0
  timerCount := 0
  lastOffset := none

/-- The entries of an IDENT line after a reset: each configured entry (R97, R101). That they join it in order of entry number is
the model's (DESIGN CHOICE, log entry 41): no rule gives the order. -/
def identLineOf (trains : Vector TrainCfg 8) : List (Fin 8) :=
  (List.finRange 8).filter fun i => trains[i].configured

/-- Counters at zero (R173). -/
def Counters.zero : Counters := ⟨0, 0, 0, 0, 0⟩

/-- The unit link after a reset, with the IDENTs the roster then puts in line (R97, R173): a SPEED broadcast with
target BASE is pending. -/
def Link.cleared (trains : Vector TrainCfg 8) : Link where
  slot := none
  speed := .base
  speedPending := some .base
  tag := 0
  cmds := []
  reissue := none
  pass := []
  idents := identLineOf trains
  polls := Vector.replicate 8 none
  lastPolled := 0
  counters := Vector.replicate 8 .zero
  stallCount := 0
  unsolicited := 0

/-- The book after a power-on reset: every slot free at generation 0 (R6). -/
def emptyBook : Vector BookSlot 128 := Vector.replicate 128 { gen := 0, record := none }

/-- The bit of a notice: its position in the table of section 10.2 (R203). -/
def Notice.index : Notice → Nat
  | .admissionDone => 0
  | .atRisk => 1
  | .holdLapsed => 2
  | .closed => 3
  | .short => 4
  | .cavernLimit => 5
  | .drift => 6
  | .sensorDisagree => 7
  | .cavernHeld => 8
  | .cavernUnknown => 9
  | .heatLimit => 10
  | .trainFault => 11
  | .trainLost => 12
  | .identity => 13
  | .shortfall => 14
  | .holdover => 15
  | .pulseUnstable => 16
  | .linkErrors => 17
  | .linkStall => 18
  | .window => 19
  | .saveDone => 20
  | .settingsDefaulted => 21
  | .siteTrip => 22

/-- The set that holds one notice. -/
def Notice.bit (n : Notice) : NoticeSet := BitVec.twoPow 23 n.index

/-- Notices after a reset: every flag clear, the mask holding all 23, nothing reported (R192, R200). -/
def Notices.cleared : Notices := { flags := 0, mask := BitVec.allOnes 23, reported := 0 }

end Sys2Proof.Machine
end

