-- ==== Sys2Proof/Machine/State.lean ====
section
/-! DEFINITION. The state of the Indabel 7220 as plain data, its reset value, and the reasons a step could stop. -/

namespace Sys2Proof.Machine

/-- Why a step could end in a fault. The manual names no event that stops the part: a refused command is answered
with a result code, a bad frame is counted. So there is no fault, and the type is empty. -/
inductive Fault where
  deriving DecidableEq, Repr

/-- Why the model could give a command no meaning. -/
inductive Refusal where
  /-- Raised by `exec`'s arm of a command that has no meaning yet, by its mnemonic; no arm raises it. Safe: nothing is
  claimed of such a command. -/
  | notModelled (mnemonic : String)
  deriving DecidableEq, Repr

/-- The whole state of the part.

`now` (the present moment in ms of the part's time base), `free` (how many free values have been taken) and
`pending` (the commands waiting, oldest first) are the model's own; every other field is the part's. -/
structure State where
  /-- The present moment, in ms of the part's time base (R159; log entry 1). -/
  now : Nat
  /-- How many free values have been taken (log entry 5). -/
  free : Nat
  /-- The level of the TRIP input. -/
  pins : Pins
  /-- The settings-class data in working memory (section 10.4). -/
  cfg : Settings
  /-- The commitment book (R3). -/
  book : Vector BookSlot 128
  /-- The admission queue, oldest first (R28). -/
  queue : List Item
  /-- The projection engine (chapter 2). -/
  engine : Engine
  /-- The working fields of the four caverns (R61). -/
  caverns : Vector CavernWork 4
  /-- The working fields of the heat store (R82). -/
  store : StoreWork
  /-- The working fields of the eight roster entries (R96). -/
  trains : Vector TrainWork 8
  /-- The dispatch unit (R119). -/
  disp : DispatchUnit
  /-- The instrument scanner (R141, R146). -/
  scan : Scanner
  /-- The interval clock (R159). -/
  clock : Clock
  /-- The unit link controller (R173). -/
  link : Link
  /-- The notice set, the mask and the reported set (R192, R193). -/
  notices : Notices
  /-- The settings store (R197). -/
  nv : SettingsStore
  /-- The station port (R189). -/
  port : Port
  /-- The commands that are waiting, first in first out (log entry 5). -/
  pending : List Instr
  deriving DecidableEq, Repr

/-- The part right after a power-on reset whose settings store was never written, so that the factory defaults are
loaded and SETTINGS_DEFAULTED stands (R199), with TRIP released and no command waiting. Log entry 4. -/
def State.reset : State where
  now := 0
  free := 0
  pins := { trip := false }
  cfg := .factory
  book := emptyBook
  queue := []
  engine := .cleared
  caverns := Vector.replicate 4 .cleared
  store := .cleared
  trains := Vector.replicate 8 .cleared
  disp := .cleared
  scan := .cleared 0
  clock := .cleared
  link := .cleared Settings.factory.trains
  notices := { Notices.cleared with flags := Notice.settingsDefaulted.bit }
  nv := { saving := none, image := none, source := .defaults, lastSave := .noSave }
  port := { state := .idle, sdo := [] }
  pending := []

end Sys2Proof.Machine
end

