-- ==== Sys2Proof/Machine/Operands.lean ====
section
/-! DEFINITION. Every operand form: the value an operand's code stands for (R202: the position of the value in the
list that defines it), the entry an operand's number names, and the ranges of chapters 1 to 10. -/

namespace Sys2Proof.Machine

/-! ### Codes -/

/-- A set-or-clear field (R203): 0 clear, 1 set. -/
def flagOf : Nat → Option Bool
  | 0 => some false
  | 1 => some true
  | _ => none

/-- A class (R8). -/
def classOf : Nat → Option TradeClass
  | 0 => some .tentative
  | 1 => some .firm
  | _ => none

/-- A direction (R8, R202). -/
def directionOf : Nat → Option Direction
  | 0 => some .charge
  | 1 => some .discharge
  | _ => none

/-- A train kind (R96). -/
def trainKindOf : Nat → Option TrainKind
  | 0 => some .compressor
  | 1 => some .expander
  | _ => none

/-- A position on a cavern (R141). -/
def positionOf : Nat → Option Position
  | 0 => some .a
  | 1 => some .b
  | 2 => some .c
  | _ => none

/-- A window mode (R141). -/
def windowModeOf : Nat → Option WindowMode
  | 0 => some .alarmOutside
  | 1 => some .alarmInside
  | _ => none

/-- A link speed (R173, R185). -/
def speedOf : Nat → Option Speed
  | 0 => some .base
  | 1 => some .fast
  | _ => none

/-- A form of SET_INTERVAL (R160): 0 NOW (true), 1 AT_PULSE (false). -/
def nowFormOf : Nat → Option Bool
  | 0 => some true
  | 1 => some false
  | _ => none

/-- A message kind that the part sends, by its position in R172's table (R187, R202; log entry 15). -/
def sentKindOf : Nat → Option MsgKind
  | 0 => some .poll
  | 1 => some .set
  | 2 => some .start
  | 3 => some .stop
  | 4 => some .ident
  | 5 => some .diagRead
  | 6 => some .diagWrite
  | 7 => some .speed
  | _ => none

/-- A state a train reports, by its code on the link (R204). -/
def reportedOf : Nat → Option ReportedState
  | 0 => some .stopped
  | 1 => some .starting
  | 2 => some .running
  | 3 => some .stopping
  | 4 => some .fault
  | _ => none

/-- A message kind by its code on the link, 1 to 11 (R204). -/
def msgKindOf : Nat → Option MsgKind
  | 1 => some .poll
  | 2 => some .set
  | 3 => some .start
  | 4 => some .stop
  | 5 => some .ident
  | 6 => some .diagRead
  | 7 => some .diagWrite
  | 8 => some .speed
  | 9 => some .status
  | 10 => some .announce
  | 11 => some .reject
  | _ => none

/-- A name from its twelve character codes (R96, R204): 1 to 12 characters of codes 1 to 40, then only zeros. -/
def nameOf (codes : List Nat) : Option (List Nat) :=
  let name := codes.takeWhile (fun c => c != 0)
  if name.isEmpty || name.any (fun c => decide (40 < c)) || (codes.drop name.length).any (fun c => c != 0) then none
  else some name

/-! ### Numbers that name an entry -/

/-- A roster entry number 1 to 8 (R96), as an index. -/
def entryOf (n : Nat) : Option (Fin 8) := if h : 1 ≤ n ∧ n ≤ 8 then some ⟨n - 1, by omega⟩ else none

/-- A cavern number 1 to 4 (R61), as an index. -/
def cavernOf (n : Nat) : Option (Fin 4) := if h : 1 ≤ n ∧ n ≤ 4 then some ⟨n - 1, by omega⟩ else none

/-- A channel number 0 to 23 (R141). -/
def channelOf (n : Nat) : Option (Fin 24) := if h : n < 24 then some ⟨n, h⟩ else none

/-- An alias table entry 0 to 7 (R186). -/
def aliasIndexOf (n : Nat) : Option (Fin 8) := if h : n < 8 then some ⟨n, h⟩ else none

/-- A role with its cavern and position, or its vessel and sensor, within range (R141, R143). The two parameters of
HEADER_PRESSURE and SPARE are unused; R203 says that they hold 0, and one that does not is passed over (DESIGN CHOICE, log
entry 15). -/
def roleOf (r : RoleCode) : Option Role :=
  match r.alternative with
  | 0 =>
    match cavernOf r.first, positionOf r.second with
    | some c, some p => some (.cavernPressure c p)
    | _, _ => none
  | 1 =>
    if h : (1 ≤ r.first ∧ r.first ≤ 2) ∧ (1 ≤ r.second ∧ r.second ≤ 4) then
      some (.storeTemp ⟨r.first - 1, by omega⟩ ⟨r.second - 1, by omega⟩)
    else none
  | 2 => some .headerPressure
  | 3 => some .spare
  | _ => none

/-! ### Ranges -/

/-- An optional number, where given, lies from `lo` to `hi`. -/
def within (lo hi : Nat) (o : Option Nat) : Bool := o.all fun n => decide (lo ≤ n) && decide (n ≤ hi)

/-- An optional signed number, where given, lies from `lo` to `hi`. -/
def withinInt (lo hi : Int) (o : Option Int) : Bool := o.all fun n => decide (lo ≤ n) && decide (n ≤ hi)

/-- An optional code, where given, is one of its values. -/
def isCode {α : Type} (f : Nat → Option α) (o : Option Nat) : Bool := o.all fun n => (f n).isSome

/-- The value an optional code stands for, or the value kept when it is left out. -/
def codeOr {α : Type} (f : Nat → Option α) (o : Option Nat) (kept : α) : α := (o.bind f).getD kept

/-- A commitment's power (R1). -/
def powerOk (p : Nat) : Bool := decide (1 ≤ p) && decide (p ≤ 400000)

/-- A commitment's length (R1). -/
def lengthOk (l : Nat) : Bool := decide (1 ≤ l) && decide (l ≤ 48)

end Sys2Proof.Machine
end

