-- ==== Sys2Proof/Machine/Flags.lean ====
section
/-! DEFINITION. Every flag, mark and judgement that the manual computes from other state: READY and ATTN, window states,
inhibits, the expander hold, and the views the cavern and store records give of the channel roles. -/

namespace Sys2Proof.Machine

/-- READY is asserted while the port holds a response (R189). -/
def State.ready (s : State) : Bool :=
  match s.port.state with
  | .holding _ => true
  | _ => false

/-- ATTN is asserted while any flag that is both set and enabled stands (R192). -/
def State.attn (s : State) : Bool := s.notices.flags &&& s.notices.mask != 0

/-- A notice stands in the set. -/
def State.noticeSet (s : State) (n : Notice) : Bool := s.notices.flags.getLsbD n.index

/-- The window state of a valid result's value (R148). -/
def windowStateOf (cfg : ChannelCfg) (v : Int) : WindowState :=
  match cfg.windowMode with
  | .alarmOutside => if v < cfg.windowLow ∨ cfg.windowHigh < v then .alarm else .clear
  | .alarmInside => if cfg.windowLow ≤ v ∧ v ≤ cfg.windowHigh then .alarm else .clear

/-- A result with its window state judged again, if it is valid (R144 step 2). -/
def ChanResult.rejudge (cfg : ChannelCfg) (r : ChanResult) : ChanResult :=
  match r.value with
  | some v => { r with window := windowStateOf cfg v }
  | none => r

/-- The window state of a channel; NONE where its result is absent (R142). -/
def windowOfResult (r : Option ChanResult) : WindowState :=
  match r with
  | some x => x.window
  | none => .noState

/-- A result holds expander starts back: it is in ALARM, or it is present and invalid (R132, R149). -/
def holdsBack (r : Option ChanResult) : Bool :=
  match r with
  | some x => decide (x.window = .alarm) || x.value.isNone
  | none => false

/-- The expander hold: some HEADER_PRESSURE channel holds expander starts back (R132). -/
def expanderHoldOf (channels : Vector ChannelCfg 24) (results : Vector (Option ChanResult) 24) : Bool :=
  (List.finRange 24).any fun i => decide (channels[i].role = .headerPressure) && holdsBack results[i]

/-- A cavern's inhibit, judged from its voted pressure (R78). -/
def cavernInhibitOf (cfg : CavernCfg) (votedP : Option Nat) : Inhibit :=
  match votedP with
  | none => .noBan
  | some p =>
    if cfg.inService = false ∨ cfg.weight = 0 then .noBan
    else if p < cfg.pMin then .noDischarge
    else if cfg.pMax < p then .noCharge
    else .noBan

/-- The store's inhibit, judged from its mean temperature (R94). -/
def storeInhibitOf (cfg : StoreCfg) (meanT : Option Int) : Inhibit :=
  match meanT with
  | none => .noBan
  | some t =>
    if cfg.tMaxCharge < t then .noCharge
    else if t < cfg.tMinDischarge then .noDischarge
    else .noBan

/-- The channel that holds a role, the lowest-numbered where several could (R61, R82, R141). -/
def channelWithRole (channels : Vector ChannelCfg 24) (r : Role) : Option (Fin 24) :=
  (List.finRange 24).find? fun i => decide (channels[i].role = r)

/-- The transducers field of a cavern record (R61). -/
def transducersOf (channels : Vector ChannelCfg 24) (i : Fin 4) : Vector (Option Nat) 3 :=
  ⟨#[(channelWithRole channels (.cavernPressure i .a)).map Fin.val,
     (channelWithRole channels (.cavernPressure i .b)).map Fin.val,
     (channelWithRole channels (.cavernPressure i .c)).map Fin.val], rfl⟩

/-- The sensors field of the store record: vessel 1 sensors 1 to 4, then vessel 2 (R82). -/
def sensorsOf (channels : Vector ChannelCfg 24) : Vector (Option Nat) 8 :=
  Vector.ofFn fun i : Fin 8 =>
    (channelWithRole channels (.storeTemp ⟨i / 4, by omega⟩ ⟨i % 4, by omega⟩)).map Fin.val

/-- A bound train state (section 5.3). -/
def TrainState.bound : TrainState → Bool
  | .absent => false
  | .withdrawn => false
  | _ => true

/-- The three groups of states by the slots they count in (R117): every slot, from a first slot, none. -/
def TrainState.group : TrainState → Nat
  | .starting => 0
  | .running => 0
  | .ready => 1
  | .resting => 1
  | _ => 2

/-- The states in which a held setpoint stays (R119, R129; log entry 9 for READY). -/
def TrainState.keepsSetpoint : TrainState → Bool
  | .starting => true
  | .running => true
  | .lost => true
  | _ => false

/-- The clock runs: LOCKED, FREE or HOLDOVER (R32, R159). -/
def Clock.running (c : Clock) : Bool :=
  match c.mode with
  | .unset => false
  | .armed => false
  | _ => true

/-- The moment the own timer runs out; absent while it is not running (R159). -/
def Clock.expiry (c : Clock) : Option Nat :=
  match c.mode with
  | .unset => none
  | .armed => none
  | .locked => some (c.origin + 302000)
  | .free => some (c.origin + 300000)
  | .holdover => some (c.origin + 300000)

/-- The address formed from an entry's kind and index: kind code 12 or 13 in the upper four bits and the index in the
lower (R98). It is formed from the kind and the index as they stand. So a new kind or index of a WITHDRAWN entry, whose address
takes effect at RESTORE or REBIND by R100, is used at once for a message forwarded to it, an IDENT of it that waits, and
READ_TRAIN (DEDUCED from R98, R180 and R188, log entry 46). -/
def TrainCfg.busAddress (t : TrainCfg) : Nat := (match t.kind with | .compressor => 12 | .expander => 13) * 16 + t.index

/-- The link address of a roster entry; absent for an entry that is not configured (R98). -/
def TrainCfg.address (t : TrainCfg) : Option Nat := if t.configured then some t.busAddress else none

end Sys2Proof.Machine
end

