-- ==== Sys2Proof/Machine/Ops.lean ====
section
/-! DEFINITION. The shared operations over the state: arithmetic words, notices, the station port's answers, the book and
its keys, the admission queue, the verification-pending flag, the link's command queue and IDENT line, and the
moves of a roster entry. Each is written once; the meanings of the commands are built from them. -/

namespace Sys2Proof.Machine

/-- The outcome of a command: always a next state, since the manual names no stop. -/
abbrev Result := Host.Outcome State Fault Refusal

/-! ### Arithmetic words (00_scope.md) -/

/-- `n / d` rounded half away from zero, for a magnitude `n` and a divisor above 0. -/
def roundDiv (n d : Nat) : Nat := (2 * n + d) / (2 * d)

/-- One more, held at `cap` once it gets there. -/
def incTo (cap n : Nat) : Nat := if cap ≤ n then cap else n + 1

/-- One more of a 32-bit count that returns to 0 after 4,294,967,295. -/
def wrapInc (n : Nat) : Nat := if 4294967295 ≤ n then 0 else n + 1

/-! ### Notices (R192, R193) -/

/-- Raise a notice: its flag is set, and it leaves the reported set. -/
def raise (n : Notice) (s : State) : State :=
  { s with notices := { s.notices with flags := s.notices.flags ||| n.bit, reported := s.notices.reported &&& ~~~n.bit } }

/-- Raise a notice where `b` holds. -/
def raiseIf (b : Bool) (n : Notice) (s : State) : State := if b then raise n s else s

/-! ### The verification-pending flag (R30, R31) -/

/-- A cause of R30: the flag is set, and a run in flight no longer covers every cause. -/
def setVerify (s : State) : State :=
  { s with engine := { s.engine with flag := true, run := s.engine.run.map fun r => { r with stale := true } } }

/-- A cause of R30 where `b` holds. -/
def setVerifyIf (b : Bool) (s : State) : State := if b then setVerify s else s

/-! ### Answers of the station port (R189 to R191) -/

/-- The code of the port's state, clocked out in every byte of a request transfer (R202). -/
def PortState.code : PortState → Nat
  | .idle => 0
  | .owed => 1
  | .holding _ => 2

/-- The port holds a response, and READY is asserted. -/
def answer (r : ResultCode) (b : Body) (s : State) : State :=
  { s with port := { s.port with state := .holding ⟨r, b⟩ } }

/-- A refusal or an answer that carries nothing: an empty body (R190). -/
def reply (r : ResultCode) (s : State) : State := answer r .empty s

/-- A forwarded message whose response is not owed to the port any longer (R191). -/
def Fwd.disowned (f : Fwd) : Fwd := { f with owed := false }

/-- A transaction whose response is not owed to the port any longer (R191). -/
def Txn.forwardDisowned (t : Txn) : Txn :=
  match t.origin with
  | .passThrough f => { t with origin := .passThrough f.disowned }
  | _ => t

/-- No forwarded message's response is owed to the port any longer (R191). -/
def disownForwards (s : State) : State :=
  { s with link := { s.link with pass := s.link.pass.map Fwd.disowned, slot := s.link.slot.map Txn.forwardDisowned } }

/-- A request taken while a response is owed or unread: the port holds SEQUENCE_ERROR, the earlier response is
discarded, and nothing else of the part changes (R191, R193). -/
def sequenceError (s : State) : State :=
  let s := disownForwards s
  let s := { s with notices := { s.notices with reported := 0 } }
  { s with port := { state := .holding ⟨.sequenceError, .empty⟩, sdo := [BitVec.ofNat 8 s.port.state.code] } }

/-- A taken request (R189, R191): in IDLE the command acts; otherwise it is not decoded. -/
def station (act : State → State) (s : State) : State :=
  match s.port.state with
  | .idle => act { s with port := { s.port with sdo := [0#8] } }
  | _ => sequenceError s

/-- A settings-class write: refused BUSY, its values not examined, while a save is in flight (R198). -/
def settingsWrite (act : State → State) (s : State) : State := if s.nv.saving.isSome then reply .busy s else act s

/-! ### The book and its keys (R3 to R5) -/

/-- The book slot a key gives (R3). -/
def slotOfKey (key : Nat) : Fin 128 := ⟨key % 128, by omega⟩

/-- The key of a slot at a generation (R3). -/
def keyOf (i : Fin 128) (gen : Nat) : Nat := gen * 128 + i

/-- The record a key names; none when the slot is free or its generation differs (R5). -/
def State.lookup (s : State) (key : Nat) : Option Record :=
  let slot := s.book[slotOfKey key]
  if slot.gen = key / 128 then slot.record else none

/-- Write the record a key names; a key that names none writes nothing (R5). -/
def setRecord (key : Nat) (r : Record) (s : State) : State :=
  match s.lookup key with
  | some _ => { s with book := s.book.set (slotOfKey key) { s.book[slotOfKey key] with record := some r } }
  | none => s

/-- Free the slot of the record a key names: the record goes whole and the generation moves on (R4). -/
def freeRecord (key : Nat) (s : State) : State :=
  match s.lookup key with
  | some _ =>
    let gen := s.book[slotOfKey key].gen
    { s with book := s.book.set (slotOfKey key) ⟨if 511 ≤ gen then 0 else gen + 1, none⟩ }
  | none => s

/-- The lowest-numbered free slot of the book (R3). -/
def State.lowestFree (s : State) : Option (Fin 128) :=
  (List.finRange 128).find? fun i => s.book[i].record.isNone

/-- The power in force in interval `n` (R16, R34). -/
def powerInForce (power : Nat) (change : Option PowerChange) (n : Nat) : Nat :=
  match change with
  | some c => if c.since ≤ n then c.power else power
  | none => power

/-- A record's power in force in interval `n` (R16). -/
def Record.powerAt (r : Record) (n : Nat) : Nat := powerInForce r.power r.change n

/-! ### The admission queue (R28, R29) -/

/-- A run whose subject is the record of `key` loses it (R17, R18). -/
def Run.withoutSubject (key : Nat) (r : Run) : Run := if r.subject = some key then { r with subject := none } else r

/-- Take a record's item out of the queue and its run's subject away, as its record is freed or its amendment dropped
(R17, R18, R29). -/
def dropItem (key : Nat) (s : State) : State :=
  { s with
    queue := s.queue.filter fun it => it.key != key
    engine := { s.engine with run := s.engine.run.map (Run.withoutSubject key) } }

/-- Add an item at the tail (R28). -/
def pushItem (it : Item) (s : State) : State := { s with queue := s.queue ++ [it] }

/-- A record without its pending amendment, whose last result becomes LATE with the current interval (R17). -/
def Record.amendDropped (r : Record) (c : Nat) : Record :=
  match r.pendingAmend with
  | some _ => { r with pendingAmend := none, lastAmend := some (.refused ⟨.late, c, none⟩) }
  | none => r

/-! ### The link's command queue (R177) -/

/-- A waiting SET for an entry. -/
def Cmd.isSetFor (i : Fin 8) (c : Cmd) : Bool :=
  match c.kind with
  | .set _ => decide (c.entry = i)
  | _ => false

/-- Put a command in the queue: a SET takes the place of a waiting SET of its entry; a STOP removes the SETs waiting
for its entry; a START or STOP is not added twice (R177). -/
def enqueue (c : Cmd) (q : List Cmd) : List Cmd :=
  match c.kind with
  | .set _ => if q.any (Cmd.isSetFor c.entry) then q.map fun d => if d.isSetFor c.entry then c else d else q ++ [c]
  | .stop =>
    let q := q.filter fun d => !d.isSetFor c.entry
    if c ∈ q then q else q ++ [c]
  | .start => if c ∈ q then q else q ++ [c]

/-- Issue a command to the link (R105, R177). -/
def issue (c : Cmd) (s : State) : State := { s with link := { s.link with cmds := enqueue c s.link.cmds } }

/-! ### The IDENT line (R101, R180) -/

/-- A transaction of the IDENT line for the entry is in flight. -/
def identInFlight (i : Fin 8) (s : State) : Bool :=
  match s.link.slot with
  | some t => decide (t.entry = some i) && decide (t.origin = .ident)
  | none => false

/-- Put an entry in line for an IDENT; an entry in line or in flight is not added again (R101; log entry 20). -/
def putIdent (i : Fin 8) (s : State) : State :=
  if i ∈ s.link.idents ∨ identInFlight i s then s
  else { s with link := { s.link with idents := s.link.idents ++ [i] } }

/-- As `putIdent` for a SET_TRAIN: while an IDENT to the entry is in flight, the new one joins the line when that one
ends (R100). -/
def putIdentAfter (i : Fin 8) (s : State) : State :=
  if identInFlight i s then
    { s with link := { s.link with slot := s.link.slot.map fun t => { t with identAfter := true } } }
  else putIdent i s

/-- A transaction to the entry without the IDENT that waits for its end. -/
def Txn.withoutIdentAfter (i : Fin 8) (t : Txn) : Txn := if t.entry = some i then { t with identAfter := false } else t

/-- Withdraw an entry from the line, an IDENT that waits for the end of a transaction to it among them (R100, R112;
log entry 20). -/
def withdrawIdent (i : Fin 8) (s : State) : State :=
  { s with link := { s.link with
      idents := s.link.idents.filter fun j => j != i, slot := s.link.slot.map (Txn.withoutIdentAfter i) } }

/-! ### Moves of a roster entry -/

/-- Write an entry's working fields. -/
def setTrain (i : Fin 8) (w : TrainWork) (s : State) : State := { s with trains := s.trains.set i w }

/-- The changeover record takes the kind of an entry that leaves RUNNING, for any state (R131). -/
def noteLeftRunning (i : Fin 8) (old new : TrainState) (s : State) : State :=
  if old = .running ∧ new ≠ .running then
    { s with disp := { s.disp with changeKind := some s.cfg.trains[i].kind, changeCount := 0 } }
  else s

/-- A setpoint is dropped as its entry enters a state that keeps none (R129). -/
def dropSetpoint (i : Fin 8) (new : TrainState) (s : State) : State :=
  if new.keepsSetpoint then s else { s with disp := { s.disp with setpoints := s.disp.setpoints.set i none } }

/-- The poll mark and the failure count of an entry that becomes bound, or is no longer (R179, R182). -/
def notePollMark (i : Fin 8) (old new : TrainState) (s : State) : State :=
  if new.bound then
    if old.bound then s
    else
      let polls := s.link.polls.set i (some ⟨true, none⟩)
      let counters := s.link.counters.set i { s.link.counters[i] with consecutive := 0 }
      { s with link := { s.link with polls := polls, counters := counters } }
  else { s with link := { s.link with polls := s.link.polls.set i none } }

/-- An entry enters a state, with the timer that then runs: the changeover record, the setpoint, the poll mark and
the verification-pending flag follow (R105, R117, R129, R131, R179). The dispatch unit's recompute is the
caller's. -/
def moveTrain (i : Fin 8) (new : TrainState) (timer : Option Timer) (s : State) : State :=
  let old := s.trains[i].state
  let s := setTrain i { s.trains[i] with state := new, timer := timer } s
  let s := noteLeftRunning i old new s
  let s := dropSetpoint i new s
  let s := notePollMark i old new s
  setVerifyIf (decide (old.group ≠ new.group) || decide (new = .resting)) s

/-- A fresh start timer of an entry (R105). -/
def startTimer (i : Fin 8) (s : State) : Option Timer :=
  some { kind := .start, expiry := s.now + s.cfg.trains[i].startTimeout * 1000 }

/-- A fresh stop timer of an entry (R105). -/
def stopTimer (i : Fin 8) (s : State) : Option Timer :=
  some { kind := .stop, expiry := s.now + s.cfg.trains[i].stopTimeout * 1000 }

/-- An entry enters STOPPING with its stop timer (R105, R106). -/
def enterStopping (i : Fin 8) (s : State) : State := moveTrain i .stopping (stopTimer i s) s

/-- An entry enters STOPPING and a STOP is issued to its train (R105, R106). -/
def stopTrain (i : Fin 8) (s : State) : State := issue ⟨i, .stop⟩ (enterStopping i s)

/-- An entry enters LOCKED_OUT with its cause, and TRAIN_FAULT is raised (R102, R106, R107, R110). -/
def lockOut (i : Fin 8) (cause : LockoutCause) (s : State) : State :=
  let s := moveTrain i .lockedOut none s
  raise .trainFault (setTrain i { s.trains[i] with lockout := some cause } s)

/-- An entry rests: RESTING with `rest_count = min_rest` (R102, R106, R110). -/
def enterResting (i : Fin 8) (s : State) : State :=
  let s := moveTrain i .resting none s
  setTrain i { s.trains[i] with restCount := s.cfg.trains[i].minRest } s

/-- An entry rests after a stop: with min_rest 0 it enters READY instead (R106). -/
def restAfterStop (i : Fin 8) (s : State) : State :=
  if s.cfg.trains[i].minRest = 0 then moveTrain i .ready none s else enterResting i s

/-! ### Availability (R116) -/

/-- An entry counts by state for the slot `k` intervals after the current one (R116). -/
def countsByState (cfg : TrainCfg) (w : TrainWork) (k : Nat) : Bool :=
  match w.state with
  | .starting => true
  | .running => true
  | .ready => decide (cfg.startLead ≤ k)
  | .resting => decide (w.restCount + cfg.startLead ≤ k)
  | _ => false

/-- An outage window of the entry covers interval `n` (R116). -/
def inOutage (w : TrainWork) (n : Nat) : Bool := w.outages.any fun o => decide (o.first ≤ n) && decide (n ≤ o.last)

/-- A configured entry counts for slot `k` of a horizon that begins at interval `c` (R116). -/
def countsFor (cfg : TrainCfg) (w : TrainWork) (c k : Nat) : Bool :=
  cfg.configured && countsByState cfg w k && !inOutage w (c + k)

/-- The capacity of a kind in slot `k` (R116). -/
def capacityOf (s : State) (kind : TrainKind) (k : Nat) : Nat :=
  ((List.finRange 8).map fun i =>
    if s.cfg.trains[i].kind = kind ∧ countsFor s.cfg.trains[i] s.trains[i] s.clock.interval k then
      s.cfg.trains[i].ratedKw
    else 0).sum

/-! ### Merit order (R126, R127, R129) -/

/-- Every roster entry in merit order: priority, lower first, then entry number (R126, R127). -/
def meritOrder (trains : Vector TrainCfg 8) : List (Fin 8) :=
  (List.finRange 8).insertionSort (fun i j =>
    trains[i].priority < trains[j].priority ∨ (trains[i].priority = trains[j].priority ∧ i ≤ j))

/-! ### The current interval (R157, R159) -/

/-- The current interval; none while the clock is UNSET or ARMED, in which no block uses the number it keeps (R157,
R159). -/
def Clock.numbered (c : Clock) : Option Nat := if c.running then some c.interval else none

/-! ### The live table (R54, R57) -/

/-- The live table's slot for an interval, found by the number the slot carries (R133); none while it is invalid. -/
def State.liveAt (s : State) (n : Nat) : Option ProjSlot :=
  s.engine.live.bind fun t => t.find? fun sl => decide (sl.interval = n)

end Sys2Proof.Machine
end

