-- ==== Sys2Proof/Machine/Book.lean ====
section
/-! DEFINITION. The commitment book's own moves (chapter 1): the fall of an amendment, the boundary, credits and closure,
and the outcomes of admission runs written to a record. -/

namespace Sys2Proof.Machine

/-- Write a record that leaves TENTATIVE, FIRM and ACTIVE: a pending amendment is dropped with its item or its run's
subject, and its last result becomes LATE with the current interval (R17). A record that has no pending amendment has
no item either (R28), so that dropping finds nothing. -/
def leaveBook (key : Nat) (r : Record) (s : State) : State :=
  dropItem key (setRecord key (r.amendDropped s.clock.interval) s)

/-- The last interval of a record's span, with the length in force (R1, R23). -/
def Record.last (r : Record) : Nat := r.start + r.length - 1

/-- A record's span holds interval `n` (R1, R121). -/
def Record.spans (r : Record) (n : Nat) : Bool := decide (r.start ≤ n) && decide (n < r.start + r.length)

/-! ### The boundary (R20 to R22) -/

/-- A record lapses at the boundary into `n` (R21). -/
def Record.lapsesAt (r : Record) (n : Nat) : Bool :=
  decide (r.state = .tentative) && (decide (r.holdExpiry = some n) || decide (r.start = n))

/-- One slot takes the boundary into `n`: a FIRM record whose start it is enters ACTIVE (R20), a hold lapses (R21), any
other record stays (R22). A lapse is taken as the boundary's cause once more, so that a run which the engine has started
afresh in this same boundary, and which still counts the hold, leaves the flag set for the next run, which takes the lapse
into account (R21, R31, R52; DEDUCED, log entry 44). -/
def bookBoundaryAt (n : Nat) (i : Fin 128) (s : State) : State :=
  match s.book[i].record with
  | none => s
  | some r =>
    let key := keyOf i s.book[i].gen
    if r.state = .firm ∧ r.start = n then setRecord key { r with state := .active } s
    else if r.lapsesAt n then
      setVerify (raise .holdLapsed (leaveBook key { r with state := .closed, outcome := some .lapsed, atRisk := none } s))
    else s

/-- The book takes the boundary into `n` (R20 to R22). -/
def bookBoundary (n : Nat) (s : State) : State := (List.finRange 128).foldl (fun s i => bookBoundaryAt n i s) s

/-! ### Credits and closure (R23, R24) -/

/-- The greatest sum of energy a record holds (R23). -/
def maxWh : Nat := 4294967295

/-- The sums after a credit: absent sums start at 0, and a sum is held at its greatest value (R23). -/
def addCredit (sums : Option Sums) (due delivered : Nat) : Sums :=
  let b := sums.getD ⟨0, 0⟩
  ⟨min maxWh (b.due + due), min maxWh (b.delivered + delivered)⟩

/-- The SHORT test (R24): the difference × 1,000 exceeds tolerance × due. -/
def isShort (sums : Sums) (tolerance : Nat) : Bool :=
  decide (tolerance * sums.due < ((sums.due : Int) - sums.delivered).natAbs * 1000)

/-- The outcome of a record that closes on a credit (R24). -/
def closeOutcome (r : Record) (sums : Sums) : CloseOutcome :=
  if isShort sums r.tolerance then .short else if r.state = .ending then .curtailed else .honoured

/-- A record closes on the credit of interval `n` (R23). -/
def closesOn (r : Record) (n : Nat) : Bool := decide (n = r.last) || decide (r.state = .ending)

/-- A credit for a record: its sums grow, and it closes on its last interval or when it is ENDING; a credit whose key
names no record is discarded (R5, R23, R24). -/
def creditRecord (key n due delivered : Nat) (s : State) : State :=
  match s.lookup key with
  | none => s
  | some r =>
    let sums := addCredit r.sums due delivered
    if closesOn r n then
      let o := closeOutcome r sums
      let s := leaveBook key { r with sums := some sums, state := .closed, outcome := some o, atRisk := none } s
      raiseIf (decide (o = .short)) .short (raise .closed s)
    else setRecord key { r with sums := some sums } s

/-! ### Outcomes of admission runs (R10, R15, R16) -/

/-- The LATE recheck of a booking at completion: the failing interval where it refuses (R10). R10 gives the start for a start that
is too near and the hold_expiry for a hold_expiry that is, and no order of the two; where both are, the model gives the start
(DESIGN CHOICE, log entry 51). -/
def bookingLate (r : Record) (c minNotice : Nat) : Option Nat :=
  if r.start < c + 1 + minNotice then some r.start
  else r.holdExpiry.bind fun h => if h < c + 1 then some h else none

/-- The LATE recheck of an amendment at completion: the failing interval where it refuses (R15). -/
def amendmentLate (r : Record) (a : Amendment) (c minNotice : Nat) : Option Nat :=
  if r.state = .active then
    if a.start ≠ r.start ∨ a.length < (c - r.start + 1) + 1 then some c else none
  else if a.start < c + 1 + minNotice then some a.start
  else none

/-- A booking admitted (R10). -/
def Record.admitted (r : Record) : Record :=
  { r with state := match r.cls with | .tentative => .tentative | .firm => .firm }

/-- A booking refused (R7, R10). -/
def Record.refused (r : Record) (note : RefusalNote) : Record :=
  { r with state := .refused, refusal := some note, atRisk := none }

/-- A new power on an ACTIVE record, from the interval after the current one `c` (R16). -/
def Record.withPower (r : Record) (power c : Nat) : Record :=
  if power = r.powerAt (c + 1) then r
  else
    match r.change with
    | none => { r with change := some ⟨power, c + 1⟩ }
    | some ch =>
      if ch.since ≤ c then { r with power := ch.power, change := some ⟨power, c + 1⟩ }
      else { r with change := some ⟨power, c + 1⟩ }

/-- An amendment admitted (R15). -/
def Record.amended (r : Record) (a : Amendment) (c : Nat) : Record :=
  let r' := if r.state = .active then r.withPower a.power c else { r with power := a.power }
  { r' with length := a.length, start := a.start, pendingAmend := none, lastAmend := some .admitted }

/-- An amendment refused (R15). -/
def Record.amendRefused (r : Record) (note : RefusalNote) : Record :=
  { r with pendingAmend := none, lastAmend := some (.refused note) }

end Sys2Proof.Machine
end

