-- ==== Sys2Proof/Machine/BookCommands.lean ====
section
/-! DEFINITION. The station commands of the commitment book: BOOK, CONFIRM, AMEND, RETIRE, READ_COMMITMENT and
LIST_COMMITMENTS (chapter 1). -/

namespace Sys2Proof.Machine

/-- The current interval and the site's least notice, as the gates read them. -/
def earliestStart (s : State) : Nat := s.clock.interval + 1 + s.cfg.site.minNotice

/-- A span ends beyond the last slot of the horizon (R9, R13, R14). -/
def beyondHorizon (s : State) (start length : Nat) : Bool := decide (s.clock.interval + 287 < start + length - 1)

/-- The checks of R8 on the values of a BOOK whose class and direction stand. -/
def bookBad (p : BookParams) (cls : TradeClass) (c : Nat) : Bool :=
  !lengthOk p.length || !powerOk p.power || !within 0 200 p.tolerance
    || (p.holdExpiry.isSome && decide (cls = .firm))
    || p.holdExpiry.any fun h => decide (p.start < h) || decide (h < c + 1)

/-- The record that a BOOK makes (R9). -/
def bookedRecord (p : BookParams) (cls : TradeClass) (dir : Direction) : Record where
  tradeRef := p.tradeRef
  cls := cls
  dir := dir
  start := p.start
  length := p.length
  power := p.power
  change := none
  tolerance := p.tolerance.getD 20
  holdExpiry := p.holdExpiry
  state := .proposed
  refusal := none
  pendingAmend := none
  lastAmend := none
  atRisk := none
  sums := none
  outcome := none

/-- A record is made in slot `i`, and its ADMIT item joins the queue (R3, R9). -/
def makeRecord (i : Fin 128) (r : Record) (s : State) : State :=
  let gen := s.book[i].gen
  let key := keyOf i gen
  answer .queued (.key key) (pushItem ⟨key, .admitting⟩ { s with book := s.book.set i ⟨gen, some r⟩ })

/-- BOOK, taken (R8, R9). -/
def bookAct (p : BookParams) (s : State) : State :=
  if !s.clock.running then reply .clockUnset s
  else
    match classOf p.cls, directionOf p.dir with
    | some cls, some dir =>
      if bookBad p cls s.clock.interval then reply .badValue s
      else if beyondHorizon s p.start p.length then reply .horizon s
      else if p.start < earliestStart s then reply .late s
      else
        match s.lowestFree with
        | none => reply .full s
        | some i => if 8 ≤ s.queue.length then reply .queueFull s else makeRecord i (bookedRecord p cls dir) s
    | _, _ => reply .badValue s

/-- BOOK (R9). -/
def execBook (p : BookParams) (s : State) : Result := .next (station (bookAct p) s)

/-- CONFIRM, taken (R11). -/
def confirmAct (key : Nat) (s : State) : State :=
  match s.lookup key with
  | none => reply .noRecord s
  | some r =>
    if r.state = .tentative then reply .done (setRecord key { r with state := .firm, holdExpiry := none } s)
    else reply .wrongState s

/-- CONFIRM (R11). -/
def execConfirm (key : Nat) (s : State) : Result := .next (station (confirmAct key) s)

/-- The three values of an amendment, filled out from the present ones (R12). -/
def filledAmendment (p : AmendParams) (r : Record) (c : Nat) : Amendment :=
  ⟨p.power.getD (r.powerAt (c + 1)), p.length.getD r.length, p.start.getD r.start⟩

/-- The gates of AMEND on a TENTATIVE or FIRM record (R13). -/
def amendGateWaiting (a : Amendment) (r : Record) (s : State) : Option ResultCode :=
  if !lengthOk a.length || !powerOk a.power then some .badValue
  else if r.state = .tentative && r.holdExpiry.any (fun h => decide (a.start < h)) then some .badValue
  else if beyondHorizon s a.start a.length then some .horizon
  else if a.start < earliestStart s then some .late
  else none

/-- The gates of AMEND on an ACTIVE record (R14). -/
def amendGateActive (a : Amendment) (r : Record) (s : State) : Option ResultCode :=
  if decide (a.start ≠ r.start) || !powerOk a.power || !lengthOk a.length then some .badValue
  else if a.length < (s.clock.interval - r.start + 1) + 1 then some .late
  else if beyondHorizon s r.start a.length then some .horizon
  else none

/-- The gates of AMEND by the record's state (R12 to R14). -/
def amendGate (a : Amendment) (r : Record) (s : State) : Option ResultCode :=
  if r.state = .active then amendGateActive a r s else amendGateWaiting a r s

/-- The states in which a record may be amended (R12). -/
def RecordState.amendable : RecordState → Bool
  | .tentative => true
  | .firm => true
  | .active => true
  | _ => false

/-- AMEND, taken (R12). -/
def amendAct (p : AmendParams) (s : State) : State :=
  match s.lookup p.key with
  | none => reply .noRecord s
  | some r =>
    if !r.state.amendable then reply .wrongState s
    else if r.pendingAmend.isSome then reply .busy s
    else
      let a := filledAmendment p r s.clock.interval
      match amendGate a r s with
      | some code => reply code s
      | none =>
        if 8 ≤ s.queue.length then reply .queueFull s
        else reply .queued (pushItem ⟨p.key, .amend⟩ (setRecord p.key { r with pendingAmend := some a } s))

/-- AMEND (R12). -/
def execAmend (p : AmendParams) (s : State) : Result := .next (station (amendAct p) s)

/-- RETIRE on a record that is present (R18). -/
def retireRecord (key : Nat) (r : Record) (s : State) : State :=
  match r.state with
  | .proposed => reply .done (freeRecord key (dropItem key s))
  | .refused => reply .done (freeRecord key s)
  | .tentative => reply .done (setVerify (freeRecord key (dropItem key s)))
  | .firm => reply .done (setVerify (freeRecord key (dropItem key s)))
  | .active => reply .done (setVerify (leaveBook key { r with state := .ending } s))
  | .ending => reply .wrongState s
  | .closed => reply .done (freeRecord key s)

/-- RETIRE, taken (R18). -/
def retireAct (key : Nat) (s : State) : State :=
  match s.lookup key with
  | none => reply .noRecord s
  | some r => retireRecord key r s

/-- RETIRE (R18). -/
def execRetire (key : Nat) (s : State) : Result := .next (station (retireAct key) s)

/-- READ_COMMITMENT, taken (R25). -/
def readCommitmentAct (key : Nat) (s : State) : State :=
  match s.lookup key with
  | none => reply .noRecord s
  | some r => answer .done (.commitment key r) s

/-- READ_COMMITMENT (R25). -/
def execReadCommitment (key : Nat) (s : State) : Result := .next (station (readCommitmentAct key) s)

/-- A slot's entry on a page (R26). -/
def listEntry (i : Fin 128) (slot : BookSlot) : ListEntry :=
  match slot.record with
  | some r => .occupied (keyOf i slot.gen) r.state
  | none => .vacant slot.gen

/-- The number of records held in the book (R26). -/
def recordsHeld (s : State) : Nat := ((List.finRange 128).filter fun i => s.book[i].record.isSome).length

/-- The 16 entries of page `p` (R26). -/
def pageEntries (s : State) (p : Nat) : List ListEntry :=
  (((List.finRange 128).map fun i => listEntry i s.book[i]).drop (16 * p)).take 16

/-- LIST_COMMITMENTS, taken (R26). -/
def listCommitmentsAct (page : Nat) (s : State) : State :=
  if 7 < page then reply .badValue s else answer .done (.listing (pageEntries s page) (recordsHeld s)) s

/-- LIST_COMMITMENTS (R26). -/
def execListCommitments (page : Nat) (s : State) : Result := .next (station (listCommitmentsAct page) s)

end Sys2Proof.Machine
end

