-- ==== Sys2Proof/Machine/Tables.lean ====
section
/-! DEFINITION. The three maps the part interpolates: pressure of a mass P(m) (R64), mass of a pressure M(p) (R65)
and heat content of a temperature C(t) (R85). -/

namespace Sys2Proof.Machine

/-- The top of a cavern table's range, m0 + 16 × step (R44, R63). -/
def MassTable.top (t : MassTable) : Nat := t.m0 + 16 * t.step

/-- A mass lies in the table's range, both ends inclusive (R44). -/
def MassTable.holds (t : MassTable) (m : Nat) : Bool := decide (t.m0 ≤ m) && decide (m ≤ t.top)

/-- Step 1 of P(m): the segment, taken no higher than 15 (R64). -/
def MassTable.segment (t : MassTable) (m : Nat) : Fin 16 := ⟨min 15 ((m - t.m0) / t.step), by omega⟩

/-- The forward map P(m), for m in the table's range (R64). -/
def MassTable.pressure (t : MassTable) (m : Nat) : Nat :=
  let i := t.segment m
  let f := m - t.m0 - i * t.step
  t.p[i.castSucc] + (t.p[i.succ] - t.p[i.castSucc]) * f / t.step

/-- The pressure that a slot record carries for a mass: P(m) in the table's range, and the pressure at the nearer end
outside it (R45). -/
def MassTable.recordedPressure (t : MassTable) (m : Nat) : Nat :=
  if m < t.m0 then t.p[0] else if t.top < m then t.p[16] else t.pressure m

/-- The first segment whose span holds pressure `p`, flat segments passed over (R65). -/
def MassTable.segmentOf (t : MassTable) (p : Nat) : Option (Fin 16) :=
  (List.finRange 16).find? fun i => decide (t.p[i.castSucc] ≤ p) && decide (p < t.p[i.succ])

/-- The inverse map M(p), with the table flag (R65). -/
def MassTable.mass (t : MassTable) (p : Nat) : Nat × TableFlag :=
  if p < t.p[0] then (t.m0, .belowTable)
  else if t.p[16] ≤ p then (t.top, .aboveTable)
  else
    match t.segmentOf p with
    | some i => (t.m0 + i * t.step + (p - t.p[i.castSucc]) * t.step / (t.p[i.succ] - t.p[i.castSucc]), .inTable)
    | none => (t.m0, .inTable)

/-- The segment of the temperature–content table that holds `t` (R85). -/
def StoreCfg.segmentOf (c : StoreCfg) (t : Int) : Option (Fin 8) :=
  (List.finRange 8).find? fun i => decide (c.temps[i.castSucc] ≤ t) && decide (t < c.temps[i.succ])

/-- The map C(t) (R85). -/
def StoreCfg.contentOf (c : StoreCfg) (t : Int) : Nat :=
  if t < c.temps[0] then c.contents[0]
  else if c.temps[8] ≤ t then c.contents[8]
  else
    match c.segmentOf t with
    | some i =>
      c.contents[i.castSucc] + (c.contents[i.succ] - c.contents[i.castSucc]) * (t - c.temps[i.castSucc]).toNat
        / (c.temps[i.succ] - c.temps[i.castSucc]).toNat
    | none => c.contents[0]

/-- The pressures of a table never decrease (R63). -/
def rising {n : Nat} (v : Vector Nat n) : Bool := (v.toList.zip v.toList.tail).all fun q => decide (q.1 ≤ q.2)

/-- The temperatures of a table rise strictly (R84). -/
def strictlyRising {n : Nat} (v : Vector Int n) : Bool := (v.toList.zip v.toList.tail).all fun q => decide (q.1 < q.2)

end Sys2Proof.Machine
end

