-- ==== Sys2Proof/Machine/CavernBlock.lean ====
section
/-! DEFINITION. The cavern block (chapter 3): votes taken, masses formed, inhibits judged, and the boundary. -/

namespace Sys2Proof.Machine

/-- Write a cavern's working fields. -/
def setCavernWork (i : Fin 4) (w : CavernWork) (s : State) : State := { s with caverns := s.caverns.set i w }

/-- `measured_mass` and `table_flag` formed from a voted pressure, with the DRIFT notice of R65. -/
def formMass (i : Fin 4) (p : Nat) (s : State) : State :=
  let w := s.caverns[i]
  let (m, flag) := s.cfg.caverns[i].table.mass p
  raiseIf (decide (flag ≠ .inTable) && decide (flag ≠ w.tableFlag)) .drift
    (setCavernWork i { w with measured := some m, tableFlag := flag } s)

/-- `start_mass` takes `measured_mass` where it is present; verification is set pending where it changed
(R30, R73 step 2). -/
def refreshStartMass (i : Fin 4) (s : State) : State :=
  let w := s.caverns[i]
  match w.measured with
  | some m => setVerifyIf (decide (m ≠ w.startMass)) (setCavernWork i { w with startMass := m } s)
  | none => s

/-- The inhibit judged from the voted pressure (R78): a changed value replaces the old one and raises CAVERN_LIMIT. The
dispatch unit's recompute is the caller's. -/
def judgeCavernInhibit (i : Fin 4) (s : State) : State :=
  let w := s.caverns[i]
  let b := cavernInhibitOf s.cfg.caverns[i] w.votedP
  raiseIf (decide (b ≠ w.inhibit)) .cavernLimit (setCavernWork i { w with inhibit := b } s)

/-- A GOOD vote carrying pressure `p` (R71). -/
def goodVote (i : Fin 4) (p : Nat) (s : State) : State :=
  let before := s.caverns[i]
  let s := formMass i p (setCavernWork i { before with votedP := some p } s)
  let s := judgeCavernInhibit i s
  let s := setCavernWork i { s.caverns[i] with status := .good, holdAge := 0 } s
  match before.status with
  | .good => s
  | .held => if before.votedP.isSome then s else setVerify (refreshStartMass i s)
  | .unknown => setVerify (refreshStartMass i s)

/-- A NO_MAJORITY outcome (R72). -/
def noMajority (i : Fin 4) (s : State) : State :=
  let w := s.caverns[i]
  match w.status with
  | .good => raise .cavernHeld (setCavernWork i { w with status := .held, holdAge := 0 } s)
  | .held => s
  | .unknown => s

/-- A vote outcome taken with its disagree flags (R70). -/
def takeVote (i : Fin 4) (o : VoteOutcome) (flags : Disagree) (s : State) : State :=
  let w := s.caverns[i]
  let s := raiseIf (decide (flags ≠ w.disagree)) .sensorDisagree (setCavernWork i { w with disagree := flags } s)
  match o with
  | .good p => goodVote i p s
  | .noMajority => noMajority i s

/-- Step 1 of R73: the hold age, and UNKNOWN at the hold limit. -/
def ageCavern (i : Fin 4) (s : State) : State :=
  let w := s.caverns[i]
  match w.status with
  | .good => s
  | .held =>
    let age := incTo 65535 w.holdAge
    if s.cfg.site.holdLimit ≤ age then
      raise .cavernUnknown (setCavernWork i { w with holdAge := age, status := .unknown } s)
    else setCavernWork i { w with holdAge := age } s
  | .unknown => setCavernWork i { w with holdAge := incTo 65535 w.holdAge } s

/-- Step 2 of R73: the start mass of a cavern in GOOD or HELD. -/
def boundaryStartMass (i : Fin 4) (s : State) : State :=
  match s.caverns[i].status with
  | .good => refreshStartMass i s
  | .held => refreshStartMass i s
  | .unknown => s

/-- The end mass that the projection expected of a cavern for the interval `ended`: from the closed slot, or from slot 0
of a live table that the engine has not shifted yet (R55, R74). -/
def endedMass (s : State) (ended : Nat) (i : Fin 4) : Option Nat :=
  let closed := s.engine.closed.filter fun sl => decide (sl.interval = ended)
  let slot := match closed with
    | some sl => some sl
    | none => s.liveAt ended
  slot.bind fun sl => sl.caverns[i].map CavernEnd.mass

/-- Step 3 of R73: the drift against the closed slot of the interval `ended` (R74). -/
def formDrift (ended : Nat) (i : Fin 4) (s : State) : State :=
  let w := s.caverns[i]
  match (if w.status = .unknown then none else w.measured), endedMass s ended i with
  | some m, some e =>
    let d : Int := m - e
    raiseIf (decide (s.cfg.caverns[i].driftLimit < d.natAbs)) .drift (setCavernWork i { w with drift := some d } s)
  | _, _ => setCavernWork i { w with drift := none } s

/-- One cavern takes a boundary (R73). -/
def cavernBoundary (ended : Nat) (i : Fin 4) (s : State) : State :=
  formDrift ended i (boundaryStartMass i (ageCavern i s))

/-- The cavern block takes the boundary that ends interval `ended` (R73). -/
def cavernsBoundary (ended : Nat) (s : State) : State :=
  (List.finRange 4).foldl (fun s i => cavernBoundary ended i s) s

/-- One cavern as SET_INTERVAL begins an interval (R75). -/
def cavernBegin (i : Fin 4) (s : State) : State :=
  let s := boundaryStartMass i s
  setCavernWork i { s.caverns[i] with drift := none } s

/-- The cavern block as SET_INTERVAL begins an interval (R75). -/
def cavernsBegin (s : State) : State := (List.finRange 4).foldl (fun s i => cavernBegin i s) s

end Sys2Proof.Machine
end

