-- ==== Sys2Proof/Machine/DispatchUnit.lean ====
section
/-! DEFINITION. The dispatch unit (chapter 6): the tally and its credits, the target and its clamps, the allocation, the
actions on setpoints, and starts ahead of need. -/

namespace Sys2Proof.Machine

/-! ### The tally (R121, R135 to R138) -/

/-- A record's membership of the tally for `n` (R121). -/
def memberOf (i : Fin 128) (slot : BookSlot) (n : Nat) : Option Member :=
  slot.record.bind fun r =>
    if (r.state = .firm ∨ r.state = .active) ∧ r.spans n then some ⟨keyOf i slot.gen, r.dir, r.powerAt n⟩ else none

/-- The members of the tally for `n`, in the order of their keys (R121, R138). -/
def membersFor (s : State) (n : Nat) : List Member :=
  ((List.finRange 128).filterMap fun i => memberOf i s.book[i] n).insertionSort fun a b => a.key ≤ b.key

/-- The tally for `n` opens (R121). -/
def openTallyFor (n : Nat) (s : State) : State :=
  { s with disp := { s.disp with openTally := some ⟨n, membersFor s n, 0, 0⟩ } }

/-- A member is of a direction. -/
def Member.isOf (d : Direction) (m : Member) : Bool := decide (m.dir = d)

/-- The summed power of the members of a direction (R123, R135). -/
def powerOf (d : Direction) (ms : List Member) : Nat := ((ms.filter (Member.isOf d)).map Member.power).sum

/-- A member's due in Wh (R135). -/
def dueOf (power : Nat) : Nat := power * 1000 / 12

/-- The net direction of a tally; none where N is 0 (R135 to R137). -/
def netDirection (charge discharge : Nat) : Option Direction :=
  if discharge < charge then some .charge else if charge < discharge then some .discharge else none

/-- E_phys, formed where N is not 0 (R135, R137). -/
def ePhysOf (net : Option Direction) (compressorWh expanderWh : Nat) : Option Nat :=
  match net with
  | some .charge => some (compressorWh - expanderWh)
  | some .discharge => some (expanderWh - compressorWh)
  | none => none

/-- The shares of a pool among members by power: floored, with the remainder to the first, which has the lowest key
(R136). -/
def poolShares (pool total : Nat) (ms : List Member) : List (Nat × Nat) :=
  let base := ms.map fun m => (m.key, pool * m.power / total)
  match base with
  | [] => []
  | (k, b) :: rest => (k, b + (pool - (base.map Prod.snd).sum)) :: rest

/-- The credits of a tally's members (R136, R137). -/
def creditsOf (ms : List Member) (compressorWh expanderWh : Nat) : List Credit :=
  let charge := powerOf .charge ms
  let discharge := powerOf .discharge ms
  let net := netDirection charge discharge
  let ePhys := (ePhysOf net compressorWh expanderWh).getD 0
  let shares := match net with
    | some .charge => poolShares (discharge * 1000 / 12 + ePhys) charge (ms.filter (Member.isOf .charge))
    | some .discharge => poolShares (charge * 1000 / 12 + ePhys) discharge (ms.filter (Member.isOf .discharge))
    | none => []
  ms.map fun m =>
    let due := dueOf m.power
    ⟨m, due, if net = some m.dir then (shares.lookup m.key).getD 0 else due⟩

/-- The closed tally that an open tally leaves (R135 to R138). -/
def closedTallyOf (t : OpenTally) : ClosedTally :=
  let charge := powerOf .charge t.members
  let discharge := powerOf .discharge t.members
  let compressorWh := t.accCompressor / 3600
  let expanderWh := t.accExpander / 3600
  { interval := t.interval
    credits := creditsOf t.members compressorWh expanderWh
    chargePower := charge
    dischargePower := discharge
    compressorWh := compressorWh
    expanderWh := expanderWh
    ePhys := ePhysOf (netDirection charge discharge) compressorWh expanderWh }

/-- The open tally closes: its credits go to the book, and the closed tally takes the place of the previous one
(R135 to R138). -/
def closeTally (s : State) : State :=
  match s.disp.openTally with
  | none => s
  | some t =>
    let closed := closedTallyOf t
    let s := closed.credits.foldl (fun s c => creditRecord c.member.key t.interval c.due c.delivered s) s
    { s with disp := { s.disp with openTally := none, closedTally := some closed } }

/-! ### Target and clamps (R123, R124) -/

/-- The target T (R123). -/
def targetOf (s : State) : Int :=
  match s.disp.openTally with
  | none => 0
  | some t => (powerOf .charge t.members : Int) - powerOf .discharge t.members

/-- The grid limit of a kind: import for compressors, export for expanders (R124, R128). -/
def gridLimit (site : SiteCfg) : TrainKind → Nat
  | .compressor => site.importLimit
  | .expander => site.exportLimit

/-- Some cavern holds an inhibit (R77). -/
def anyCavern (caverns : Vector CavernWork 4) (b : Inhibit) : Bool :=
  (List.finRange 4).any fun i => decide (caverns[i].inhibit = b)

/-- A ban of clamp 2 stands against a kind (R124). -/
def banAgainst (s : State) : TrainKind → Bool
  | .compressor => anyCavern s.caverns .noCharge || decide (s.store.inhibit = .noCharge)
  | .expander =>
    anyCavern s.caverns .noDischarge || decide (s.store.inhibit = .noDischarge) || decide (s.store.status = .unknown)

/-- The held value of an entry's setpoint, 0 where it has none (R119). -/
def heldOf (s : State) (i : Fin 8) : Nat := (s.disp.setpoints[i].map Setpoint.held).getD 0

/-- An entry is of a kind and in a state. -/
def isIn (s : State) (kind : TrainKind) (st : TrainState) (i : Fin 8) : Bool :=
  decide (s.cfg.trains[i].kind = kind) && decide (s.trains[i].state = st)

/-- The summed held values of a kind's LOST entries (R124, R128). -/
def lostHeld (s : State) (kind : TrainKind) : Nat :=
  (((List.finRange 8).filter (isIn s kind .lost)).map (heldOf s)).sum

/-- The running capacity of a kind (R124 clamp 4). -/
def runningCapacity (s : State) (kind : TrainKind) : Nat :=
  (((List.finRange 8).filter (isIn s kind .running)).map fun i => s.cfg.trains[i].ratedKw).sum + lostHeld s kind

/-- Clamp 1, grid (R124). -/
def clampGrid (site : SiteCfg) (t : Int) : Int := max (-(site.exportLimit : Int)) (min (site.importLimit : Int) t)

/-- Clamp 2, inhibits (R124). -/
def clampInhibit (s : State) (t : Int) : Int :=
  if 0 < t ∧ banAgainst s .compressor then 0 else if t < 0 ∧ banAgainst s .expander then 0 else t

/-- Clamp 3, site trip (R124). -/
def clampTrip (trip : Bool) (t : Int) : Int := if trip then 0 else t

/-- Clamp 4, running capacity (R124). -/
def clampRunning (s : State) (t : Int) : Int :=
  if 0 ≤ t then min t (runningCapacity s .compressor) else max t (-(runningCapacity s .expander : Int))

/-- The clamped target Tc: the four clamps in their order (R124). -/
def clampedOf (s : State) (t : Int) : Int :=
  clampRunning s (clampTrip s.disp.trip (clampInhibit s (clampGrid s.cfg.site t)))

/-- T, Tc and the shortfall are formed, with SHORTFALL where the shortfall passes from 0 to a nonzero value (R124). -/
def formTarget (s : State) : State :=
  let before := s.disp.target - s.disp.clamped
  let t := targetOf s
  let c := clampedOf s t
  raiseIf (decide (before = 0) && decide (t - c ≠ 0)) .shortfall
    { s with disp := { s.disp with target := t, clamped := c } }

/-! ### Merit allocation (R127) -/

/-- The smallest count whose ratings sum to at least `a`, or the whole list (R127 step 2, R133). -/
def coverCount (a : Nat) : List Nat → Nat
  | [] => 0
  | r :: rs => if a ≤ r then 1 else coverCount (a - r) rs + 1

/-- Spread an amount over entries that stand at a value with a ceiling, the first as far as it goes, then the next
(R127 step 3, R128 step 4). -/
def spread (rest : Nat) : List (Nat × Nat) → List Nat
  | [] => []
  | (v, top) :: l =>
    let x := min rest (top - v)
    (v + x) :: spread (rest - x) l

/-- Step 3 of R127 over the ratings of the first k trains. -/
def floorShares (a : Nat) (rated : List Nat) : List Nat :=
  let total := rated.sum
  let a' := min a total
  let base := rated.map fun r => a' * r / total
  spread (a' - base.sum) (base.zip rated)

/-- Step 5 of R127: the share of a lone train. -/
def loneShare (a room rated minStable : Nat) : Nat :=
  let a' := min a rated
  if minStable ≤ a' then a' else if minStable ≤ 2 * a' ∧ minStable ≤ room then minStable else 0

/-- Steps 3 to 5 of R127 from a count of trains downwards; a train is its rating and its least stable power. -/
def sharesFrom (a room : Nat) (trains : List (Nat × Nat)) : Nat → List Nat
  | 0 => []
  | 1 =>
    match trains with
    | [] => []
    | t :: _ => [loneShare a room t.1 t.2]
  | k + 2 =>
    let first := trains.take (k + 2)
    let shares := floorShares a (first.map Prod.fst)
    if (shares.zip (first.map Prod.snd)).any fun q => decide (q.1 < q.2) then sharesFrom a room trains (k + 1)
    else shares

/-- The merit allocation of an amount over an ordered list of trains: the shares of the first trains; the others take 0
(R127). -/
def meritShares (a room : Nat) (trains : List (Nat × Nat)) : List Nat :=
  if a = 0 then [] else sharesFrom a room trains (coverCount a (trains.map Prod.fst))

/-! ### Allocation (R128) -/

/-- The kind of a target: compressors for a positive value, expanders for a negative one (R128). -/
def kindOf (t : Int) : Option TrainKind :=
  if 0 < t then some .compressor else if t < 0 then some .expander else none

/-- A net power is of the sign of a kind (R128, R133). -/
def signedFor (kind : TrainKind) (n : Int) : Bool :=
  match kind with
  | .compressor => decide (0 < n)
  | .expander => decide (n < 0)

/-- The other kind. -/
def TrainKind.other : TrainKind → TrainKind
  | .compressor => .expander
  | .expander => .compressor

/-- Step 1 of R128 for a kind: LOST held values above its grid limit become 0 (R125). -/
def cutLost (kind : TrainKind) (s : State) : State :=
  if gridLimit s.cfg.site kind < lostHeld s kind then
    let sp := Vector.ofFn fun i : Fin 8 =>
      if isIn s kind .lost i then s.disp.setpoints[i].map fun p => { p with held := 0 } else s.disp.setpoints[i]
    { s with disp := { s.disp with setpoints := sp } }
  else s

/-- The live table opposes a kind within the look-ahead of R128 step 2. -/
def lookAheadOpposes (s : State) (kind : TrainKind) : Bool :=
  match s.engine.live with
  | none => false
  | some t =>
    t.any fun sl => decide (s.clock.interval ≤ sl.interval)
      && decide (sl.interval ≤ s.clock.interval + s.cfg.site.changeoverGap + 1) && signedFor kind.other sl.net

/-- An entry's protection gives way (R128 step 2). -/
def exposedAt (s : State) (tc : Int) (kind : TrainKind) : Bool :=
  s.disp.trip || (decide (kindOf tc ≠ some kind) && banAgainst s kind) || lookAheadOpposes s kind

/-- An entry in RUNNING below its minimum run that is not exposed (R128 step 2). -/
def protectedAt (s : State) (tc : Int) (i : Fin 8) : Bool :=
  decide (s.trains[i].state = .running) && decide (s.trains[i].runCount < s.cfg.trains[i].minRun)
    && !exposedAt s tc s.cfg.trains[i].kind

/-- Drop entries, the last in merit order first, until their least stable powers fit the room (R128 step 3). The list
stands in reverse merit order. -/
def trimForced (w : Fin 8 → Nat) (room : Nat) : List (Fin 8) → List (Fin 8)
  | [] => []
  | i :: l => if ((i :: l).map w).sum ≤ room then i :: l else trimForced w room l

/-- The entries of a kind that keep their protection, in merit order (R128 steps 2 and 3). -/
def protectedOf (s : State) (tc : Int) (kind : TrainKind) : List (Fin 8) :=
  let l := (meritOrder s.cfg.trains).filter fun i => protectedAt s tc i && decide (s.cfg.trains[i].kind = kind)
  (trimForced (fun i => s.cfg.trains[i].minStableKw) (gridLimit s.cfg.site kind - lostHeld s kind) l.reverse).reverse

/-- The least stable powers of a list of entries, summed: their forced load (R128 step 3). -/
def forcedLoad (s : State) (l : List (Fin 8)) : Nat := (l.map fun i => s.cfg.trains[i].minStableKw).sum

/-- The new held values of the entries in RUNNING of a kind, in two lists: the shares of the unprotected entries and the
values of the protected ones (R128 steps 3 to 5). -/
def allocateKind (s : State) (tc : Int) (kind : TrainKind) : List (Fin 8 × Nat) :=
  let prot := protectedOf s tc kind
  let minOf := fun i : Fin 8 => s.cfg.trains[i].minStableKw
  let open_ := (meritOrder s.cfg.trains).filter fun i => isIn s kind .running i && decide (i ∉ prot)
  if kindOf tc = some kind then
    let amount := tc.natAbs - lostHeld s kind - forcedLoad s prot
    let room := gridLimit s.cfg.site kind - lostHeld s kind - forcedLoad s prot
    let shares := meritShares amount room (open_.map fun i => (s.cfg.trains[i].ratedKw, minOf i))
    let filled := spread (amount - shares.sum) (prot.map fun i => (minOf i, s.cfg.trains[i].ratedKw))
    open_.zip (shares ++ List.replicate open_.length 0) ++ prot.zip filled
  else open_.map (fun i => (i, 0)) ++ prot.map (fun i => (i, minOf i))

/-- Write the new held values (R128 step 5). -/
def holdValues (l : List (Fin 8 × Nat)) (s : State) : State :=
  let sp := Vector.ofFn fun i : Fin 8 =>
    match l.lookup i with
    | some v => some ⟨v, s.disp.setpoints[i].bind Setpoint.issued⟩
    | none => s.disp.setpoints[i]
  { s with disp := { s.disp with setpoints := sp } }

/-! ### Actions (R129, R132, R133) -/

/-- A STOP is issued to an entry in RUNNING that holds 0 and is not protected (R129). -/
def stopIfIdle (prot : List (Fin 8)) (i : Fin 8) (s : State) : State :=
  if s.trains[i].state = .running ∧ heldOf s i = 0 ∧ i ∉ prot then stopTrain i s else s

/-- A SET is issued to an entry in RUNNING whose held value differs from the issued one (R129). An entry that returns from LOST
to RUNNING is no exception: where the value newly allocated to it equals the issued value, no SET is sent, though R125 says
that the recompute that follows sends one (DEDUCED, log entry 47). -/
def setIfChanged (i : Fin 8) (s : State) : State :=
  match s.disp.setpoints[i] with
  | some sp =>
    if s.trains[i].state = .running ∧ sp.issued ≠ some sp.held then
      let sps := s.disp.setpoints.set i (some { sp with issued := some sp.held })
      issue ⟨i, .set sp.held⟩ { s with disp := { s.disp with setpoints := sps } }
    else s
  | none => s

/-- Some entry of a kind stands in STARTING, RUNNING or STOPPING (R130, R132). -/
def anyMoving (s : State) (kind : TrainKind) : Bool :=
  (List.finRange 8).any fun i => isIn s kind .starting i || isIn s kind .running i || isIn s kind .stopping i

/-- R132: a START may be issued for a kind at this moment. -/
def startAllowed (s : State) (kind : TrainKind) : Bool :=
  !s.disp.trip && !anyMoving s kind.other
    && (decide (s.disp.changeKind = none) || decide (s.disp.changeKind = some kind)
      || decide (s.cfg.site.changeoverGap ≤ s.disp.changeCount))
    && !banAgainst s kind
    && (decide (kind = .compressor) || !s.disp.expanderHold)
    && s.engine.live.isSome

/-- R133: an entry is needed at its start lead. -/
def neededAhead (s : State) (i : Fin 8) : Bool :=
  let t := s.cfg.trains[i]
  let c := s.clock.interval
  let counts := fun j : Fin 8 => countsFor s.cfg.trains[j] s.trains[j] c t.startLead
  match s.liveAt (c + t.startLead) with
  | none => false
  | some sl =>
    let e := (meritOrder s.cfg.trains).filter fun j => decide (s.cfg.trains[j].kind = t.kind) && counts j
    signedFor t.kind sl.net && counts i
      && decide (i ∈ e.take (coverCount sl.net.natAbs (e.map fun j => s.cfg.trains[j].ratedKw)))

/-- A START issued to an entry: the roster moves it to STARTING with its start timer, and a setpoint of 0 is held
(R105, R133). -/
def startTrain (i : Fin 8) (s : State) : State :=
  let s := moveTrain i .starting (startTimer i s) s
  issue ⟨i, .start⟩ { s with disp := { s.disp with setpoints := s.disp.setpoints.set i (some ⟨0, none⟩) } }

/-- A READY entry is considered for a START: whether it is needed is judged on the roster `before` this recompute's
STARTs, so that each entry is judged on the same E (R133; log entry 35), and whether it is allowed at this moment
(R132). -/
def startIfNeeded (before : State) (i : Fin 8) (s : State) : State :=
  if s.trains[i].state = .ready ∧ neededAhead before i ∧ startAllowed s s.cfg.trains[i].kind then startTrain i s else s

/-! ### The recompute (R123) -/

/-- Do something for every roster entry in merit order. -/
def inMerit (f : Fin 8 → State → State) (s : State) : State := (meritOrder s.cfg.trains).foldl (fun s i => f i s) s

/-- One recompute: target and clamps, allocation, STOPs, SETs, then STARTs (R123 to R134). -/
def recomputeOnce (s : State) : State :=
  let s := formTarget s
  let tc := s.disp.clamped
  let s := cutLost .expander (cutLost .compressor s)
  let prot := protectedOf s tc .compressor ++ protectedOf s tc .expander
  let s := holdValues (allocateKind s tc .compressor ++ allocateKind s tc .expander) s
  let s := inMerit (stopIfIdle prot) s
  let s := inMerit setIfChanged s
  inMerit (startIfNeeded s) s

/-- The states of the roster. -/
def trainStates (s : State) : List TrainState := (List.finRange 8).map fun i => s.trains[i].state

/-- Recomputes follow until one changes no roster entry's state, since every such change is a cause (R123, R134). -/
def recomputeUpTo : Nat → State → State
  | 0, s => s
  | n + 1, s =>
    let s' := recomputeOnce s
    if trainStates s' = trainStates s then s' else recomputeUpTo n s'

/-- The recompute of an event, after the event's changes of state (R123; log entry 11). A recompute moves entries only
from RUNNING to STOPPING and from READY to STARTING, so nine are enough. -/
def recompute (s : State) : State := recomputeUpTo 9 s

/-- A recompute where `b` holds. -/
def recomputeIf (b : Bool) (s : State) : State := if b then recompute s else s

/-! ### Direction, changeover and expander hold (R130 to R132) -/

/-- Some entry of a kind stands in STARTING or RUNNING (R130). -/
def anyUp (s : State) (kind : TrainKind) : Bool :=
  (List.finRange 8).any fun i => isIn s kind .starting i || isIn s kind .running i

/-- The dispatch direction that a run copies (R130). -/
def directionNow (s : State) : Option Direction :=
  match anyMoving s .compressor, anyMoving s .expander with
  | true, false => some .charge
  | false, true => some .discharge
  | false, false => none
  | true, true =>
    match anyUp s .compressor, anyUp s .expander with
    | true, false => some .charge
    | false, true => some .discharge
    | _, _ => none

/-- The changeover count at a boundary (R131). -/
def countChangeover (s : State) : State := { s with disp := { s.disp with changeCount := incTo 3 s.disp.changeCount } }

/-- The expander hold formed again from the HEADER_PRESSURE channels (R132). -/
def reformHold (s : State) : State :=
  { s with disp := { s.disp with expanderHold := expanderHoldOf s.cfg.channels s.scan.results } }

/-- The dispatch unit takes the boundary into `n` (R139). -/
def dispatchBoundary (n : Nat) (s : State) : State := recompute (countChangeover (openTallyFor n (closeTally s)))

/-- The dispatch unit as SET_INTERVAL begins interval `n`: tallies discarded, an empty tally opens (R121). -/
def dispatchBegin (n : Nat) (s : State) : State :=
  { s with disp := { s.disp with openTally := some ⟨n, [], 0, 0⟩, closedTally := none } }

/-! ### The site trip (R126) -/

/-- A STOP is issued to an entry in STARTING or RUNNING (R126). -/
def stopIfUp (i : Fin 8) (s : State) : State :=
  if s.trains[i].state = .starting ∨ s.trains[i].state = .running then stopTrain i s else s

/-- The held value of every LOST entry becomes 0 (R125, R126). -/
def zeroLost (s : State) : State :=
  let sp := Vector.ofFn fun i : Fin 8 =>
    if s.trains[i].state = .lost then s.disp.setpoints[i].map fun p => { p with held := 0 } else s.disp.setpoints[i]
  { s with disp := { s.disp with setpoints := sp } }

/-- The site trip asserts (R126). -/
def tripAsserted (s : State) : State :=
  let s := setVerify (raise .siteTrip { s with disp := { s.disp with trip := true } })
  recompute (zeroLost (inMerit stopIfUp s))

/-- The site trip releases (R126). -/
def tripReleased (s : State) : State :=
  recompute (setVerify (raise .siteTrip { s with disp := { s.disp with trip := false } }))

/-! ### Accepted replies (R122) -/

/-- The energy of a reply: reported kW times the elapsed time, capped at twice the poll period (R122). -/
def replyEnergy (mark : Option Nat) (now kw pollPeriod : Nat) : Nat :=
  match mark with
  | none => 0
  | some m => kw * min (2 * pollPeriod) (now - m)

/-- The reply mark of an entry becomes this moment (R122). -/
def markReply (i : Fin 8) (s : State) : State :=
  { s with disp := { s.disp with replyMarks := s.disp.replyMarks.set i (some s.now) } }

/-- Energy goes to the open tally's accumulator for a kind (R122). -/
def OpenTally.add (t : OpenTally) (kind : TrainKind) (e : Nat) : OpenTally :=
  match kind with
  | .compressor => { t with accCompressor := t.accCompressor + e }
  | .expander => { t with accExpander := t.accExpander + e }

/-- A state in which a reply's energy is counted (R122). -/
def TrainState.delivers : TrainState → Bool
  | .running => true
  | .starting => true
  | .stopping => true
  | _ => false

/-- The dispatch unit accepts a STATUS reply of an entry that the roster has moved (R122). -/
def acceptReply (i : Fin 8) (kw : Nat) (s : State) : State :=
  let e := replyEnergy s.disp.replyMarks[i] s.now kw s.cfg.site.pollPeriod
  let tally := if s.trains[i].state.delivers then s.disp.openTally.map fun t => t.add s.cfg.trains[i].kind e
    else s.disp.openTally
  markReply i { s with disp := { s.disp with openTally := tally } }

end Sys2Proof.Machine
end

