-- ==== Sys2Proof/Machine/StoreBlock.lean ====
section
/-! DEFINITION. The heat store block (chapter 4): temperature outcomes, content, inhibit, and the boundary. -/

namespace Sys2Proof.Machine

/-- Write the store's working fields. -/
def setStoreWork (w : StoreWork) (s : State) : State := { s with store := w }

/-- `start_content` takes `content` where it is present; verification is set pending where it changed
(R30, R91 step 3). -/
def refreshStartContent (s : State) : State :=
  match s.store.content with
  | some c => setVerifyIf (decide (c ≠ s.store.startContent)) (setStoreWork { s.store with startContent := c } s)
  | none => s

/-- The inhibit judged from the mean temperature (R94): a changed value replaces the old one and raises HEAT_LIMIT. The
dispatch unit's recompute is the caller's. -/
def judgeStoreInhibit (s : State) : State :=
  let b := storeInhibitOf s.cfg.store s.store.meanT
  raiseIf (decide (b ≠ s.store.inhibit)) .heatLimit (setStoreWork { s.store with inhibit := b } s)

/-- The results of a temperature outcome that count: valid and within −400 to 7,000 (R88). -/
def countedTemps (results : List ChanResult) : List Int :=
  (results.filterMap ChanResult.value).filter fun v => decide (-400 ≤ v) && decide (v ≤ 7000)

/-- A GOOD mean `t` of `n` results (R89). -/
def goodMean (t : Int) (n : Nat) (s : State) : State :=
  let before := s.store
  let content := s.cfg.store.contentOf t
  let s := judgeStoreInhibit (setStoreWork { before with meanT := some t, validCount := n, content := some content } s)
  let s := setStoreWork { s.store with status := .good, holdAge := 0 } s
  match before.status with
  | .good => s
  | .held =>
    let s := raise .heatLimit s
    if before.meanT.isSome then s else setVerify (refreshStartContent s)
  | .unknown => setVerify (refreshStartContent (raise .heatLimit s))

/-- A NO_VALID outcome (R90). -/
def noValid (s : State) : State :=
  let w := { s.store with validCount := 0 }
  match w.status with
  | .good => raise .heatLimit (setStoreWork { w with status := .held, holdAge := 0 } s)
  | .held => setStoreWork w s
  | .unknown => setStoreWork w s

/-- A temperature outcome: the results of the STORE_TEMP channels that a pass converted (R88). -/
def takeTemperatures (results : List ChanResult) (s : State) : State :=
  let s := setStoreWork { s.store with heard := true } s
  match countedTemps results with
  | [] => noValid s
  | l => goodMean (l.sum.fdiv l.length) l.length s

/-- Step 1 of R91: silence since the previous boundary or beginning costs a GOOD store its trust. -/
def storeSilence (s : State) : State :=
  if s.store.status = .good ∧ s.store.heard = false then
    raise .heatLimit (setStoreWork { s.store with status := .held, holdAge := 0 } s)
  else s

/-- Step 2 of R91: the hold age, and UNKNOWN at the hold limit. -/
def storeAge (s : State) : State :=
  match s.store.status with
  | .good => s
  | .held =>
    let age := incTo 65535 s.store.holdAge
    if s.cfg.site.holdLimit ≤ age then
      setVerify (raise .heatLimit (setStoreWork { s.store with holdAge := age, status := .unknown } s))
    else setStoreWork { s.store with holdAge := age } s
  | .unknown => setStoreWork { s.store with holdAge := incTo 65535 s.store.holdAge } s

/-- Step 3 of R91: the start content of a store in GOOD or HELD. -/
def storeStartContent (s : State) : State :=
  match s.store.status with
  | .good => refreshStartContent s
  | .held => refreshStartContent s
  | .unknown => s

/-- The heat store takes a boundary (R91). -/
def storeBoundary (s : State) : State :=
  let s := storeStartContent (storeAge (storeSilence s))
  setStoreWork { s.store with heard := false } s

/-- The heat store as SET_INTERVAL begins an interval (R92). The mark of R91 step 1 is cleared here, so with the form AT_PULSE a
temperature outcome counts from the pulse that begins the interval, not from the command (DESIGN CHOICE, log entry 43). -/
def storeBegin (s : State) : State :=
  let s := storeStartContent s
  setStoreWork { s.store with heard := false } s

end Sys2Proof.Machine
end

