-- ==== Sys2Proof/Machine/ScannerBlock.lean ====
section
/-! DEFINITION. The instrument scanner (chapter 7): results, votes, passes, snapshots, and the boundary. -/

namespace Sys2Proof.Machine

/-! ### Results (R147) -/

/-- A value held within the signed 32-bit range (R147). -/
def hold32 (v : Int) : Int := max (-2147483648) (min 2147483647 v)

/-- The averaged code of an entry's conversions (R147 step 1). -/
def averagedCode (codes : List Nat) : Nat := codes.sum / codes.length

/-- No conversion gave the code of an open or a shorted input (R147 step 2). -/
def codesValid (codes : List Nat) : Bool := codes.all fun c => decide (c ≠ 0) && decide (c ≠ 4095)

/-- The value of an averaged code (R147 step 3). -/
def scaledValue (cfg : ChannelCfg) (code : Nat) : Int := hold32 (cfg.offset + ((code : Int) * cfg.gain).fdiv 4096)

/-- The result that an entry's conversions form (R147, R148). -/
def formResult (cfg : ChannelCfg) (codes : List Nat) : ChanResult :=
  let code := averagedCode codes
  if codesValid codes then
    let v := scaledValue cfg code
    ⟨code, some v, windowStateOf cfg v⟩
  else ⟨code, none, .noState⟩

/-- A SPARE channel's window state enters or leaves ALARM (R149). -/
def windowEvent (cfg : ChannelCfg) (before after : Option ChanResult) : Bool :=
  decide (cfg.role = .spare)
    && (decide (windowOfResult before = .alarm) != decide (windowOfResult after = .alarm))

/-! ### Votes (R152 to R155) -/

/-- The marked result of a cavern's position: the outer option is absent where the position is not marked (R152). -/
def markedResult (s : State) (i : Fin 4) (pos : Position) : Option (Option ChanResult) :=
  (channelWithRole s.cfg.channels (.cavernPressure i pos)).bind fun ch =>
    if s.scan.marks[ch] then some s.scan.results[ch] else none

/-- A result's value where it counts in a vote: valid and within 0 to 30,000 cbar (R153). -/
def countedValue (r : Option ChanResult) : Option Nat :=
  (r.bind ChanResult.value).bind fun v => if 0 ≤ v ∧ v ≤ 30000 then some v.toNat else none

/-- The counted values with their positions, in ascending order; of two equal values the earlier position stands first
(R153). -/
def sortedCounts (a b c : Option Nat) : List (Nat × Position) :=
  let l := (a.map fun v => (v, Position.a)).toList ++ (b.map fun v => (v, Position.b)).toList
    ++ (c.map fun v => (v, Position.c)).toList
  l.insertionSort fun x y => x.1 ≤ y.1

/-- Two values agree (R153). -/
def agree (tol lo hi : Nat) : Bool := decide (hi - lo ≤ tol)

/-- The outcome of the counted values, with the position outvoted (R154). -/
def voteOutcome (tol : Nat) (l : List (Nat × Position)) : VoteOutcome × Option Position :=
  match l with
  | [lo, mid, hi] =>
    if agree tol lo.1 mid.1 then
      if agree tol mid.1 hi.1 then (.good mid.1, none) else (.good ((lo.1 + mid.1) / 2), some hi.2)
    else if agree tol mid.1 hi.1 then (.good ((mid.1 + hi.1) / 2), some lo.2)
    else (.noMajority, none)
  | [lo, hi] => if agree tol lo.1 hi.1 then (.good ((lo.1 + hi.1) / 2), none) else (.noMajority, none)
  | _ => (.noMajority, none)

/-- A position's disagree flag after a vote (R155). -/
def flagAfter (l : List (Nat × Position)) (o : VoteOutcome × Option Position) (pos : Position) (before : Bool) : Bool :=
  if pos ∈ l.map Prod.snd then
    match o.1 with
    | .noMajority => true
    | .good _ => decide (o.2 = some pos)
  else before

/-- The disagree flags after a vote (R155). -/
def flagsAfter (l : List (Nat × Position)) (o : VoteOutcome × Option Position) (f : Disagree) : Disagree :=
  ⟨flagAfter l o .a f.a, flagAfter l o .b f.b, flagAfter l o .c f.c⟩

/-- The outcome that a pass completion hands to a cavern, with the vote's record where all three transducers are marked;
absent where none is (R152 to R155). -/
def passOutcome (s : State) (i : Fin 4) : Option (VoteOutcome × Disagree × Option VoteRecord) :=
  match markedResult s i .a, markedResult s i .b, markedResult s i .c with
  | none, none, none => none
  | some a, some b, some c =>
    let l := sortedCounts (countedValue a) (countedValue b) (countedValue c)
    let o := voteOutcome s.cfg.site.tol l
    let f := flagsAfter l o s.scan.flags[i]
    some (o.1, f, some ⟨o.1, l, f, s.scan.passCount⟩)
  | _, _, _ => some (.noMajority, s.scan.flags[i], none)

/-- A pass completion's outcome is handed to a cavern (R151, R155). -/
def handVote (i : Fin 4) (s : State) : State :=
  match passOutcome s i with
  | none => s
  | some (o, f, rec) =>
    let votes := match rec with | some r => s.scan.votes.set i (some r) | none => s.scan.votes
    takeVote i o f { s with scan := { s.scan with
      votes := votes, flags := s.scan.flags.set i f, handed := s.scan.handed.set i true } }

/-- A role of the store's sensors. -/
def Role.isStoreTemp : Role → Bool
  | .storeTemp _ _ => true
  | _ => false

/-- The results of a temperature outcome: those of the marked STORE_TEMP channels (R151). -/
def temperatureResults (s : State) : List ChanResult :=
  (List.finRange 24).filterMap fun ch : Fin 24 =>
    if s.cfg.channels[ch].role.isStoreTemp && s.scan.marks[ch] then s.scan.results[ch] else none

/-- A pending SNAPSHOT is served (R157). -/
def serveSnapshot (s : State) : State :=
  if s.scan.snapPending then
    let copy : SnapCopy := ⟨s.scan.results, s.scan.marks, s.scan.votes, s.scan.passCount, s.clock.numbered⟩
    { s with scan := { s.scan with snapPending := false, copy := some copy } }
  else s

/-- Every pass_mark is cleared and a pass stands at the head of the list (R146, R150). -/
def restartPass (s : State) : State :=
  { s with scan := { s.scan with marks := Vector.replicate 24 false, pos := 0, began := s.now } }

/-- A pass completes (R151). -/
def completePass (s : State) : State :=
  let s := { s with scan := { s.scan with passCount := wrapInc s.scan.passCount } }
  let s := (List.finRange 4).foldl (fun s i => handVote i s) s
  let s := takeTemperatures (temperatureResults s) s
  restartPass (serveSnapshot s)

/-- The entry of the scan list that is being converted (R146). -/
def State.converting (s : State) : Option (Fin 24) := s.cfg.scanList[s.scan.pos]?

/-- What the dispatch unit recomputes on when it changes: the inhibits, whether the store is UNKNOWN, the expander hold
(R123). -/
def banInputs (s : State) : List Inhibit × Inhibit × Bool × Bool :=
  ((List.finRange 4).map fun i => s.caverns[i].inhibit, s.store.inhibit, decide (s.store.status = .unknown),
    s.disp.expanderHold)

/-- The dispatch unit recomputes where a ban or the expander hold differs from before (R123). -/
def recomputeIfBanned (before s : State) : State := recomputeIf (decide (banInputs s ≠ banInputs before)) s

/-- The entry of channel `ch` completes with its converted codes: the result is formed, the mark is set, and the scanner
goes on, to the next entry or to the pass completion (R146, R147, R149, R151). -/
def completeEntry (ch : Fin 24) (codes : List Nat) (s : State) : State :=
  let cfg := s.cfg.channels[ch]
  let old := s.scan.results[ch]
  let new := formResult cfg codes
  let results := s.scan.results.set ch (some new)
  let marks := s.scan.marks.set ch true
  let pos := s.scan.pos + 1
  let s := { s with scan := { s.scan with results := results, marks := marks, pos := pos, began := s.now } }
  let s := reformHold (raiseIf (windowEvent cfg old (some new)) .window s)
  if s.cfg.scanList.length ≤ pos then completePass s else s

/-- The scanner at the boundary: NO_MAJORITY to a cavern handed no outcome since the previous one (R156). -/
def scannerBoundaryAt (i : Fin 4) (s : State) : State :=
  if s.scan.handed[i] then s else takeVote i .noMajority s.scan.flags[i] s

/-- Every cavern's mark is cleared (R156). -/
def clearHanded (s : State) : State := { s with scan := { s.scan with handed := Vector.replicate 4 false } }

/-- The scanner takes a boundary (R156). -/
def scannerBoundary (s : State) : State :=
  clearHanded ((List.finRange 4).foldl (fun s i => scannerBoundaryAt i s) s)

end Sys2Proof.Machine
end

