-- ==== Sys2Proof/Machine/CavernCommands.lean ====
section
/-! DEFINITION. The station commands of the cavern block: SET_CAVERN, LOAD_CAVERN_TABLE and READ_CAVERN (chapter 3). -/

namespace Sys2Proof.Machine

/-- Write a cavern's settings. -/
def setCavernCfg (i : Fin 4) (c : CavernCfg) (s : State) : State :=
  { s with cfg := { s.cfg with caverns := s.cfg.caverns.set i c } }

/-- A cavern's settings with the given fields in place (R66). -/
def CavernCfg.updated (c : CavernCfg) (p : CavernParams) : CavernCfg :=
  { c with
    inService := codeOr flagOf p.inService c.inService
    weight := p.weight.getD c.weight
    pMin := p.pMin.getD c.pMin
    pMax := p.pMax.getD c.pMax
    rateLimit := p.rateLimit.getD c.rateLimit
    driftLimit := p.driftLimit.getD c.driftLimit }

/-- The given values lie in their ranges (R66). -/
def cavernInRange (p : CavernParams) : Bool :=
  isCode flagOf p.inService && within 0 15 p.weight && within 0 30000 p.pMin && within 0 30000 p.pMax
    && within 1 500 p.rateLimit && within 0 50000000 p.driftLimit

/-- A field that runs read differs (R67). -/
def CavernCfg.runFieldsDiffer (a b : CavernCfg) : Bool :=
  decide (a.inService ≠ b.inService) || decide (a.weight ≠ b.weight) || decide (a.pMin ≠ b.pMin)
    || decide (a.pMax ≠ b.pMax) || decide (a.rateLimit ≠ b.rateLimit)

/-- SET_CAVERN, its values examined (R66, R67). -/
def setCavernAct (p : CavernParams) (s : State) : State :=
  match cavernOf p.number with
  | none => reply .badValue s
  | some i =>
    let old := s.cfg.caverns[i]
    let new := old.updated p
    if cavernInRange p && decide (new.pMin < new.pMax) then
      let s' := judgeCavernInhibit i (setVerifyIf (new.runFieldsDiffer old) (setCavernCfg i new s))
      reply .done (recomputeIfBanned s s')
    else reply .badValue s

/-- SET_CAVERN (R66). -/
def execSetCavern (p : CavernParams) (s : State) : Result := .next (station (settingsWrite (setCavernAct p)) s)

/-- The values of a LOAD_CAVERN_TABLE are taken (R63). -/
def cavernTableOk (p : CavernTableParams) : Bool :=
  decide (1 ≤ p.step) && decide (p.step ≤ 250000000) && decide (p.m0 + 16 * p.step ≤ 4000000000)
    && p.pressures.toList.all (fun x => decide (x ≤ 30000)) && rising p.pressures

/-- The mass figures of a cavern on a new table (R63). -/
def remeasure (i : Fin 4) (s : State) : State :=
  match s.caverns[i].votedP with
  | none => s
  | some p => formMass i p s

/-- LOAD_CAVERN_TABLE, its values examined (R63). -/
def loadCavernTableAct (p : CavernTableParams) (s : State) : State :=
  match cavernOf p.number with
  | none => reply .badValue s
  | some i =>
    if cavernTableOk p then
      let s := remeasure i (setCavernCfg i { s.cfg.caverns[i] with table := ⟨p.m0, p.step, p.pressures⟩ } s)
      reply .done (setVerify (boundaryStartMass i s))
    else reply .badValue s

/-- LOAD_CAVERN_TABLE (R63). -/
def execLoadCavernTable (p : CavernTableParams) (s : State) : Result :=
  .next (station (settingsWrite (loadCavernTableAct p)) s)

/-- READ_CAVERN, taken (R68). -/
def readCavernAct (number : Nat) (s : State) : State :=
  match cavernOf number with
  | none => reply .badValue s
  | some i => answer .done (.cavern number s.cfg.caverns[i] s.caverns[i] (transducersOf s.cfg.channels i)) s

/-- READ_CAVERN (R68). -/
def execReadCavern (number : Nat) (s : State) : Result := .next (station (readCavernAct number) s)

end Sys2Proof.Machine
end

