-- ==== Sys2Proof/Machine/Projection.lean ====
section
/-! DEFINITION. The projection engine (chapter 2): the copy a run takes, the nine stages of a slot, the table of a run, its
comparison with the live table, the at-risk marks, and what a boundary does to the engine. -/

namespace Sys2Proof.Machine

/-! ### The copy (R33 to R35) -/

/-- How a record of the book is counted (R34), where it is not the candidate. -/
def countedRecord (key : Nat) (r : Record) : Option Counted :=
  match r.state with
  | .tentative => some ⟨key, r.dir, r.power, r.change, r.start, r.length, .span⟩
  | .firm => some ⟨key, r.dir, r.power, r.change, r.start, r.length, .span⟩
  | .active => some ⟨key, r.dir, r.power, r.change, r.start, r.length, .span⟩
  | .ending => some ⟨key, r.dir, r.power, r.change, r.start, r.length, .slotZero⟩
  | _ => none

/-- How the candidate of an admission run is counted (R35). -/
def countedCandidate (kind : ItemKind) (key : Nat) (r : Record) : Option Counted :=
  match kind, r.pendingAmend with
  | .admitting, _ => some ⟨key, r.dir, r.power, r.change, r.start, r.length, .span⟩
  | .amend, some a =>
    if r.state = .active then
      some ⟨key, r.dir, r.power, r.change, r.start, r.length, .amended a.power (r.start + a.length - 1)⟩
    else some ⟨key, r.dir, a.power, none, a.start, a.length, .span⟩
  | .amend, none => countedRecord key r

/-- How a slot of the book is counted in a run for a candidate (R34, R35). -/
def countedSlot (candidate : Option Item) (i : Fin 128) (slot : BookSlot) : Option Counted :=
  slot.record.bind fun r =>
    let key := keyOf i slot.gen
    match candidate with
    | some it => if it.key = key then countedCandidate it.kind key r else countedRecord key r
    | none => countedRecord key r

/-- What a run copies of a cavern (R33). -/
def cavernInput (cfg : CavernCfg) (w : CavernWork) : CavernInput :=
  ⟨cfg.inService, cfg.weight, w.status, w.startMass, cfg.table, cfg.pMin, cfg.pMax, cfg.rateLimit⟩

/-- The number of slots of a horizon. -/
def horizon : Nat := 288

/-- The copy that a run takes at its start (R33). -/
def copyInputs (s : State) (candidate : Option Item) : RunCopy where
  interval := s.clock.interval
  counted := (List.finRange 128).filterMap fun i => countedSlot candidate i s.book[i]
  caverns := Vector.ofFn fun i : Fin 4 => cavernInput s.cfg.caverns[i] s.caverns[i]
  startContent := s.store.startContent
  capacity := s.cfg.store.capacity
  heatFloor := s.cfg.store.heatFloor
  capturePermille := s.cfg.store.capturePermille
  drawPermille := s.cfg.store.drawPermille
  lossPpm := s.cfg.store.lossPpm
  storeStatus := s.store.status
  chargeCaps := (List.range horizon).map (capacityOf s .compressor)
  dischargeCaps := (List.range horizon).map (capacityOf s .expander)
  importLimit := s.cfg.site.importLimit
  exportLimit := s.cfg.site.exportLimit
  changeoverGap := s.cfg.site.changeoverGap
  trip := s.disp.trip
  direction := directionNow s
  yieldG := s.cfg.store.yieldG
  useG := s.cfg.store.useG

/-! ### Counting (R34, R35) -/

/-- The power that a counted record contributes in slot `k` of a horizon that begins at `c`, as a magnitude; none in a
slot in which the run does not count it (R34, R35, R50). -/
def Counted.powerIn (r : Counted) (c k : Nat) : Option Nat :=
  match r.mode with
  | .span =>
    if r.start ≤ c + k ∧ c + k < r.start + r.length then some (powerInForce r.power r.change (c + k)) else none
  | .slotZero => if k = 0 then some (powerInForce r.power r.change c) else none
  | .amended p last =>
    if k = 0 then some (powerInForce r.power r.change c) else if c + k ≤ last then some p else none

/-- A magnitude with the sign of a direction: positive for CHARGE, negative for DISCHARGE (R34). -/
def signedPower (d : Direction) (p : Nat) : Int :=
  match d with
  | .charge => p
  | .discharge => -(p : Int)

/-- The contribution of a counted record to slot `k` (R34). -/
def Counted.contribution (r : Counted) (c k : Nat) : Int := signedPower r.dir ((r.powerIn c k).getD 0)

/-- The net power of slot `k` (R34). -/
def netPower (copy : RunCopy) (k : Nat) : Int := (copy.counted.map fun r => r.contribution copy.interval k).sum

/-! ### The stages of a slot (R36 to R45) -/

/-- Stage 1 (R37). -/
def gridFails (copy : RunCopy) (n : Int) : Bool :=
  decide ((copy.importLimit : Int) < n) || decide ((copy.exportLimit : Int) < -n)

/-- The net power as the heat and mass stages take it (R37). -/
def saturated (n : Int) : Int := max (-800000) (min 800000 n)

/-- The charge capacity as used in slot `k` (R38). -/
def chargeCapOf (copy : RunCopy) (k : Nat) : Nat := if k = 0 ∧ copy.trip then 0 else copy.chargeCaps.getD k 0

/-- The discharge capacity as used in slot `k` (R38). -/
def dischargeCapOf (copy : RunCopy) (k : Nat) : Nat :=
  if k = 0 ∧ (copy.trip ∨ copy.storeStatus = .unknown) then 0 else copy.dischargeCaps.getD k 0

/-- Stage 2 (R38). -/
def capacityFails (copy : RunCopy) (k : Nat) (n : Int) : Bool :=
  (decide (0 < n) && decide ((chargeCapOf copy k : Int) < n))
    || (decide (n < 0) && decide ((dischargeCapOf copy k : Int) < -n))

/-- The direction of a net power; none for 0. -/
def directionOfNet (n : Int) : Option Direction :=
  if 0 < n then some .charge else if n < 0 then some .discharge else none

/-- Stage 3, against a reference and the zero slots since it (R39). -/
def changeoverFails (gap : Nat) (ref : Option Direction) (zeros : Nat) (n : Int) : Bool :=
  match ref, directionOfNet n with
  | some r, some d => decide (r ≠ d) && decide (zeros < gap)
  | _, _ => false

/-- A power times a factor over 12,000, rounded half away from zero (R40). -/
def perSlot (n : Int) (factor : Nat) : Nat := roundDiv (n.natAbs * factor) 12000

/-- The standing loss of a slot (R41). -/
def heatLoss (h lossPpm : Nat) : Nat := h * lossPpm / 1000000

/-- Stage 5: end content, HEAT_SHORT and DUMP; `n` is the saturated net power (R41). A slot whose content reaches the
capacity exactly is marked DUMP too, as R83 has it of every charging slot of a store of capacity 0 (log entry 38). -/
def heatStage (copy : RunCopy) (h : Nat) (n : Int) : Nat × Bool × Bool :=
  let kept := h - heatLoss h copy.lossPpm
  if 0 < n then
    let e := kept + perSlot n copy.capturePermille
    (min copy.capacity e, false, decide (copy.capacity ≤ e))
  else if n < 0 then
    let draw := perSlot n copy.drawPermille
    (kept - draw, decide ((kept : Int) - draw < copy.heatFloor), false)
  else (kept, false, false)

/-- Stage 6: the change of air mass; `n` is the saturated net power (R42). -/
def massChange (copy : RunCopy) (n : Int) : Int :=
  if 0 < n then (perSlot n copy.yieldG : Int) else if n < 0 then -(perSlot n copy.useG : Int) else 0

/-- A cavern is eligible for a run (R43, R69). -/
def CavernInput.eligible (c : CavernInput) : Bool :=
  c.inService && decide (1 ≤ c.weight) && decide (c.weight ≤ 15) && decide (c.status ≠ .unknown)

/-- The weight with which a cavern takes part in the split, 0 for one that is not eligible (R43). -/
def CavernInput.part (c : CavernInput) : Nat := if c.eligible then c.weight else 0

/-- W, the sum of the eligible weights (R43). -/
def totalWeight (caverns : Vector CavernInput 4) : Nat :=
  caverns[0].part + caverns[1].part + caverns[2].part + caverns[3].part

/-- The lowest-numbered eligible cavern (R43). -/
def lowestEligible (caverns : Vector CavernInput 4) : Option (Fin 4) :=
  (List.finRange 4).find? fun i => caverns[i].eligible

/-- The floored share of a cavern in a mass change of magnitude `m` (R43). -/
def floorShare (caverns : Vector CavernInput 4) (m : Nat) (i : Fin 4) : Nat :=
  m * caverns[i].part / totalWeight caverns

/-- The magnitude of a cavern's share: the remainder goes to the lowest-numbered eligible cavern (R43). -/
def shareOf (caverns : Vector CavernInput 4) (m : Nat) (i : Fin 4) : Nat :=
  let rest := m - (floorShare caverns m 0 + floorShare caverns m 1 + floorShare caverns m 2 + floorShare caverns m 3)
  floorShare caverns m i + if lowestEligible caverns = some i then rest else 0

/-- A cavern's share of a mass change, with its sign (R43). -/
def signedShare (caverns : Vector CavernInput 4) (dM : Int) (i : Fin 4) : Int :=
  if dM < 0 then -(shareOf caverns dM.natAbs i : Int) else (shareOf caverns dM.natAbs i : Int)

/-- A cavern's mass at the end of a slot (R43, R44). -/
def endMass (caverns : Vector CavernInput 4) (dM : Int) (m : Nat) (i : Fin 4) : Nat :=
  if caverns[i].eligible then (m + signedShare caverns dM i).toNat else m

/-- Stage 8 for one eligible cavern: its failures in the order of the checks (R44). -/
def cavernFailures (c : CavernInput) (m m' : Nat) : List Reason :=
  if c.table.holds m && c.table.holds m' then
    let p := c.table.pressure m
    let p' := c.table.pressure m'
    (if p' < c.pMin then [.massLow] else if c.pMax < p' then [.massHigh] else [])
      ++ (if c.rateLimit < ((p' : Int) - p).natAbs then [.rate] else [])
  else [.tableRange]

/-- What one slot hands to the next: the masses, the content, and the reference of stage 3 with the zero slots since it
(R36, R39). -/
structure Carry where
  masses : Vector Nat 4
  heat : Nat
  ref : Option Direction
  zeros : Nat
  deriving DecidableEq, Repr

/-- What slot 0 begins from (R36, R39, R41). -/
def Carry.start (copy : RunCopy) : Carry where
  masses := Vector.ofFn fun i : Fin 4 => copy.caverns[i].startMass
  heat := min copy.startContent copy.capacity
  ref := copy.direction
  zeros := 0

/-- The reasons marked in a slot, in stage order, each with the failing cavern's number or 0 (R36). -/
def slotFailures (copy : RunCopy) (k : Nat) (n : Int) (c : Carry) (masses : Vector Nat 4) : List (Reason × Nat) :=
  (if gridFails copy n then [(.grid, 0)] else [])
    ++ (if capacityFails copy k n then [(.capacity, 0)] else [])
    ++ (if changeoverFails copy.changeoverGap c.ref c.zeros n then [(.changeover, 0)] else [])
    ++ (if (heatStage copy c.heat (saturated n)).2.1 then [(.heatShort, 0)] else [])
    ++ (if totalWeight copy.caverns = 0 ∧ n ≠ 0 then [(.noCavern, 0)] else [])
    ++ (List.finRange 4).flatMap fun i =>
        if copy.caverns[i].eligible then
          (cavernFailures copy.caverns[i] c.masses[i] masses[i]).map fun r => (r, i.val + 1)
        else []

/-- Slot `k` of a run: its record, and what the next slot begins from (R36 to R45). -/
def runSlot (copy : RunCopy) (k : Nat) (c : Carry) : ProjSlot × Carry :=
  let n := netPower copy k
  let (heat, _, dump) := heatStage copy c.heat (saturated n)
  let dM := massChange copy (saturated n)
  let masses : Vector Nat 4 := Vector.ofFn fun i : Fin 4 => endMass copy.caverns dM c.masses[i] i
  let (status, cavern) := match slotFailures copy k n c masses with
    | [] => (SlotStatus.ok, 0)
    | (r, i) :: _ => (SlotStatus.fail r, i)
  ({ interval := copy.interval + k
     net := n
     chargeCap := chargeCapOf copy k
     dischargeCap := dischargeCapOf copy k
     caverns := Vector.ofFn fun i : Fin 4 =>
       if copy.caverns[i].inService then some ⟨masses[i], copy.caverns[i].table.recordedPressure masses[i]⟩ else none
     heat := heat
     dump := dump
     status := status
     failCavern := cavern },
   { masses := masses
     heat := heat
     ref := match directionOfNet n with | some d => some d | none => c.ref
     zeros := if n = 0 then c.zeros + 1 else 0 })

/-- The slots of a run from slot `k` on, `count` of them (R36). -/
def runSlots (copy : RunCopy) : Nat → Nat → Carry → List ProjSlot
  | _, 0, _ => []
  | k, count + 1, c =>
    let r := runSlot copy k c
    r.1 :: runSlots copy (k + 1) count r.2

/-- The table of a run: 288 slots (R36, R45). -/
def runTable (copy : RunCopy) : List ProjSlot := runSlots copy 0 horizon (Carry.start copy)

/-! ### Judging a table (R47, R50) -/

/-- A slot stands clear: its status is OK or NONE (R47). -/
def ProjSlot.clear (sl : ProjSlot) : Bool :=
  match sl.status with
  | .fail _ => false
  | _ => true

/-- The blocking slot: the lowest slot that fails in the run while the live table's slot stands clear; every slot of an
invalid live table stands clear (R47). -/
def blockingSlot (run : List ProjSlot) (live : Option (List ProjSlot)) : Option ProjSlot :=
  match live with
  | none => run.find? fun sl => !sl.clear
  | some t => ((run.zip t).find? fun q => !q.1.clear && q.2.clear).map Prod.fst

/-- The refusal that a blocking slot gives (R49). -/
def ProjSlot.refusal (sl : ProjSlot) : RefusalNote :=
  { reason := match sl.status with | .fail r => r | _ => .grid
    interval := sl.interval
    cavern := if sl.failCavern = 0 then none else some sl.failCavern }

/-- The at-risk mark that a run gives a record it counted: the interval of the lowest failing slot among those in which
it counted the record (R50). -/
def riskMark (copy : RunCopy) (table : List ProjSlot) (r : Counted) : Option Nat :=
  ((table.zipIdx).find? fun q => (r.powerIn copy.interval q.2).isSome && !q.1.clear).map fun q => q.1.interval

/-- A state whose at-risk mark a run writes (R50; log entry 14). -/
def RecordState.marked : RecordState → Bool
  | .tentative => true
  | .firm => true
  | .active => true
  | .ending => true
  | _ => false

/-- Write the at-risk mark of one counted record that is still present; whether it passed between clear and set
(R50). -/
def writeMark (copy : RunCopy) (table : List ProjSlot) (q : State × Bool) (r : Counted) : State × Bool :=
  match q.1.lookup r.key with
  | some rec =>
    if rec.state.marked then
      let m := riskMark copy table r
      (setRecord r.key { rec with atRisk := m } q.1, q.2 || decide (m.isSome ≠ rec.atRisk.isSome))
    else q
  | none => q

/-- The at-risk marks of every record that a run counted, with AT_RISK once where any mark changed (R50). -/
def writeMarks (copy : RunCopy) (table : List ProjSlot) (s : State) : State :=
  let q := copy.counted.foldl (writeMark copy table) (s, false)
  raiseIf q.2 .atRisk q.1

/-- A run's table becomes the live table: the run count advances, the flag is cleared unless a cause was taken since the
run started, and a pinned copy is superseded (R31, R46, R48, R58, R59). -/
def goLive (run : Run) (table : List ProjSlot) (s : State) : State :=
  { s with engine := { s.engine with
      run := none, flag := run.stale, live := some table, runCount := wrapInc s.engine.runCount,
      snap := { s.engine.snap with superseded := true } } }

/-- The run ends and its table is dropped (R49, R51). -/
def dropRun (s : State) : State := { s with engine := { s.engine with run := none } }

/-! ### Starting a run (R31 to R33) -/

/-- The run kind of an item (R59). -/
def ItemKind.runKind : ItemKind → RunKind
  | .admitting => .admitting
  | .amend => .amend

/-- A run starts for an item, or as a verification run (R32, R33). -/
def startRun (candidate : Option Item) (s : State) : State :=
  let run : Run :=
    { kind := match candidate with | some it => it.kind.runKind | none => .verification
      subject := candidate.map Item.key
      stale := false
      copy := copyInputs s candidate }
  { s with engine := { s.engine with run := some run } }

/-! ### The boundary (R52, R54) -/

/-- The new slot 287 of a shifted table, after the slot `last` (R54). -/
def nextSlot (last : ProjSlot) (interval : Nat) : ProjSlot :=
  { interval := interval, net := 0, chargeCap := 0, dischargeCap := 0, caverns := last.caverns, heat := last.heat,
    dump := false, status := .noStatus, failCavern := 0 }

/-- The live table shifted by one slot at the boundary into `n` (R54). -/
def shiftTable (n : Nat) (t : List ProjSlot) : List ProjSlot :=
  match t.getLast? with
  | some last => t.tail ++ [nextSlot last (n + horizon - 1)]
  | none => []

/-- The live table is shifted, and slot 0 becomes the closed slot (R54, R55, R58). -/
def shiftLive (n : Nat) (s : State) : State :=
  match s.engine.live with
  | none => { s with engine := { s.engine with closed := none } }
  | some t =>
    { s with engine := { s.engine with
        live := some (shiftTable n t), closed := t.head?, snap := { s.engine.snap with superseded := true } } }

/-- The item of an admission run that still has its subject (R52). -/
def Run.item (r : Run) : Option Item :=
  match r.kind, r.subject with
  | .admitting, some key => some ⟨key, .admitting⟩
  | .amend, some key => some ⟨key, .amend⟩
  | _, _ => none

/-- The engine takes the boundary into `n`: verification is set pending, the run in flight is abandoned, the live table
is shifted, and an admission run that has its subject is started afresh at once (R30, R52, R54). -/
def engineBoundary (n : Nat) (s : State) : State :=
  let item := s.engine.run.bind Run.item
  let s := shiftLive n (dropRun (setVerify s))
  match item with
  | some it => startRun (some it) s
  | none => s

/-- The engine as SET_INTERVAL is taken: no run, both tables invalid, verification pending (R56, R58, R59). -/
def engineBegin (s : State) : State :=
  let superseded := s.engine.snap.superseded || s.engine.live.isSome
  setVerify { s with engine := { s.engine with
    run := none, live := none, closed := none, runCount := 0, snap := { s.engine.snap with superseded := superseded } } }

end Sys2Proof.Machine
end

