-- ==== Sys2Proof/Machine/Roster.lean ====
section
/-! DEFINITION. The train roster (chapter 5): what an accepted reply, a loss, a timer and a boundary do to an entry. -/

namespace Sys2Proof.Machine

/-- What an ANNOUNCE carries (R102, R172). -/
structure Announce where
  name : List Nat
  kind : TrainKind
  ratedKw : Nat
  minStableKw : Nat
  state : ReportedState
  deriving DecidableEq, Repr

/-- The dispatch unit recomputes where an entry's state or rating differs from before (R117, R123). -/
def recomputeIfMoved (before s : State) : State :=
  recomputeIf (decide (trainStates s ≠ trainStates before) || decide (s.cfg.trains ≠ before.cfg.trains)) s

/-- Write an entry's settings. -/
def setTrainCfg (i : Fin 8) (t : TrainCfg) (s : State) : State :=
  { s with cfg := { s.cfg with trains := s.cfg.trains.set i t } }

/-! ### Binding (R101 to R104) -/

/-- An entry's bind_fault takes a value, with IDENTITY where it passes to KIND or IDENTITY from anything else
(R102). -/
def setBindFault (i : Fin 8) (f : Option BindFault) (s : State) : State :=
  let old := s.trains[i].bindFault
  raiseIf ((decide (f = some .kind) || decide (f = some .identity)) && decide (f ≠ old)) .identity
    (setTrain i { s.trains[i] with bindFault := f } s)

/-- The bind_fault that the checks of an ANNOUNCE give (R102 steps 1 and 2). -/
def announceFaultOf (t : TrainCfg) (a : Announce) : Option BindFault :=
  if a.kind ≠ t.kind then some .kind else if a.name ≠ t.name then some .identity else none

/-- last_report takes an announced state; the kW and the fault code, which an ANNOUNCE does not carry, are free values
(R102, R104; log entry 8). -/
def reportAnnounced (i : Fin 8) (st : ReportedState) (s : State) : State :=
  let r : Report := ⟨st, Config.announceKw s.free % 150001, (Config.announceFault s.free).toNat⟩
  setTrain i { s.trains[i] with report := some r } { s with free := s.free + 1 }

/-- A held value of a LOST entry brought to changed ratings (R125). -/
def cutToRating (t : TrainCfg) (v : Nat) : Nat :=
  let v := min v t.ratedKw
  if v < t.minStableKw then 0 else v

/-- A change of an entry's ratings reaches the engine and a LOST entry's held value (R100, R103, R125). -/
def ratingChanged (i : Fin 8) (s : State) : State :=
  let s := setVerify s
  if s.trains[i].state = .lost then
    let sp := s.disp.setpoints[i].map fun p => { p with held := cutToRating s.cfg.trains[i] p.held }
    { s with disp := { s.disp with setpoints := s.disp.setpoints.set i sp } }
  else s

/-- The ratings of an entry after an ANNOUNCE (R103). -/
def TrainCfg.rerated (t : TrainCfg) (a : Announce) : TrainCfg :=
  if t.holdRating then t
  else
    let rated := max 1000 (min 150000 a.ratedKw)
    { t with ratedKw := rated, minStableKw := min rated a.minStableKw }

/-- The ratings that an ANNOUNCE gives are taken (R103). -/
def takeRatings (i : Fin 8) (a : Announce) (s : State) : State :=
  let t := s.cfg.trains[i]
  let t' := t.rerated a
  if t' = t then s else ratingChanged i (setTrainCfg i t' s)

/-- A train binds in the state it announces (R102 step 3). -/
def bindAs (i : Fin 8) (st : ReportedState) (s : State) : State :=
  match st with
  | .stopped => moveTrain i .ready none s
  | .fault => lockOut i .reported s
  | .starting => issue ⟨i, .stop⟩ (enterResting i s)
  | .running => issue ⟨i, .stop⟩ (enterResting i s)
  | .stopping => issue ⟨i, .stop⟩ (enterResting i s)

/-- An ANNOUNCE taken for an ABSENT entry (R102). -/
def announceAbsent (i : Fin 8) (a : Announce) (s : State) : State :=
  let f := announceFaultOf s.cfg.trains[i] a
  let s := setBindFault i f s
  if f = none then bindAs i a.state (takeRatings i a (reportAnnounced i a.state s)) else s

/-- An ANNOUNCE taken for a bound or WITHDRAWN entry (R104). -/
def announceOther (i : Fin 8) (a : Announce) (s : State) : State :=
  let f := announceFaultOf s.cfg.trains[i] a
  let s := reportAnnounced i a.state (setBindFault i f s)
  if s.trains[i].state = .withdrawn ∧ f = none then takeRatings i a s else s

/-- An ANNOUNCE taken by the roster (R102 to R104). The dispatch unit's mark and recompute are the caller's. -/
def takeAnnounce (i : Fin 8) (a : Announce) (s : State) : State :=
  if s.trains[i].state = .absent then announceAbsent i a s else announceOther i a s

/-- An IDENT fails: bind_fault of an ABSENT or WITHDRAWN entry becomes NO_ANSWER (R101). -/
def identFailed (i : Fin 8) (s : State) : State :=
  if s.trains[i].state = .absent ∨ s.trains[i].state = .withdrawn then setBindFault i (some .noAnswer) s else s

/-- An IDENT to an entry has ended: while a configured entry is ABSENT, the next falls due one poll period later
(R101). -/
def identEnded (i : Fin 8) (s : State) : State :=
  if s.cfg.trains[i].configured ∧ s.trains[i].state = .absent then
    setTrain i { s.trains[i] with identDue := some (s.now + s.cfg.site.pollPeriod) } s
  else s

/-! ### STATUS replies (R106, R110) -/

/-- An entry in STOPPING to which a STOP is issued (R106, R110). -/
def stopUnbidden (i : Fin 8) (s : State) : State := issue ⟨i, .stop⟩ (enterStopping i s)

/-- An entry enters RUNNING from STARTING (R106). -/
def enterRunning (i : Fin 8) (s : State) : State :=
  let s := moveTrain i .running none s
  setTrain i { s.trains[i] with runCount := 0 } s

/-- A LOST train may be running (R110). -/
def mayBeRunning (i : Fin 8) (s : State) : Bool :=
  s.disp.setpoints[i].isSome && !anyUp s s.cfg.trains[i].kind.other

/-- A setpoint that stands is held at 0 (R129: in STARTING the held value is 0; log entry 34). -/
def holdNothing (i : Fin 8) (s : State) : State :=
  let sp := s.disp.setpoints[i].map fun p => { p with held := 0 }
  { s with disp := { s.disp with setpoints := s.disp.setpoints.set i sp } }

/-- The loss of an entry ends (R110). -/
def recoverLost (i : Fin 8) (st : ReportedState) (s : State) : State :=
  match st with
  | .fault => lockOut i .reported s
  | .stopped => enterResting i s
  | .running => if mayBeRunning i s then moveTrain i .running none s else stopUnbidden i s
  | .starting => if mayBeRunning i s then holdNothing i (moveTrain i .starting (startTimer i s) s) else stopUnbidden i s
  | .stopping => enterStopping i s

/-- The move that a STATUS makes of a bound entry, by its state and the reported state (R106). -/
def statusMove (i : Fin 8) (st : ReportedState) (s : State) : State :=
  match s.trains[i].state, st with
  | .lost, _ => recoverLost i st s
  | .ready, .starting => stopUnbidden i s
  | .ready, .running => stopUnbidden i s
  | .ready, .stopping => enterStopping i s
  | .ready, .fault => lockOut i .reported s
  | .starting, .running => enterRunning i s
  | .starting, .stopping => enterStopping i s
  | .starting, .fault => lockOut i .reported s
  | .running, .stopped => restAfterStop i s
  | .running, .stopping => enterStopping i s
  | .running, .fault => lockOut i .reported s
  | .stopping, .stopped => restAfterStop i s
  | .stopping, .fault => lockOut i .reported s
  | .resting, .starting => stopUnbidden i s
  | .resting, .running => stopUnbidden i s
  | .resting, .fault => lockOut i .reported s
  | _, _ => s

/-- A STATUS taken by the roster: last_report is set, and a bound entry moves (R104, R106). -/
def takeStatus (i : Fin 8) (r : Report) (s : State) : State :=
  statusMove i r.state (setTrain i { s.trains[i] with report := some r } s)

/-! ### Losses and timers (R107, R109) -/

/-- The link declares a train lost (R109). -/
def declareLost (i : Fin 8) (s : State) : State :=
  match s.trains[i].state with
  | .ready => raise .trainLost (moveTrain i .lost none s)
  | .starting => raise .trainLost (moveTrain i .lost none s)
  | .running => raise .trainLost (moveTrain i .lost none s)
  | .stopping => raise .trainLost (moveTrain i .lost none s)
  | .resting => raise .trainLost (moveTrain i .lost none s)
  | _ => s

/-- An entry's timer of a kind has run out while the entry stands in the state that the timer belongs to (R107). -/
def timerRanOut (i : Fin 8) (kind : TimerKind) (st : TrainState) (s : State) : Bool :=
  decide (s.trains[i].state = st) &&
    match s.trains[i].timer with
    | some t => decide (t.kind = kind) && decide (t.expiry ≤ s.now)
    | none => false

/-! ### The boundary (R111) -/

/-- A resting entry counts a boundary down, and is READY when none is left (R111 step 2). -/
def restBoundary (i : Fin 8) (s : State) : State :=
  let left := s.trains[i].restCount - 1
  let s := setTrain i { s.trains[i] with restCount := left } s
  if left = 0 then moveTrain i .ready none s else s

/-- One entry's steps 1 and 2 at a boundary (R111). -/
def rosterCount (i : Fin 8) (s : State) : State :=
  match s.trains[i].state with
  | .running => setTrain i { s.trains[i] with runCount := incTo 255 s.trains[i].runCount } s
  | .resting => restBoundary i s
  | _ => s

/-- One entry takes the boundary into `n` (R111). -/
def rosterBoundaryAt (n : Nat) (i : Fin 8) (s : State) : State :=
  if s.cfg.trains[i].configured then
    let s := rosterCount i s
    setTrain i { s.trains[i] with outages := s.trains[i].outages.filter fun w => n ≤ w.last } s
  else s

/-- The roster takes the boundary into `n`, and the dispatch unit recomputes (R111, R123). -/
def rosterBoundary (n : Nat) (s : State) : State :=
  recompute ((List.finRange 8).foldl (fun s i => rosterBoundaryAt n i s) s)

end Sys2Proof.Machine
end

