-- ==== Sys2Proof/Machine/ClockUnit.lean ====
section
/-! DEFINITION. The interval clock (chapter 8): the boundary that every block takes, the beginning of an interval, and
what a pulse and the own timer do. -/

namespace Sys2Proof.Machine

/-- The number after interval `n`; past the end of the 32-bit range a free value (R159, R163; log entry 6). -/
def nextInterval (free n : Nat) : Nat := if 4294967295 ≤ n then (Config.intervalPastEnd free).toNat else n + 1

/-- One block takes the boundary out of `ended` and into `n` (R163 step 5). -/
def takeBoundary (ended n : Nat) (b : Block) (s : State) : State :=
  match b with
  | .book => bookBoundary n s
  | .engine => engineBoundary n s
  | .caverns => cavernsBoundary ended s
  | .store =>
    let s' := storeBoundary s
    recomputeIf (decide (s'.store.status = .unknown) != decide (s.store.status = .unknown)) s'
  | .roster => rosterBoundary n s
  | .dispatch => dispatchBoundary n s
  | .scanner => scannerBoundary s

/-- The blocks of a list take the boundary, in the order of the list (R163 step 5). -/
def takeBoundaryIn (order : List Block) (ended n : Nat) (s : State) : State :=
  order.foldl (fun s b => takeBoundary ended n b s) s

/-- A boundary at moment `origin`, after which the clock stands in `mode` with its absorb window as given (R163); the
order of the blocks is free (log entry 3). -/
def boundary (mode : ClockMode) (origin : Nat) (absorb : Bool) (s : State) : State :=
  let ended := s.clock.interval
  let n := nextInterval s.free ended
  let order := Config.blockOrder s.free
  let s := { s with
    free := s.free + 1
    clock := { s.clock with mode := mode, interval := n, origin := origin, absorbOpen := absorb } }
  takeBoundaryIn order ended n s

/-- The blocks take the beginning of interval `n` by SET_INTERVAL, but for the verification run (R161). -/
def blocksBegin (n : Nat) (s : State) : State :=
  clearHanded (dispatchBegin n (storeBegin (cavernsBegin (engineBegin s))))

/-- SET_INTERVAL with the form NOW (R161): the blocks take the beginning, and the engine starts a verification run for it
in the same step (R56); its inputs are those that the beginning leaves (R75, R92; log entry 37). -/
def beginNow (n : Nat) (s : State) : State :=
  startRun none (blocksBegin n { s with clock := { s.clock with
    mode := .free, interval := n, origin := s.now, absorbOpen := true, due := s.now, armed := none } })

/-- SET_INTERVAL with the form AT_PULSE (R162). -/
def armClock (n : Nat) (s : State) : State :=
  let s := engineBegin { s with clock := { s.clock with mode := .armed, absorbOpen := false, armed := some n } }
  { s with disp := { s.disp with openTally := none, closedTally := none } }

/-- The first pulse while ARMED begins the armed interval (R162). The engine's verification follows by RUN_START, since the
clock has left ARMED (R32; log entry 37). -/
def beginAtPulse (s : State) : State :=
  let n := s.clock.armed.getD s.clock.interval
  blocksBegin n { s with clock := { s.clock with
    mode := .locked, interval := n, origin := s.now, absorbOpen := false, armed := none } }

/-- A pulse that is ignored while the clock runs (R168). -/
def ignorePulse (s : State) : State :=
  raise .pulseUnstable { s with clock := { s.clock with earlyCount := incTo 65535 s.clock.earlyCount } }

/-- A pulse that takes the boundary at phase `phase` (R164, R166). -/
def pulseBoundary (phase : Nat) (s : State) : State :=
  boundary .locked s.now false { s with clock := { s.clock with lastOffset := some ((phase : Int) - 300000) } }

/-- A pulse that is absorbed (R167). -/
def absorbPulse (s : State) : State :=
  { s with clock := { s.clock with
      mode := .locked, origin := s.now, absorbOpen := false, lastOffset := some ((s.now : Int) - s.clock.due) } }

/-- A pulse in FREE or HOLDOVER at phase `phase` (R166 to R168). -/
def pulseUnlocked (phase : Nat) (s : State) : State :=
  if s.clock.absorbOpen ∧ phase ≤ 2000 then absorbPulse s
  else if 298000 ≤ phase ∧ phase ≤ 300000 then pulseBoundary phase s
  else ignorePulse s

/-- A pulse, by the clock's state and the phase (R162, R164, R166 to R168). -/
def takePulse (s : State) : State :=
  let phase := s.now - s.clock.origin
  match s.clock.mode with
  | .unset => s
  | .armed => beginAtPulse s
  | .locked => if 298000 ≤ phase ∧ phase ≤ 302000 then pulseBoundary phase s else ignorePulse s
  | .free => pulseUnlocked phase s
  | .holdover => pulseUnlocked phase s

/-- The own timer takes the boundary at its expiry moment `e`: timer_count advances, and the boundary was due 300,000 ms
after the previous origin (R165 to R167; log entry 24). -/
def timerBoundary (mode : ClockMode) (e : Nat) (s : State) : State :=
  boundary mode e true { s with clock := { s.clock with
    timerCount := incTo 65535 s.clock.timerCount, due := s.clock.origin + 300000 } }

/-- The own timer expires (R165, R166). -/
def takeExpiry (s : State) : State :=
  match s.clock.expiry with
  | none => s
  | some e =>
    if s.now < e then s
    else
      match s.clock.mode with
      | .locked => timerBoundary .holdover e (raise .holdover s)
      | m => timerBoundary m e s

end Sys2Proof.Machine
end

