-- ==== Sys2Proof/Machine/ClockCommands.lean ====
section
/-! DEFINITION. The commands and events of the interval clock: SET_INTERVAL, READ_CLOCK, PULSE, OWN_TIMER_EXPIRY and
ABSORB_WINDOW_CLOSE (chapter 8). -/

namespace Sys2Proof.Machine

/-- The book holds a record (R160). -/
def bookHolds (s : State) : Bool := (List.finRange 128).any fun i => s.book[i].record.isSome

/-- SET_INTERVAL, taken (R160 to R162). -/
def setIntervalAct (n form : Nat) (s : State) : State :=
  match nowFormOf form with
  | none => reply .badValue s
  | some now =>
    if 4000000000 < n then reply .badValue s
    else if bookHolds s then reply .wrongState s
    else if now then reply .done (beginNow n s)
    else reply .done (armClock n s)

/-- SET_INTERVAL (R160). -/
def execSetInterval (n form : Nat) (s : State) : Result := .next (station (setIntervalAct n form) s)

/-- What READ_CLOCK carries (R170). -/
def clockView (s : State) : ClockView where
  mode := s.clock.mode
  interval := s.clock.interval
  armed := s.clock.armed
  elapsed := if s.clock.running then some (s.now - s.clock.origin) else none
  remaining := s.clock.expiry.map fun e => e - s.now
  absorbOpen := s.clock.absorbOpen
  earlyCount := s.clock.earlyCount
  timerCount := s.clock.timerCount
  lastOffset := s.clock.lastOffset

/-- READ_CLOCK, taken (R170). -/
def readClockAct (s : State) : State := answer .done (.clock (clockView s)) s

/-- READ_CLOCK (R170). -/
def execReadClock (s : State) : Result := .next (station readClockAct s)

/-- PULSE: a rising edge on IPULSE (R162, R164, R166 to R168). -/
def execPulse (s : State) : Result := .next (takePulse s)

/-- OWN_TIMER_EXPIRY (R165, R166). -/
def execOwnTimerExpiry (s : State) : Result := .next (takeExpiry s)

/-- ABSORB_WINDOW_CLOSE: the window closes 2,000 ms after the origin that opened it (R167). -/
def execAbsorbWindowClose (s : State) : Result :=
  .next (if s.clock.absorbOpen ∧ s.clock.origin + 2000 ≤ s.now then
      { s with clock := { s.clock with absorbOpen := false } }
    else s)

end Sys2Proof.Machine
end

