-- ==== Sys2Proof/Machine/DispatchCommands.lean ====
section
/-! DEFINITION. The commands and events of the dispatch unit and the site values: SET_SITE, READ_DISPATCH and the two
site trip events (chapters 6 and 10). -/

namespace Sys2Proof.Machine

/-- The site values with the given ones in place (R195). -/
def SiteCfg.updated (c : SiteCfg) (p : SiteParams) : SiteCfg :=
  { importLimit := p.importLimit.getD c.importLimit
    exportLimit := p.exportLimit.getD c.exportLimit
    changeoverGap := p.changeoverGap.getD c.changeoverGap
    minNotice := p.minNotice.getD c.minNotice
    pollPeriod := p.pollPeriod.getD c.pollPeriod
    holdLimit := p.holdLimit.getD c.holdLimit
    tol := p.tol.getD c.tol
    errorThreshold := p.errorThreshold.getD c.errorThreshold }

/-- The given values lie in their ranges (R195). -/
def siteInRange (p : SiteParams) : Bool :=
  within 0 800000 p.importLimit && within 0 800000 p.exportLimit && within 0 3 p.changeoverGap
    && within 0 12 p.minNotice && within 200 2000 p.pollPeriod && within 1 24 p.holdLimit && within 1 500 p.tol
    && within 1 255 p.errorThreshold

/-- One of the three values that runs and the dispatch unit read differs (R196). -/
def SiteCfg.gridDiffers (a b : SiteCfg) : Bool :=
  decide (a.importLimit ≠ b.importLimit) || decide (a.exportLimit ≠ b.exportLimit)
    || decide (a.changeoverGap ≠ b.changeoverGap)

/-- SET_SITE, its values examined (R195, R196). -/
def setSiteAct (p : SiteParams) (s : State) : State :=
  if siteInRange p then
    let new := s.cfg.site.updated p
    let changed := new.gridDiffers s.cfg.site
    reply .done (recomputeIf changed (setVerifyIf changed { s with cfg := { s.cfg with site := new } }))
  else reply .badValue s

/-- SET_SITE (R195). -/
def execSetSite (p : SiteParams) (s : State) : Result := .next (station (settingsWrite (setSiteAct p)) s)

/-- READ_DISPATCH, taken (R140). -/
def readDispatchAct (s : State) : State := answer .done (.dispatch s.disp) s

/-- READ_DISPATCH (R140). -/
def execReadDispatch (s : State) : Result := .next (station readDispatchAct s)

/-- SITE_TRIP_ASSERT: the TRIP input becomes asserted; an input that is asserted already gives no event (R126). -/
def execSiteTripAssert (s : State) : Result :=
  .next (if s.pins.trip then s else tripAsserted { s with pins := { trip := true } })

/-- SITE_TRIP_RELEASE: the TRIP input becomes released (R126). -/
def execSiteTripRelease (s : State) : Result :=
  .next (if s.pins.trip then tripReleased { s with pins := { trip := false } } else s)

end Sys2Proof.Machine
end

