-- ==== Sys2Proof/Machine/EngineCommands.lean ====
section
/-! DEFINITION. The commands and events of the projection engine: VERIFY, READ_PROJECTION, RUN_START, the two run
completions and PIN_TIMEOUT (chapter 2). -/

namespace Sys2Proof.Machine

/-- VERIFY, taken (R30). -/
def verifyAct (s : State) : State := if s.clock.running then reply .queued (setVerify s) else reply .clockUnset s

/-- VERIFY (R30). -/
def execVerify (s : State) : Result := .next (station verifyAct s)

/-- The header of a projection page (R59). -/
def projHeader (s : State) (page : Nat) : ProjHeader where
  runCount := s.engine.snap.runCount
  page := page
  superseded := s.engine.snap.superseded
  running := s.engine.run.map fun r => (r.kind, r.subject)
  flag := s.engine.flag
  items := s.queue

/-- A page of the pinned copy is answered (R58, R59). -/
def servePage (page : Nat) (s : State) : State :=
  let table := s.engine.snap.table
  let slot0 := table.bind fun t => t.head?.map ProjSlot.interval
  answer .done (.projection (projHeader s page) slot0 (((table.getD []).drop (16 * page)).take 16)) s

/-- The pin as a served page leaves it: released by page 17, its timer started again by any other (R60). -/
def pinAfter (page now : Nat) : Option Nat := if page = 17 then none else some now

/-- The live table is copied into the snapshot buffer and pinned (R58). -/
def pinLive (s : State) : State :=
  { s with engine := { s.engine with snap := ⟨s.engine.live, s.engine.runCount, false, some s.now⟩ } }

/-- READ_PROJECTION, taken (R58 to R60). -/
def readProjectionAct (page : Nat) (s : State) : State :=
  if 17 < page then reply .badValue s
  else if page = 0 then servePage 0 (pinLive s)
  else if s.engine.snap.pin.isSome then
    let s := servePage page s
    { s with engine := { s.engine with snap := { s.engine.snap with pin := pinAfter page s.now } } }
  else reply .noSnapshot s

/-- READ_PROJECTION (R58). -/
def execReadProjection (page : Nat) (s : State) : Result := .next (station (readProjectionAct page) s)

/-- The engine considers its next run: the head item first, then a pending verification (R32). -/
def considerRun (s : State) : State :=
  if s.engine.run.isSome || !s.clock.running then s
  else
    match s.queue with
    | it :: rest => startRun (some it) { s with queue := rest }
    | [] => if s.engine.flag then startRun none s else s

/-- RUN_START (R32). -/
def execRunStart (s : State) : Result := .next (considerRun s)

/-- A verification run completes (R46). -/
def completeVerification (run : Run) (s : State) : State :=
  let table := runTable run.copy
  recompute (writeMarks run.copy table (goLive run table s))

/-- VERIFICATION_RUN_COMPLETE (R46). -/
def execVerificationRunComplete (s : State) : Result :=
  .next (match s.engine.run with
    | some run => if run.kind = .verification then completeVerification run s else s
    | none => s)

/-- The book's LATE recheck of a run's candidate: the failing interval where it refuses (R10, R15, R47). -/
def candidateLate (kind : RunKind) (r : Record) (s : State) : Option Nat :=
  let c := s.clock.interval
  let notice := s.cfg.site.minNotice
  match kind with
  | .amend => r.pendingAmend.bind fun a => amendmentLate r a c notice
  | _ => bookingLate r c notice

/-- The candidate's record after a refusal (R10, R15). -/
def candidateRefused (kind : RunKind) (note : RefusalNote) (r : Record) : Record :=
  match kind with
  | .amend => r.amendRefused note
  | _ => r.refused note

/-- The candidate's record after its admission (R10, R15, R16). -/
def candidateAdmitted (kind : RunKind) (c : Nat) (r : Record) : Record :=
  match kind with
  | .amend =>
    match r.pendingAmend with
    | some a => r.amended a c
    | none => r
  | _ => r.admitted

/-- The candidate is refused, and ADMISSION_DONE is raised; the engine's state but for the run stays (R10, R15, R47,
R49). -/
def refuseCandidate (run : Run) (key : Nat) (note : RefusalNote) (r : Record) (s : State) : State :=
  raise .admissionDone (setRecord key (candidateRefused run.kind note r) (dropRun s))

/-- The candidate is admitted: its table becomes live, the record moves, the marks are written and ADMISSION_DONE is
raised (R48). -/
def admitCandidate (run : Run) (key : Nat) (table : List ProjSlot) (r : Record) (s : State) : State :=
  let s := setRecord key (candidateAdmitted run.kind s.clock.interval r) (goLive run table s)
  recompute (raise .admissionDone (writeMarks run.copy table s))

/-- An admission run whose subject is present completes (R47 to R49). -/
def judgeCandidate (run : Run) (key : Nat) (r : Record) (s : State) : State :=
  match candidateLate run.kind r s with
  | some n => refuseCandidate run key ⟨.late, n, none⟩ r s
  | none =>
    let table := runTable run.copy
    match blockingSlot table s.engine.live with
    | some sl => refuseCandidate run key sl.refusal r s
    | none => admitCandidate run key table r s

/-- An admission run completes; one that has lost its subject is discarded whole (R47, R51). -/
def completeAdmission (run : Run) (s : State) : State :=
  match run.subject with
  | none => dropRun s
  | some key =>
    match s.lookup key with
    | none => dropRun s
    | some r => judgeCandidate run key r s

/-- ADMISSION_RUN_COMPLETE (R47). -/
def execAdmissionRunComplete (s : State) : Result :=
  .next (match s.engine.run with
    | some run => if run.kind = .verification then s else completeAdmission run s
    | none => s)

/-- PIN_TIMEOUT: 10 s without a page served release the pin (R60). -/
def execPinTimeout (s : State) : Result :=
  .next (match s.engine.snap.pin with
    | some t =>
      if t + 10000 ≤ s.now then
        { s with engine := { s.engine with snap := { s.engine.snap with pin := none } } }
      else s
    | none => s)

end Sys2Proof.Machine
end

