-- ==== Sys2Proof/Machine/Format.lean ====
section
/-! DEFINITION. Everything the part sends byte by byte: the codes of enumerated values (R202), the bodies of responses
(R202, R203, R205), and the frames of the unit link with their check (R171, R204). -/

namespace Sys2Proof.Machine

/-! ### Codes: the position of a value in the list that defines it (R202) -/

/-- A flag or a set-or-clear field (R203). -/
def boolCode (b : Bool) : Nat := if b then 1 else 0

/-- A class (R205). -/
def TradeClass.code : TradeClass → Nat
  | .tentative => 0
  | .firm => 1

/-- A direction (R202). -/
def Direction.code : Direction → Nat
  | .charge => 0
  | .discharge => 1

/-- A commitment state (R202). -/
def RecordState.code : RecordState → Nat
  | .proposed => 0
  | .refused => 1
  | .tentative => 2
  | .firm => 3
  | .active => 4
  | .ending => 5
  | .closed => 6

/-- A reason (R205). -/
def Reason.code : Reason → Nat
  | .grid => 1
  | .capacity => 2
  | .changeover => 3
  | .heatShort => 4
  | .noCavern => 5
  | .tableRange => 6
  | .massLow => 7
  | .massHigh => 8
  | .rate => 9
  | .late => 10

/-- A close outcome (R205). -/
def CloseOutcome.code : CloseOutcome → Nat
  | .honoured => 0
  | .short => 1
  | .curtailed => 2
  | .lapsed => 3

/-- A slot status (R205). -/
def SlotStatus.code : SlotStatus → Nat
  | .ok => 0
  | .fail r => r.code
  | .noStatus => 255

/-- A run kind (R205). -/
def RunKind.code : RunKind → Nat
  | .admitting => 0
  | .amend => 1
  | .verification => 2

/-- An item kind (R205). -/
def ItemKind.code : ItemKind → Nat
  | .admitting => 0
  | .amend => 1

/-- A trust status (R61). -/
def Trust.code : Trust → Nat
  | .good => 0
  | .held => 1
  | .unknown => 2

/-- An inhibit (R61). -/
def Inhibit.code : Inhibit → Nat
  | .noBan => 0
  | .noDischarge => 1
  | .noCharge => 2

/-- A table flag (R61). -/
def TableFlag.code : TableFlag → Nat
  | .inTable => 0
  | .belowTable => 1
  | .aboveTable => 2

/-- A train kind (R96). -/
def TrainKind.code : TrainKind → Nat
  | .compressor => 0
  | .expander => 1

/-- A train state (R96). -/
def TrainState.code : TrainState → Nat
  | .absent => 0
  | .ready => 1
  | .starting => 2
  | .running => 3
  | .stopping => 4
  | .resting => 5
  | .lockedOut => 6
  | .lost => 7
  | .withdrawn => 8

/-- A bind fault (R96). -/
def BindFault.code : BindFault → Nat
  | .identity => 0
  | .kind => 1
  | .noAnswer => 2

/-- A lockout cause (R96). -/
def LockoutCause.code : LockoutCause → Nat
  | .reported => 0
  | .startFail => 1
  | .stopFail => 2

/-- A reported state (R204). -/
def ReportedState.code : ReportedState → Nat
  | .stopped => 0
  | .starting => 1
  | .running => 2
  | .stopping => 3
  | .fault => 4

/-- A position (R141). -/
def Position.code : Position → Nat
  | .a => 0
  | .b => 1
  | .c => 2

/-- A window mode (R141). -/
def WindowMode.code : WindowMode → Nat
  | .alarmOutside => 0
  | .alarmInside => 1

/-- A window state (R141). -/
def WindowState.code : WindowState → Nat
  | .noState => 0
  | .clear => 1
  | .alarm => 2

/-- A clock state (R159). -/
def ClockMode.code : ClockMode → Nat
  | .unset => 0
  | .armed => 1
  | .locked => 2
  | .free => 3
  | .holdover => 4

/-- A link speed on the link and on the port (R204; log entry 15). -/
def Speed.code : Speed → Nat
  | .base => 0
  | .fast => 1

/-- A kind code on the link (R204). -/
def MsgKind.code : MsgKind → Nat
  | .poll => 1
  | .set => 2
  | .start => 3
  | .stop => 4
  | .ident => 5
  | .diagRead => 6
  | .diagWrite => 7
  | .speed => 8
  | .status => 9
  | .announce => 10
  | .reject => 11

/-- A message kind on the station port: its position in R172's table of kinds sent, or in its table of reply kinds
(R202; log entry 15). -/
def MsgKind.portCode (k : MsgKind) : Nat := if k.code ≤ 8 then k.code - 1 else k.code - 9

/-- A result code (R202). -/
def ResultCode.code : ResultCode → Nat
  | .done => 0
  | .queued => 1
  | .full => 2
  | .queueFull => 3
  | .noRecord => 4
  | .wrongState => 5
  | .badValue => 6
  | .horizon => 7
  | .late => 8
  | .clockUnset => 9
  | .busy => 10
  | .owned => 11
  | .timeout => 12
  | .noSnapshot => 13
  | .sequenceError => 14
  | .unknownCommand => 15

/-- A save outcome (R201). -/
def SaveOutcome.code : SaveOutcome → Nat
  | .noSave => 0
  | .completed => 1
  | .abandoned => 2

/-- A settings source (R199). -/
def SettingsSource.code : SettingsSource → Nat
  | .image => 0
  | .defaults => 1

/-! ### Fields (R202, R203) -/

/-- `n` bytes of 0. -/
def zeros (n : Nat) : List Byte := List.replicate n 0#8

/-- An optional field of `size` bytes: its presence byte, then its bytes, 0 where it is absent (R202). -/
def optField {α : Type} (size : Nat) (put : α → List Byte) : Option α → List Byte
  | none => beBytes 1 0 ++ zeros size
  | some a => beBytes 1 1 ++ put a

/-- A flag (R203). -/
def flagByte (b : Bool) : List Byte := beBytes 1 (boolCode b)

/-- A name: twelve bytes, 0 after its last character (R203). -/
def nameBytes (name : List Nat) : List Byte := (name ++ List.replicate (12 - name.length) 0).flatMap (beBytes 1)

/-- Three disagree flags, a byte each (log entry 16). -/
def Disagree.bytes (d : Disagree) : List Byte := flagByte d.a ++ flagByte d.b ++ flagByte d.c

/-- A role: its alternative and two parameters, 0 where unused (R203). -/
def Role.bytes : Role → List Byte
  | .cavernPressure c p => beBytes 1 0 ++ beBytes 1 (c + 1) ++ beBytes 1 p.code
  | .storeTemp v n => beBytes 1 1 ++ beBytes 1 (v + 1) ++ beBytes 1 (n + 1)
  | .headerPressure => beBytes 1 2 ++ zeros 2
  | .spare => beBytes 1 3 ++ zeros 2

/-! ### The commitment record and the projection page (R205) -/

/-- The cavern number of a refusal, 0 where the reason is not a cavern's (R205). -/
def RefusalNote.bytes (n : RefusalNote) : List Byte :=
  beBytes 1 n.reason.code ++ beBytes 4 n.interval ++ beBytes 1 (n.cavern.getD 0)

/-- The last amendment result: ADMITTED is reason code 0 (R205). -/
def AmendResult.bytes : AmendResult → List Byte
  | .admitted => zeros 6
  | .refused n => n.bytes

/-- The 73-byte body of READ_COMMITMENT (R205). -/
def Record.bytes (key : Nat) (r : Record) : List Byte :=
  beBytes 2 key ++ beBytes 4 r.tradeRef ++ beBytes 1 r.cls.code ++ beBytes 1 r.dir.code ++ beBytes 4 r.start
    ++ beBytes 1 r.length ++ beBytes 4 r.power
    ++ optField 8 (fun c : PowerChange => beBytes 4 c.power ++ beBytes 4 c.since) r.change
    ++ beBytes 1 r.tolerance ++ optField 4 (beBytes 4) r.holdExpiry ++ beBytes 1 r.state.code
    ++ optField 6 RefusalNote.bytes r.refusal
    ++ optField 9 (fun a : Amendment => beBytes 4 a.power ++ beBytes 1 a.length ++ beBytes 4 a.start) r.pendingAmend
    ++ optField 6 AmendResult.bytes r.lastAmend ++ optField 4 (beBytes 4) r.atRisk
    ++ optField 8 (fun q : Sums => beBytes 4 q.due ++ beBytes 4 q.delivered) r.sums
    ++ optField 1 (fun o : CloseOutcome => beBytes 1 o.code) r.outcome

/-- A cavern's end mass and end pressure in a slot (R205). -/
def CavernEnd.bytes (c : CavernEnd) : List Byte := beBytes 4 c.mass ++ beBytes 2 c.pressure

/-- A slot of a projection page, 51 bytes (R205). -/
def ProjSlot.bytes (sl : ProjSlot) : List Byte :=
  beBytes 4 sl.interval ++ beInt 4 sl.net ++ beBytes 4 sl.chargeCap ++ beBytes 4 sl.dischargeCap
    ++ optField 6 CavernEnd.bytes sl.caverns[0] ++ optField 6 CavernEnd.bytes sl.caverns[1]
    ++ optField 6 CavernEnd.bytes sl.caverns[2] ++ optField 6 CavernEnd.bytes sl.caverns[3]
    ++ beBytes 4 sl.heat ++ flagByte sl.dump ++ beBytes 1 sl.status.code ++ beBytes 1 sl.failCavern

/-- A slot of an invalid copy: status 255 and every other field 0 (R205). -/
def invalidSlotBytes : List Byte := zeros 49 ++ beBytes 1 255 ++ zeros 1

/-- An admission item (R205). -/
def Item.bytes (it : Item) : List Byte := beBytes 2 it.key ++ beBytes 1 it.kind.code

/-- The 42-byte header of a projection page, with the interval of the copy's slot 0 where the copy is valid (R205). -/
def ProjHeader.bytes (h : ProjHeader) (slot0 : Option Nat) : List Byte :=
  flagByte slot0.isSome ++ beBytes 4 h.runCount ++ beBytes 4 (slot0.getD 0) ++ beBytes 1 h.page
    ++ flagByte h.superseded ++ flagByte h.running.isSome
    ++ beBytes 1 ((h.running.map fun q => q.1.code).getD 0)
    ++ optField 2 (beBytes 2) (h.running.bind Prod.snd) ++ flagByte h.flag
    ++ putList Item.bytes 8 3 h.items

/-- The 16 slots of a page; of an invalid copy, 16 empty ones (R205). -/
def slotsBytes (slot0 : Option Nat) (slots : List ProjSlot) : List Byte :=
  if slot0.isSome then slots.flatMap ProjSlot.bytes else (List.replicate 16 invalidSlotBytes).flatten

/-! ### The other bodies, in the order of their rules (R202, R203; log entry 16) -/

/-- An entry of a LIST_COMMITMENTS page (R26). Its layout and its alternatives' codes are the model's choice: 0 for an occupied
slot with its key in two bytes and its state, 1 for a free slot with its next generation in two bytes and a byte of 0
(DESIGN CHOICE, log entries 15 and 16). -/
def ListEntry.bytes : ListEntry → List Byte
  | .occupied k st => beBytes 1 0 ++ beBytes 2 k ++ beBytes 1 st.code
  | .vacant g => beBytes 1 1 ++ beBytes 2 g ++ zeros 1

/-- READ_CAVERN: every field of R61 (R68). -/
def cavernBytes (number : Nat) (c : CavernCfg) (w : CavernWork) (tr : Vector (Option Nat) 3) : List Byte :=
  beBytes 1 number ++ flagByte c.inService ++ beBytes 1 c.weight ++ beBytes 4 c.table.m0 ++ beBytes 4 c.table.step
    ++ c.table.p.toList.flatMap (beBytes 2) ++ beBytes 2 c.pMin ++ beBytes 2 c.pMax ++ beBytes 2 c.rateLimit
    ++ beBytes 4 c.driftLimit ++ tr.toList.flatMap (optField 1 (beBytes 1))
    ++ optField 2 (beBytes 2) w.votedP ++ beBytes 1 w.status.code ++ beBytes 2 w.holdAge
    ++ optField 4 (beBytes 4) w.measured ++ beBytes 4 w.startMass ++ optField 5 (beInt 5) w.drift
    ++ beBytes 1 w.inhibit.code ++ w.disagree.bytes ++ beBytes 1 w.tableFlag.code

/-- READ_STORE: every field of R82 (R95). -/
def storeBytes (c : StoreCfg) (w : StoreWork) (sensors : Vector (Option Nat) 8) : List Byte :=
  beBytes 4 c.capacity ++ beBytes 4 c.heatFloor ++ beBytes 2 c.capturePermille ++ beBytes 2 c.drawPermille
    ++ beBytes 2 c.lossPpm ++ beBytes 2 c.yieldG ++ beBytes 2 c.useG ++ beInt 2 c.tMaxCharge ++ beInt 2 c.tMinDischarge
    ++ (c.temps.toList.zip c.contents.toList).flatMap (fun q => beInt 2 q.1 ++ beBytes 4 q.2)
    ++ sensors.toList.flatMap (optField 1 (beBytes 1)) ++ optField 2 (beInt 2) w.meanT ++ beBytes 1 w.validCount
    ++ optField 4 (beBytes 4) w.content ++ beBytes 4 w.startContent ++ beBytes 1 w.status.code ++ beBytes 2 w.holdAge
    ++ beBytes 1 w.inhibit.code

/-- A last report (R96). -/
def Report.bytes (r : Report) : List Byte := beBytes 1 r.state.code ++ beBytes 4 r.kw ++ beBytes 2 r.fault

/-- READ_TRAIN: every field of R96 and the three derived values (R118). -/
def trainBytes (number : Nat) (c : TrainCfg) (w : TrainWork) (address countsFrom secondsLeft : Option Nat) : List Byte :=
  beBytes 1 number ++ flagByte c.configured ++ beBytes 1 c.kind.code ++ beBytes 1 c.index ++ nameBytes c.name
    ++ flagByte c.holdRating ++ beBytes 4 c.ratedKw ++ beBytes 4 c.minStableKw ++ beBytes 1 c.priority
    ++ beBytes 1 c.startLead ++ beBytes 1 c.minRun ++ beBytes 1 c.minRest ++ beBytes 2 c.startTimeout
    ++ beBytes 2 c.stopTimeout ++ putList Window.bytes 4 8 w.outages ++ beBytes 1 w.state.code
    ++ optField 1 (fun f : BindFault => beBytes 1 f.code) w.bindFault
    ++ optField 1 (fun f : LockoutCause => beBytes 1 f.code) w.lockout ++ beBytes 1 w.runCount ++ beBytes 1 w.restCount
    ++ optField 7 Report.bytes w.report ++ optField 1 (beBytes 1) address ++ optField 4 (beBytes 4) countsFrom
    ++ optField 2 (beBytes 2) secondsLeft

/-- A setpoint (R119). -/
def Setpoint.bytes (p : Setpoint) : List Byte := beBytes 4 p.held ++ optField 4 (beBytes 4) p.issued

/-- A member of a tally (R140). -/
def Member.bytes (m : Member) : List Byte := beBytes 2 m.key ++ beBytes 1 m.dir.code ++ beBytes 4 m.power

/-- The open tally (R140). -/
def OpenTally.bytes (t : OpenTally) : List Byte :=
  beBytes 4 t.interval ++ putList Member.bytes 128 7 t.members ++ beBytes 5 t.accCompressor ++ beBytes 5 t.accExpander

/-- A member of the closed tally with its energies, each from 0 to 4,294,967,295 Wh (R138, R203). -/
def Credit.bytes (c : Credit) : List Byte := c.member.bytes ++ beBytes 4 c.due ++ beBytes 4 c.delivered

/-- The closed tally (R138): E_phys with its presence; where it is absent, the two energies are the unassigned ones. -/
def ClosedTally.bytes (t : ClosedTally) : List Byte :=
  beBytes 4 t.interval ++ putList Credit.bytes 128 15 t.credits ++ beBytes 4 t.chargePower ++ beBytes 4 t.dischargePower
    ++ beInt 4 ((t.chargePower : Int) - t.dischargePower) ++ beBytes 4 t.compressorWh ++ beBytes 4 t.expanderWh
    ++ optField 4 (beBytes 4) t.ePhys

/-- The size of an open tally's bytes. -/
def openTallySize : Nat := 4 + (1 + 128 * 7) + 5 + 5

/-- The size of a closed tally's bytes. -/
def closedTallySize : Nat := 4 + (1 + 128 * 15) + 4 + 4 + 4 + 4 + 4 + 5

/-- READ_DISPATCH (R140). The trip level is carried as a flag, 1 asserted and 0 released (DESIGN CHOICE, log entry 15). The open
tally, which R140 does not call optional and which need not be there, is carried with a presence byte, as the closed tally is
(DESIGN CHOICE, log entry 16). -/
def dispatchBytes (d : DispatchUnit) : List Byte :=
  beInt 4 d.target ++ beInt 4 d.clamped ++ beInt 4 (d.target - d.clamped) ++ flagByte d.trip ++ flagByte d.expanderHold
    ++ beBytes 1 ((d.changeKind.map TrainKind.code).getD 2) ++ beBytes 1 d.changeCount
    ++ d.setpoints.toList.flatMap (optField 9 Setpoint.bytes) ++ optField openTallySize OpenTally.bytes d.openTally
    ++ optField closedTallySize ClosedTally.bytes d.closedTally

/-- A channel's result: code, valid flag, value and window state (R141). The value of an invalid result is four bytes of 0
without a presence byte of its own: the valid flag stands for it (DESIGN CHOICE, log entry 16). -/
def ChanResult.bytes (r : ChanResult) : List Byte :=
  beBytes 2 r.code ++ flagByte r.value.isSome ++ beInt 4 (r.value.getD 0) ++ beBytes 1 r.window.code

/-- A vote's outcome: 0 and the voted pressure, or 1 (R155). The pressure, 0 to 30,000, takes two bytes, where R203 speaks of
one byte for each parameter of an alternative (DESIGN CHOICE, log entry 16). -/
def VoteOutcome.bytes : VoteOutcome → List Byte
  | .good p => beBytes 1 0 ++ beBytes 2 p
  | .noMajority => beBytes 1 1 ++ zeros 2

/-- The record of a cavern's last vote (R155). -/
def VoteRecord.bytes (v : VoteRecord) : List Byte :=
  v.outcome.bytes ++ putList (fun q : Nat × Position => beBytes 2 q.1 ++ beBytes 1 q.2.code) 3 3 v.counted
    ++ v.flags.bytes ++ beBytes 4 v.pass

/-- READ_CHANNEL (R158). -/
def ChannelView.bytes (v : ChannelView) : List Byte :=
  v.cfg.role.bytes ++ beInt 2 v.cfg.gain ++ beInt 4 v.cfg.offset ++ beBytes 1 v.cfg.averaging
    ++ beInt 4 v.cfg.windowLow ++ beInt 4 v.cfg.windowHigh ++ beBytes 1 v.cfg.windowMode.code
    ++ optField 8 ChanResult.bytes v.result ++ flagByte v.mark ++ optField 8 ChanResult.bytes v.snap.join
    ++ optField 20 VoteRecord.bytes v.vote ++ flagByte v.scanning ++ beBytes 4 v.passCount
    ++ putList (fun c : Fin 24 => beBytes 1 c) 32 1 v.scanList ++ flagByte v.snapPending
    ++ optField 9 (fun q : Nat × Option Nat => beBytes 4 q.1 ++ optField 4 (beBytes 4) q.2) v.snapStamp

/-- READ_CLOCK (R170). The armed number is always sent, as a presence byte and four bytes, absent where the clock is not ARMED
(DESIGN CHOICE, log entry 16). -/
def ClockView.bytes (v : ClockView) : List Byte :=
  beBytes 1 v.mode.code ++ beBytes 4 v.interval ++ optField 4 (beBytes 4) v.armed ++ optField 4 (beBytes 4) v.elapsed
    ++ optField 4 (beBytes 4) v.remaining ++ flagByte v.absorbOpen ++ beBytes 2 v.earlyCount ++ beBytes 2 v.timerCount
    ++ optField 2 (beInt 2) v.lastOffset

/-- The message kind of a dispatch command (R172). -/
def CmdKind.msg : CmdKind → MsgKind
  | .start => .start
  | .stop => .stop
  | .set _ => .set

/-- The power of a dispatch command, 0 for START and STOP. -/
def CmdKind.kw : CmdKind → Nat
  | .set p => p
  | _ => 0

/-- A dispatch command (R183). -/
def Cmd.bytes (c : Cmd) : List Byte := beBytes 1 (c.entry + 1) ++ beBytes 1 c.kind.msg.portCode ++ beBytes 4 c.kind.kw

/-- A forwarded message (R183, R187). -/
def Fwd.bytes (f : Fwd) : List Byte :=
  beBytes 1 (f.entry + 1) ++ beBytes 1 f.kind.portCode ++ putList (fun b => [b]) 16 1 f.payload ++ flagByte f.quiet

/-- The origin of a transaction: dispatch command, pass-through, IDENT, poll (R173). A SPEED broadcast, for which R173 gives no
origin, carries 4 (DESIGN CHOICE, log entry 15). -/
def Origin.code : Origin → Nat
  | .command _ _ => 0
  | .passThrough _ => 1
  | .ident => 2
  | .poll => 3
  | .broadcast _ => 4

/-- The attempt of a dispatch command: 0 for the first, 1 for a reissue (R173). A transaction that is no dispatch command has
none and carries 0 (DESIGN CHOICE, log entry 15). -/
def Origin.attempt : Origin → Nat
  | .command _ r => boolCode r
  | _ => 0

/-- The transaction in flight (R183). -/
def Txn.bytes (t : Txn) : List Byte :=
  beBytes 1 t.frame.kind.portCode ++ beBytes 1 t.frame.address ++ beBytes 1 t.origin.code ++ beBytes 1 t.origin.attempt

/-- A poll mark (R179). -/
def PollMark.bytes (p : PollMark) : List Byte := flagByte p.due ++ optField 8 (beBytes 8) p.next

/-- An entry's part of READ_LINK (R183). -/
def linkEntryBytes (address : Option Nat) (c : Counters) (p : Option PollMark) : List Byte :=
  optField 1 (beBytes 1) address ++ beBytes 2 c.crc ++ beBytes 2 c.seq ++ beBytes 2 c.missed ++ beBytes 2 c.reject
    ++ beBytes 1 c.consecutive ++ optField 10 PollMark.bytes p

/-- An alias table entry (R186). -/
def AliasEntry.bytes (a : AliasEntry) : List Byte := beBytes 1 a.address ++ beBytes 1 (a.entry + 1) ++ flagByte a.quiet

/-- READ_LINK (R183). -/
def linkBytes (l : Link) (addresses : Vector (Option Nat) 8) (aliases : Vector (Option AliasEntry) 8) : List Byte :=
  beBytes 1 l.speed.code ++ optField 1 (fun v : Speed => beBytes 1 v.code) l.speedPending ++ beBytes 1 l.tag
    ++ optField 4 Txn.bytes l.slot ++ optField 6 Cmd.bytes l.reissue ++ putList Cmd.bytes 24 6 l.cmds
    ++ putList Fwd.bytes 2 20 l.pass ++ putList (fun i : Fin 8 => beBytes 1 (i + 1)) 8 1 l.idents
    ++ (List.finRange 8).flatMap (fun i => linkEntryBytes addresses[i] l.counters[i] l.polls[i])
    ++ beBytes 1 l.lastPolled ++ beBytes 2 l.stallCount ++ beBytes 2 l.unsolicited
    ++ aliases.toList.flatMap (optField 3 AliasEntry.bytes)

/-- A notice set or mask in three bytes (R203). -/
def noticeBytes (n : NoticeSet) : List Byte := beBytes 3 n.toNat

/-- INDABEL 7220 in the character codes of R204. -/
def partName : List Nat := [9, 14, 4, 1, 2, 5, 12, 37, 34, 29, 29, 27]

/-- IDENTIFY (R201). -/
def identityBytes (source : SettingsSource) (saving : Bool) (last : SaveOutcome) : List Byte :=
  nameBytes partName ++ beBytes 1 3 ++ beBytes 1 source.code ++ flagByte saving ++ beBytes 1 last.code

/-- The bytes of a response's body. -/
def Body.bytes : Body → List Byte
  | .empty => []
  | .key k => beBytes 2 k
  | .commitment k r => r.bytes k
  | .listing entries held => entries.flatMap ListEntry.bytes ++ beBytes 1 held
  | .projection h slot0 slots => h.bytes slot0 ++ slotsBytes slot0 slots
  | .cavern n c w t => cavernBytes n c w t
  | .store c w sensors => storeBytes c w sensors
  | .train n c w a f t => trainBytes n c w a f t
  | .dispatch d => dispatchBytes d
  | .channel v => v.bytes
  | .clock v => v.bytes
  | .link l addresses aliases => linkBytes l addresses aliases
  | .notices flags mask => noticeBytes flags ++ noticeBytes mask
  | .identity source saving last => identityBytes source saving last
  | .reply k payload => beBytes 1 k.portCode ++ putList (fun b => [b]) 16 1 payload

/-- The bytes of a fetch of a response, from the port's state byte on (R202). -/
def Response.bytes (state : Nat) (r : Response) : List Byte :=
  beBytes 1 state ++ beBytes 1 r.result.code ++ beBytes 2 r.body.bytes.length ++ r.body.bytes

/-! ### Unit link frames (R171, R204) -/

/-- One bit shifted into the check register: generator x^16 + x^12 + x^5 + 1 (R171; log entry 32). -/
def crcBit (c : Crc) (bit : Bool) : Crc :=
  let shifted := c <<< 1
  if (c.getLsbD 15) != bit then shifted ^^^ 0x1021#16 else shifted

/-- One byte shifted in from its most significant bit (R204). -/
def crcByte (c : Crc) (b : Byte) : Crc := [7, 6, 5, 4, 3, 2, 1, 0].foldl (fun c i => crcBit c (b.getLsbD i)) c

/-- The check over bytes, the register started at all ones and not inverted (R171, R204). -/
def crcOf (bs : List Byte) : Crc := bs.foldl crcByte 0xFFFF#16

/-- The bytes of a frame without its check (R204). -/
def Frame.body (f : Frame) : List Byte :=
  beBytes 1 f.address ++ beBytes 1 (f.tag * 64 + f.kind.code) ++ beBytes 1 f.payload.length ++ f.payload

/-- The bytes of a frame on the link (R204). -/
def Frame.bytes (f : Frame) : List Byte := f.body ++ beBytes 2 (crcOf f.body).toNat

/-- A received frame split into its fields, with its kind code; none where its check, its length or its L fails
(R174 step 1). -/
def splitFrame (bs : List Byte) : Option (Nat × Nat × Nat × List Byte) :=
  match bs with
  | a :: tk :: l :: rest =>
    if 16 < l.toNat ∨ rest.length ≠ l.toNat + 2 then none
    else
      let payload := rest.take l.toNat
      if beNat (rest.drop l.toNat) = (crcOf (a :: tk :: l :: payload)).toNat then
        some (a.toNat, tk.toNat / 64, tk.toNat % 64, payload)
      else none
  | _ => none

/-- The twelve six-bit codes of a packed name (R204). -/
def unpackName (bs : List Byte) : List Nat :=
  let n := beNat bs
  (List.range 12).map fun i => n / 64 ^ (11 - i) % 64

/-- The contents of a well-formed STATUS payload (R172, R204). The three-byte power and the two-byte fault code stand most
significant byte first: R202 says so of the station port, and R204 of the check alone (DESIGN CHOICE, log entry 48). -/
def parseStatus (p : List Byte) : Option Report :=
  if 6 ≤ p.length ∧ p.length ≤ 15 then
    let kw := beNat ((p.drop 1).take 3)
    match reportedOf (beNat (p.take 1)) with
    | some st => if kw ≤ 150000 then some ⟨st, kw, beNat ((p.drop 4).take 2)⟩ else none
    | none => none
  else none

/-- The contents of a well-formed ANNOUNCE payload (R172, R204), the two powers most significant byte first (DESIGN CHOICE, log
entry 48). -/
def parseAnnounce (p : List Byte) : Option Announce :=
  if p.length = 16 then
    let b := beNat (p.take 1)
    match trainKindOf (b / 16), reportedOf (b % 16), nameOf (unpackName (p.drop 7)) with
    | some k, some st, some name => some ⟨name, k, beNat ((p.drop 1).take 3), beNat ((p.drop 4).take 3), st⟩
    | _, _, _ => none
  else none

/-- A payload is well formed for its kind; the kinds that only the part sends are judged by length (R174 step 2, R204;
log entry 28). -/
def payloadOk (k : MsgKind) (p : List Byte) : Bool :=
  match k with
  | .poll => decide (p.length = 0)
  | .start => decide (p.length = 0)
  | .stop => decide (p.length = 0)
  | .ident => decide (p.length = 0)
  | .set => decide (p.length = 3)
  | .speed => decide (p.length = 1)
  | .diagRead => decide (p.length ≤ 16)
  | .diagWrite => decide (p.length ≤ 16)
  | .status => (parseStatus p).isSome
  | .announce => (parseAnnounce p).isSome
  | .reject => decide (p.length = 1)

end Sys2Proof.Machine
end

