-- ==== Sys2Proof/Machine/LinkUnit.lean ====
section
/-! DEFINITION. The unit link controller (chapter 9): the arbiter's grant, the judgement of a reply, the end of a
transaction and the link reset. -/

namespace Sys2Proof.Machine

/-! ### Judging a reply (R174) -/

/-- What a good reply carries. -/
inductive ReplyData where
  | status (r : Report)
  | announce (a : Announce)
  deriving DecidableEq, Repr

/-- The outcome of a transaction (R174, R184). A good or rejected one carries the reply's kind and payload. -/
inductive TxnOutcome where
  | good (d : ReplyData) (payload : List Byte)
  | rejected (payload : List Byte)
  | timeout
  | crc
  | sequence
  | abandoned
  deriving DecidableEq, Repr

/-- The reply kind that a sent kind expects (R172). -/
def MsgKind.expected : MsgKind → MsgKind
  | .ident => .announce
  | _ => .status

/-- The judgement of a well-formed reply of a known kind, by its address, tag and kind (R174 steps 3 to 5). -/
def judgeFields (sent : Frame) (address tag : Nat) (kind : MsgKind) (payload : List Byte) : TxnOutcome :=
  if address ≠ sent.address ∨ tag ≠ sent.tag then .sequence
  else if kind = .reject then .rejected payload
  else if kind ≠ sent.kind.expected then .sequence
  else
    match kind with
    | .status =>
      match parseStatus payload with
      | some r => .good (.status r) payload
      | none => .crc
    | .announce =>
      match parseAnnounce payload with
      | some a => .good (.announce a) payload
      | none => .crc
    | _ => .sequence

/-- The judgement of a received reply (R174). -/
def judgeReply (sent : Frame) (bytes : List Byte) : TxnOutcome :=
  match splitFrame bytes with
  | none => .crc
  | some (address, tag, code, payload) =>
    match msgKindOf code with
    | none => .sequence
    | some kind => if payloadOk kind payload then judgeFields sent address tag kind payload else .crc

/-! ### Counting (R181, R182) -/

/-- An entry's error counters after an outcome (R181). -/
def Counters.count (c : Counters) : TxnOutcome → Counters
  | .crc => { c with crc := incTo 65535 c.crc }
  | .sequence => { c with seq := incTo 65535 c.seq }
  | .timeout => { c with missed := incTo 65535 c.missed }
  | .rejected _ => { c with reject := incTo 65535 c.reject }
  | .good _ _ => c
  | .abandoned => c

/-- An entry's consecutive-failure count after an outcome (R182). -/
def consecutiveAfter (bound : Bool) (n : Nat) : TxnOutcome → Nat
  | .good _ _ => 0
  | .rejected _ => n
  | _ => if bound then incTo 255 n else n

/-- An outcome is counted against an entry: LINK_ERRORS as the error sum crosses the threshold (R181), the train
declared lost as the failure count reaches 3 (R182). -/
def countOutcome (i : Fin 8) (o : TxnOutcome) (s : State) : State :=
  let c := s.link.counters[i]
  let n := consecutiveAfter s.trains[i].state.bound c.consecutive o
  let c' := { c.count o with consecutive := n }
  let crossed := decide (c.crc + c.seq ≤ s.cfg.site.errorThreshold)
    && decide (s.cfg.site.errorThreshold < c'.crc + c'.seq)
  let counters := s.link.counters.set i c'
  let s := raiseIf crossed .linkErrors { s with link := { s.link with counters := counters } }
  if c.consecutive < 3 ∧ n = 3 then declareLost i s else s

/-! ### Handing on (R175, R178, R188) -/

/-- A SET is dropped: the dispatch unit's issued value becomes none; a dropped START or STOP changes nothing
(R105, R129, R178). -/
def dropCmd (c : Cmd) (s : State) : State :=
  match c.kind with
  | .set _ =>
    let sp := s.disp.setpoints[c.entry].map fun p => { p with issued := none }
    { s with disp := { s.disp with setpoints := s.disp.setpoints.set c.entry sp } }
  | _ => s

/-- The attempt of a dispatch command fails: the first makes it the reissue, the second drops it (R178). -/
def commandFailed (c : Cmd) (reissued : Bool) (s : State) : State :=
  if reissued then dropCmd c s else { s with link := { s.link with reissue := some c } }

/-- A response owed to the port is formed (R188, R189). -/
def answerOwed (f : Fwd) (r : ResultCode) (b : Body) (s : State) : State :=
  if f.owed ∧ s.port.state = .owed then answer r b s else s

/-- A good reply is handed to the roster and the dispatch unit (R122, R175). -/
def handReply (i : Fin 8) (d : ReplyData) (s : State) : State :=
  match d with
  | .status r =>
    let bound := s.trains[i].state.bound
    let s := takeStatus i r s
    if bound then acceptReply i r.kw s else s
  | .announce a => markReply i (takeAnnounce i a s)

/-- A transaction's outcome is good. -/
def TxnOutcome.isGood : TxnOutcome → Bool
  | .good _ _ => true
  | _ => false

/-- The roster's part of an outcome: a good reply, or the failure of an IDENT (R101, R175). -/
def handRoster (i : Fin 8) (kind : MsgKind) (o : TxnOutcome) (s : State) : State :=
  match o with
  | .good d _ => handReply i d s
  | _ => if kind = .ident then identFailed i s else s

/-- The response to a forwarded message, from its transaction's outcome (R188). -/
def forwardResponse (f : Fwd) (o : TxnOutcome) (s : State) : State :=
  match o with
  | .good (.status _) p => answerOwed f .done (.reply .status p) s
  | .good (.announce _) p => answerOwed f .done (.reply .announce p) s
  | .rejected p => answerOwed f .done (.reply .reject p) s
  | _ => answerOwed f .timeout .empty s

/-- What an outcome does for the transaction's origin (R175, R178, R188). -/
def handOrigin (origin : Origin) (o : TxnOutcome) (s : State) : State :=
  match origin with
  | .command c reissued => if o.isGood then s else commandFailed c reissued s
  | .passThrough f => forwardResponse f o s
  | _ => s

/-- A transaction that concerns an entry ends: the slot is freed, the outcome is counted and handed on, the end of an IDENT
begins the period to the next, an IDENT that waited for the end joins the line, and the dispatch unit recomputes on what
moved (R100, R101, R175; log entries 10, 30). -/
def endTransaction (t : Txn) (i : Fin 8) (o : TxnOutcome) (s : State) : State :=
  let before := s
  let s := countOutcome i o { s with link := { s.link with slot := none } }
  let s := if t.disowned then s else handRoster i t.frame.kind o s
  let s := if t.frame.kind = .ident then identEnded i s else s
  let s := handOrigin t.origin o s
  let s := if t.identAfter then putIdent i s else s
  recomputeIfMoved before s

/-- The transaction in flight that awaits a reply, with its entry (R174). -/
def State.awaiting (s : State) : Option (Txn × Fin 8) :=
  s.link.slot.bind fun t => t.entry.map fun i => (t, i)

/-! ### The grant (R176 to R180, R185, R188) -/

/-- A frame that expects a reply is sent to an entry, once, at the part's present speed: it takes the tag, and the tag counter
advances (R171, R185). -/
def sendTo (i : Fin 8) (kind : MsgKind) (payload : List Byte) (origin : Origin) (s : State) : State :=
  let frame : Frame := ⟨s.cfg.trains[i].busAddress, s.link.tag, kind, payload⟩
  { s with link := { s.link with
      slot := some ⟨frame, [s.link.speed], some i, origin, false, false⟩, tag := (s.link.tag + 1) % 4 } }

/-- A dispatch command may be sent to its entry as it stands (R177). -/
def sendable (c : Cmd) (s : State) : Bool :=
  match c.kind with
  | .stop => s.cfg.trains[c.entry].configured
  | _ =>
    match s.trains[c.entry].state with
    | .ready => true
    | .starting => true
    | .running => true
    | _ => false

/-- The payload of a dispatch command (R172, R204). -/
def CmdKind.payload : CmdKind → List Byte
  | .set p => beBytes 3 p
  | _ => []

/-- A dispatch command at its grant: sent, or handled as dropped (R177, R178). -/
def grantCommand (c : Cmd) (reissued : Bool) (s : State) : State :=
  if sendable c s then sendTo c.entry c.kind.msg c.kind.payload (.command c reissued) s else dropCmd c s

/-- A reissued SET is superseded by a newer SET that waits for its entry (R178). -/
def superseded (c : Cmd) (s : State) : Bool := c.isSetFor c.entry && s.link.cmds.any (Cmd.isSetFor c.entry)

/-- A DIAG_WRITE may go to a train in these states alone (R187, R188). -/
def TrainState.writable : TrainState → Bool
  | .absent => true
  | .withdrawn => true
  | .lockedOut => true
  | _ => false

/-- A forwarded message at its grant (R188). -/
def grantForward (f : Fwd) (s : State) : State :=
  if s.cfg.trains[f.entry].configured = false then answerOwed f .noRecord .empty s
  else if f.kind = .diagWrite ∧ s.trains[f.entry].state.writable = false then answerOwed f .owned .empty s
  else sendTo f.entry f.kind f.payload (.passThrough f) s

/-- An IDENT at its grant (R180). -/
def grantIdent (i : Fin 8) (s : State) : State :=
  if s.cfg.trains[i].configured then sendTo i .ident [] .ident s else s

/-- The entries in the order in which the arbiter looks for a due poll: above last polled, counting round (R179). -/
def pollOrder (last : Nat) : List (Fin 8) :=
  ((List.finRange 8).filter fun i => decide (last < i.val + 1))
    ++ (List.finRange 8).filter fun i => decide (i.val + 1 ≤ last)

/-- A poll is due for an entry (R179). -/
def pollIsDue (s : State) (i : Fin 8) : Bool :=
  match s.link.polls[i] with
  | some m => m.due
  | none => false

/-- A poll at its grant: the mark is cleared, and the next falls due one poll period later (R179). -/
def grantPoll (i : Fin 8) (s : State) : State :=
  let polls := s.link.polls.set i (some ⟨false, some (s.now + s.cfg.site.pollPeriod)⟩)
  sendTo i .poll [] .poll { s with link := { s.link with polls := polls, lastPolled := i.val + 1 } }

/-- A SPEED broadcast at its grant: its frame is sent twice, first at FAST and then at BASE, whatever the present speed; tag 0,
and the tag counter stays (R171, R185). -/
def grantBroadcast (v : Speed) (s : State) : State :=
  let frame : Frame := ⟨255, 0, .speed, beBytes 1 v.code⟩
  { s with link := { s.link with slot := some ⟨frame, [.fast, .base], none, .broadcast v, false, false⟩, speedPending := none } }

/-- One consideration of the classes: the first that has something waiting gives it up, and it is sent or not (R176). A reissued
SET that a newer waiting SET supersedes is discarded, with its issued value kept, before it is asked whether it may be sent;
R178 does not settle which of the two comes first (DESIGN CHOICE, log entry 49). -/
def grantOnce (s : State) : State :=
  match s.link.speedPending, s.link.reissue, s.link.cmds, s.link.pass, s.link.idents with
  | some v, _, _, _, _ => grantBroadcast v s
  | none, some c, _, _, _ =>
    let s' := { s with link := { s.link with reissue := none } }
    if superseded c s then s' else grantCommand c true s'
  | none, none, c :: cs, _, _ => grantCommand c false { s with link := { s.link with cmds := cs } }
  | none, none, [], f :: fs, _ => grantForward f { s with link := { s.link with pass := fs } }
  | none, none, [], [], i :: is => grantIdent i { s with link := { s.link with idents := is } }
  | none, none, [], [], [] =>
    match (pollOrder s.link.lastPolled).find? (pollIsDue s) with
    | some i => grantPoll i s
    | none => s

/-- The arbiter grants again at once while what it took up was not sent (R176, R177). -/
def grantUpTo : Nat → State → State
  | 0, s => s
  | n + 1, s => if s.link.slot.isSome then s else grantUpTo n (grantOnce s)

/-- The arbiter grants the slot where it is empty (R176): every consideration that sends nothing takes up one waiting
thing, and one more finds a due poll. -/
def grantSlot (s : State) : State :=
  grantUpTo (s.link.cmds.length + s.link.pass.length + s.link.idents.length + 3) s

/-! ### The link reset (R184) -/

/-- The transaction in flight is abandoned (R184 step 1). -/
def abandonTransaction (s : State) : State :=
  match s.awaiting with
  | some (t, i) => endTransaction t i .abandoned s
  | none => { s with link := { s.link with slot := none } }

/-- Every waiting pass-through message is abandoned (R184 step 2). -/
def abandonForwards (s : State) : State :=
  s.link.pass.foldl (fun s f => answerOwed f .timeout .empty s) { s with link := { s.link with pass := [] } }

/-- The link reset (R184). -/
def linkReset (s : State) : State :=
  let s := abandonForwards (abandonTransaction s)
  raise .linkStall { s with link := { s.link with
    tag := 0, speed := .base, speedPending := some .base, stallCount := incTo 65535 s.link.stallCount } }

end Sys2Proof.Machine
end

