-- ==== Sys2Proof/Machine/TrainCommands.lean ====
section
/-! DEFINITION. The commands and events of the train roster: SET_TRAIN, SET_OUTAGE, WITHDRAW, RESTORE, RELEASE, REBIND,
READ_TRAIN, the two timer expiries and PERIODIC_IDENT (chapter 5). -/

namespace Sys2Proof.Machine

/-- Act on the roster entry a number names; a number outside 1 to 8 names none. -/
def onEntry (n : Nat) (f : Fin 8 → State → State) (s : State) : State :=
  match entryOf n with
  | some i => f i s
  | none => s

/-! ### SET_TRAIN (R99, R100) -/

/-- An entry's settings with the given fields in place (R99). -/
def TrainCfg.updated (t : TrainCfg) (p : TrainParams) : TrainCfg :=
  { configured := codeOr flagOf p.configured t.configured
    kind := codeOr trainKindOf p.kind t.kind
    index := p.index.getD t.index
    name := (p.name.bind fun v => nameOf v.toList).getD t.name
    holdRating := codeOr flagOf p.holdRating t.holdRating
    ratedKw := p.ratedKw.getD t.ratedKw
    minStableKw := p.minStableKw.getD t.minStableKw
    priority := p.priority.getD t.priority
    startLead := p.startLead.getD t.startLead
    minRun := p.minRun.getD t.minRun
    minRest := p.minRest.getD t.minRest
    startTimeout := p.startTimeout.getD t.startTimeout
    stopTimeout := p.stopTimeout.getD t.stopTimeout }

/-- The given values lie in their ranges (R96, R99). -/
def trainInRange (p : TrainParams) : Bool :=
  isCode flagOf p.configured && isCode trainKindOf p.kind && within 0 7 p.index
    && p.name.all (fun v => (nameOf v.toList).isSome) && isCode flagOf p.holdRating && within 1000 150000 p.ratedKw
    && within 0 150000 p.minStableKw && within 0 15 p.priority && within 0 6 p.startLead && within 1 24 p.minRun
    && within 0 24 p.minRest && within 30 1800 p.startTimeout && within 30 1800 p.stopTimeout

/-- Another configured entry has the kind and index of a configured entry (R98, R99). -/
def addressTaken (i : Fin 8) (t : TrainCfg) (trains : Vector TrainCfg 8) : Bool :=
  t.configured && (List.finRange 8).any fun j =>
    decide (j ≠ i) && trains[j].configured && decide (trains[j].kind = t.kind) && decide (trains[j].index = t.index)

/-- The kind or the index differs. -/
def TrainCfg.placeDiffers (a b : TrainCfg) : Bool := decide (a.kind ≠ b.kind) || decide (a.index ≠ b.index)

/-- The change that R99 step 3 refuses in a configured entry in service. -/
def identityLocked (w : TrainWork) (old new : TrainCfg) : Bool :=
  old.configured && !(decide (w.state = .absent) || decide (w.state = .withdrawn))
    && (decide (new.configured ≠ old.configured) || new.placeDiffers old)

/-- The outcome of a transaction to the entry that is in flight is no longer taken (R100). -/
def disownTxn (i : Fin 8) (s : State) : State :=
  { s with link := { s.link with
      slot := s.link.slot.map fun t => if t.entry = some i then { t with disowned := true } else t } }

/-- The effects of a change of configured, kind, index or name (R100). -/
def rebindEffects (i : Fin 8) (old new : TrainCfg) (s : State) : State :=
  match old.configured, new.configured with
  | false, true => putIdentAfter i (setTrain i { s.trains[i] with state := .absent, bindFault := none } s)
  | true, false =>
    let s := disownTxn i (withdrawIdent i (moveTrain i .absent none s))
    setTrain i { s.trains[i] with outages := [], bindFault := none, report := none } s
  | true, true =>
    let absent := decide (s.trains[i].state = .absent)
    let s := if new.placeDiffers old then disownTxn i s else s
    if absent && new.placeDiffers old then
      putIdentAfter i (withdrawIdent i (setTrain i { s.trains[i] with bindFault := none } s))
    else if absent && decide (new.name ≠ old.name) then putIdentAfter i s
    else s
  | false, false => s

/-- The rated or the least stable power differs. -/
def TrainCfg.ratingDiffers (a b : TrainCfg) : Bool :=
  decide (a.ratedKw ≠ b.ratedKw) || decide (a.minStableKw ≠ b.minStableKw)

/-- The effects of a change of rated_kw, min_stable_kw or start_lead (R100, R125). -/
def ratingEffects (i : Fin 8) (old new : TrainCfg) (s : State) : State :=
  let s := setVerifyIf (decide (new.startLead ≠ old.startLead)) s
  if new.ratingDiffers old then ratingChanged i s else s

/-- A SET_TRAIN that is taken: the new values, their effects, and a recompute on a changed rating or state (R100, R123). -/
def applyTrain (i : Fin 8) (new : TrainCfg) (s : State) : State :=
  let old := s.cfg.trains[i]
  let s' := ratingEffects i old new (rebindEffects i old new (setTrainCfg i new s))
  recomputeIf (new.ratingDiffers old || decide (trainStates s' ≠ trainStates s)) s'

/-- SET_TRAIN, its values examined (R99, R100). -/
def setTrainAct (p : TrainParams) (s : State) : State :=
  match entryOf p.entry with
  | none => reply .badValue s
  | some i =>
    let old := s.cfg.trains[i]
    let new := old.updated p
    if !trainInRange p || decide (new.ratedKw < new.minStableKw) || addressTaken i new s.cfg.trains then reply .badValue s
    else if identityLocked s.trains[i] old new then reply .wrongState s
    else reply .done (applyTrain i new s)

/-- SET_TRAIN (R99). -/
def execSetTrain (p : TrainParams) (s : State) : Result := .next (station (settingsWrite (setTrainAct p)) s)

/-! ### Commands on an entry -/

/-- SET_OUTAGE, taken (R115). R115 states no order of its two refusals; the model judges the entry number and the window list
first and then whether the entry is configured, so that a bad list for an entry that is not configured is BAD_VALUE and not
NO_RECORD (DESIGN CHOICE, log entry 50). The given list and the held one are compared window by window, position by position,
so the same windows in another order differ (DESIGN CHOICE, log entry 42). -/
def setOutageAct (p : OutageParams) (s : State) : State :=
  match entryOf p.entry with
  | none => reply .badValue s
  | some i =>
    if 4 < p.windows.length || p.windows.any (fun w => decide (w.last < w.first)) then reply .badValue s
    else if !s.cfg.trains[i].configured then reply .noRecord s
    else
      let changed := decide (p.windows ≠ s.trains[i].outages)
      reply .done (setVerifyIf changed (setTrain i { s.trains[i] with outages := p.windows } s))

/-- SET_OUTAGE (R115). -/
def execSetOutage (p : OutageParams) (s : State) : Result := .next (station (setOutageAct p) s)

/-- The common checks of RELEASE, WITHDRAW, RESTORE and REBIND: the number, then a configured entry, then its state
(R108, R112 to R114). -/
def entryCommand (n : Nat) (allowed : TrainState → Bool) (act : Fin 8 → State → State) (s : State) : State :=
  match entryOf n with
  | none => reply .badValue s
  | some i =>
    if !s.cfg.trains[i].configured then reply .noRecord s
    else if allowed s.trains[i].state then reply .done (act i s)
    else reply .wrongState s

/-- The states from which an entry may be withdrawn (R112). -/
def TrainState.withdrawable : TrainState → Bool
  | .ready => true
  | .resting => true
  | .lockedOut => true
  | .lost => true
  | .absent => true
  | _ => false

/-- An entry is withdrawn (R112). -/
def withdrawAct (i : Fin 8) (s : State) : State :=
  let s := withdrawIdent i (moveTrain i .withdrawn none s)
  recompute (setTrain i { s.trains[i] with lockout := none, runCount := 0 } s)

/-- WITHDRAW (R112). -/
def execWithdraw (n : Nat) (s : State) : Result :=
  .next (station (entryCommand n TrainState.withdrawable withdrawAct) s)

/-- An entry is restored (R113). -/
def restoreAct (i : Fin 8) (s : State) : State :=
  let s := moveTrain i .absent none s
  recompute (putIdent i (setTrain i { s.trains[i] with bindFault := none } s))

/-- RESTORE (R113). -/
def execRestore (n : Nat) (s : State) : Result :=
  .next (station (entryCommand n (fun st => decide (st = .withdrawn)) restoreAct) s)

/-- An entry is released (R108). -/
def releaseAct (i : Fin 8) (s : State) : State :=
  let s := moveTrain i .ready none s
  recompute (setTrain i { s.trains[i] with lockout := none } s)

/-- RELEASE (R108). -/
def execRelease (n : Nat) (s : State) : Result :=
  .next (station (entryCommand n (fun st => decide (st = .lockedOut)) releaseAct) s)

/-- The states in which REBIND is taken (R114). -/
def TrainState.rebindable : TrainState → Bool
  | .absent => true
  | .ready => true
  | .withdrawn => true
  | _ => false

/-- An entry is bound afresh: a READY one enters ABSENT, and an IDENT is put in line (R114). -/
def rebindAct (i : Fin 8) (s : State) : State :=
  if s.trains[i].state = .ready then recompute (putIdent i (moveTrain i .absent none s)) else putIdent i s

/-- REBIND (R114). -/
def execRebind (n : Nat) (s : State) : Result :=
  .next (station (entryCommand n TrainState.rebindable rebindAct) s)

/-- The first interval from which an entry counts by state, where the current interval is `c` (R118). -/
def countsFrom (cfg : TrainCfg) (w : TrainWork) (c : Nat) : Option Nat :=
  if !cfg.configured then none
  else
    match w.state with
    | .starting => some c
    | .running => some c
    | .ready => some (c + cfg.startLead)
    | .resting => some (c + w.restCount + cfg.startLead)
    | _ => none

/-- Milliseconds as seconds; the rounding of a time that is not at a whole second is free (R118; log entry 7). -/
def secondsOf (free ms : Nat) : Nat := ms / 1000 + if ms % 1000 ≠ 0 ∧ Config.secondsRoundUp free then 1 else 0

/-- READ_TRAIN, taken (R118). While the clock is UNSET or ARMED there is no current interval, and the first interval from which
the entry counts is absent (R159; DEDUCED, log entry 40). -/
def readTrainAct (n : Nat) (s : State) : State :=
  match entryOf n with
  | none => reply .badValue s
  | some i =>
    let cfg := s.cfg.trains[i]
    let w := s.trains[i]
    let left := w.timer.map fun t => secondsOf s.free (t.expiry - s.now)
    answer .done (.train n cfg w cfg.address (s.clock.numbered.bind (countsFrom cfg w)) left) { s with free := s.free + 1 }

/-- READ_TRAIN (R118). -/
def execReadTrain (n : Nat) (s : State) : Result := .next (station (readTrainAct n) s)

/-! ### Events of an entry -/

/-- A start timer runs out (R107). -/
def startTimedOut (i : Fin 8) (s : State) : State :=
  if timerRanOut i .start .starting s then recompute (issue ⟨i, .stop⟩ (lockOut i .startFail s)) else s

/-- START_TIMER_EXPIRY (R107). -/
def execStartTimerExpiry (n : Nat) (s : State) : Result := .next (onEntry n startTimedOut s)

/-- A stop timer runs out (R107). -/
def stopTimedOut (i : Fin 8) (s : State) : State :=
  if timerRanOut i .stop .stopping s then recompute (lockOut i .stopFail s) else s

/-- STOP_TIMER_EXPIRY (R107). -/
def execStopTimerExpiry (n : Nat) (s : State) : Result := .next (onEntry n stopTimedOut s)

/-- The periodic IDENT of a configured ABSENT entry has fallen due (R101). -/
def identIsDue (i : Fin 8) (s : State) : Bool :=
  s.cfg.trains[i].configured && decide (s.trains[i].state = .absent)
    && s.trains[i].identDue.any fun m => decide (m ≤ s.now)

/-- The periodic IDENT of an entry is put in line (R101). -/
def periodicIdentAct (i : Fin 8) (s : State) : State :=
  if identIsDue i s then putIdent i (setTrain i { s.trains[i] with identDue := none } s) else s

/-- PERIODIC_IDENT (R101). -/
def execPeriodicIdent (n : Nat) (s : State) : Result := .next (onEntry n periodicIdentAct s)

end Sys2Proof.Machine
end

