-- ==== Sys2Proof/Machine/LinkCommands.lean ====
section
/-! DEFINITION. The commands and events of the unit link: SET_ALIAS, FORWARD, LINK_SPEED, READ_LINK, GRANT,
REPLY_RECEIVED, REPLY_TIMEOUT, BROADCAST_SENT, UNSOLICITED_FRAME, LINK_RESET and POLL_DUE (chapter 9). -/

namespace Sys2Proof.Machine

/-! ### Aliases and pass-through (R186, R187) -/

/-- Another valid table entry, or a configured roster entry, has the address (R186). -/
def addressKnown (idx : Fin 8) (address : Nat) (s : State) : Bool :=
  ((List.finRange 8).any fun j => decide (j ≠ idx) && s.cfg.aliases[j].any fun a => decide (a.address = address))
    || (List.finRange 8).any fun i => decide (s.cfg.trains[i].address = some address)

/-- The value of an alias, where R186's checks pass. -/
def aliasOf (idx : Fin 8) (v : AliasValue) (s : State) : Option AliasEntry :=
  match entryOf v.entry, flagOf v.quiet with
  | some i, some q => if v.address ≤ 254 ∧ addressKnown idx v.address s = false then some ⟨v.address, i, q⟩ else none
  | _, _ => none

/-- Write an alias table entry. -/
def setAliasEntry (idx : Fin 8) (a : Option AliasEntry) (s : State) : State :=
  { s with cfg := { s.cfg with aliases := s.cfg.aliases.set idx a } }

/-- SET_ALIAS, its values examined (R186). An alternative that is neither of the two is a bad value (log entry 15). -/
def setAliasAct (p : AliasParams) (s : State) : State :=
  match aliasIndexOf p.index with
  | none => reply .badValue s
  | some idx =>
    match p.alternative with
    | 0 => reply .done (setAliasEntry idx none s)
    | 1 =>
      match aliasOf idx p.value s with
      | none => reply .badValue s
      | some a => reply .done (setAliasEntry idx (some a) s)
    | _ => reply .badValue s

/-- SET_ALIAS (R186). -/
def execSetAlias (p : AliasParams) (s : State) : Result := .next (station (settingsWrite (setAliasAct p)) s)

/-- The valid alias with an address (R187). -/
def findAlias (s : State) (address : Nat) : Option AliasEntry :=
  (s.cfg.aliases.toList.filterMap id).find? fun a => decide (a.address = address)

/-- A kind that FORWARD does not carry (R187). -/
def MsgKind.controls : MsgKind → Bool
  | .start => true
  | .stop => true
  | .set => true
  | .speed => true
  | _ => false

/-- A kind that carries no payload in a FORWARD (R187 step 1). -/
def MsgKind.bare : MsgKind → Bool
  | .poll => true
  | .ident => true
  | _ => false

/-- A message joins the pass-through queue: a quiet DIAG_WRITE is answered at once, and any other response is owed
(R187, R189). -/
def queueForward (a : AliasEntry) (kind : MsgKind) (payload : List Byte) (s : State) : State :=
  let owed := !(decide (kind = .diagWrite) && a.quiet)
  let f : Fwd := ⟨a.entry, kind, payload, a.quiet, owed⟩
  let s := { s with link := { s.link with pass := s.link.pass ++ [f] } }
  if owed then { s with port := { s.port with state := .owed } } else reply .done s

/-- FORWARD of a kind the part sends, its alias looked up (R187 steps 2 to 4). -/
def forwardTo (kind : MsgKind) (p : ForwardParams) (s : State) : State :=
  match findAlias s p.address with
  | none => reply .noRecord s
  | some a =>
    if !s.cfg.trains[a.entry].configured then reply .noRecord s
    else if kind.controls || (decide (kind = .diagWrite) && !s.trains[a.entry].state.writable) then reply .owned s
    else if 2 ≤ s.link.pass.length then reply .busy s
    else queueForward a kind p.payload s

/-- FORWARD, taken (R187). -/
def forwardAct (p : ForwardParams) (s : State) : State :=
  match sentKindOf p.kind with
  | none => reply .badValue s
  | some kind =>
    if 16 < p.payload.length || (kind.bare && !p.payload.isEmpty) then reply .badValue s else forwardTo kind p s

/-- FORWARD (R187). -/
def execForward (p : ForwardParams) (s : State) : Result := .next (station (forwardAct p) s)

/-! ### LINK_SPEED and READ_LINK -/

/-- LINK_SPEED, taken (R185). -/
def linkSpeedAct (target : Nat) (s : State) : State :=
  match speedOf target with
  | none => reply .badValue s
  | some v => reply .done { s with link := { s.link with speedPending := some v } }

/-- LINK_SPEED (R185). -/
def execLinkSpeed (target : Nat) (s : State) : Result := .next (station (linkSpeedAct target) s)

/-- The counters that READ_LINK clears (R183). -/
def clearCounters (s : State) : State :=
  let counters := Vector.ofFn fun i : Fin 8 => ({ Counters.zero with consecutive := s.link.counters[i].consecutive } : Counters)
  { s with link := { s.link with counters := counters, stallCount := 0, unsolicited := 0 } }

/-- READ_LINK, taken (R183). -/
def readLinkAct (s : State) : State :=
  let addresses := Vector.ofFn fun i : Fin 8 => s.cfg.trains[i].address
  clearCounters (answer .done (.link s.link addresses s.cfg.aliases) s)

/-- READ_LINK (R183). -/
def execReadLink (s : State) : Result := .next (station readLinkAct s)

/-! ### Events of the link -/

/-- GRANT (R176). -/
def execGrant (s : State) : Result := .next (grantSlot s)

/-- A frame that no transaction waits for is discarded and counted (R175). -/
def countUnsolicited (s : State) : State :=
  { s with link := { s.link with unsolicited := incTo 65535 s.link.unsolicited } }

/-- REPLY_RECEIVED (R174, R175); with no reply awaited it is an unsolicited frame (log entry 26). -/
def execReplyReceived (bytes : List Byte) (s : State) : Result :=
  .next (match s.awaiting with
    | some (t, i) => endTransaction t i (judgeReply t.frame bytes) s
    | none => countUnsolicited s)

/-- REPLY_TIMEOUT (R174, R175). -/
def execReplyTimeout (s : State) : Result :=
  .next (match s.awaiting with
    | some (t, i) => endTransaction t i .timeout s
    | none => s)

/-- BROADCAST_SENT: the part's speed becomes the target (R174, R185). -/
def execBroadcastSent (s : State) : Result :=
  .next (match s.link.slot with
    | some t =>
      match t.origin with
      | .broadcast v => { s with link := { s.link with slot := none, speed := v } }
      | _ => s
    | none => s)

/-- UNSOLICITED_FRAME: a frame that comes while no transaction waits for a reply, with the slot empty or the transaction's own
frame still being sent, is discarded and counted (R174, R175; log entry 26). -/
def execUnsolicitedFrame (s : State) : Result := .next (countUnsolicited s)

/-- LINK_RESET (R184). -/
def execLinkReset (s : State) : Result := .next (linkReset s)

/-- The moment of an entry's next poll comes (R179). While the poll is due and not granted, the mark holds no moment: the next
is set at the grant (DESIGN CHOICE, log entry 39). -/
def pollFallsDue (i : Fin 8) (s : State) : State :=
  match s.link.polls[i] with
  | some m =>
    if m.next.any fun t => decide (t ≤ s.now) then
      { s with link := { s.link with polls := s.link.polls.set i (some ⟨true, none⟩) } }
    else s
  | none => s

/-- POLL_DUE (R179). -/
def execPollDue (n : Nat) (s : State) : Result := .next (onEntry n pollFallsDue s)

end Sys2Proof.Machine
end

