-- ==== Sys2Proof/Machine/PortCommands.lean ====
section
/-! DEFINITION. The commands and events of the station port, the notices, the settings store and the part as a whole:
SAVE_SETTINGS, READ_NOTICES, SET_NOTICE_MASK, RESET_STATION, IDENTIFY, UNKNOWN_COMMAND, FETCH, POWER_ON_RESET and
SAVE_COMPLETE (chapter 10). -/

namespace Sys2Proof.Machine

/-! ### Settings store (R197, R198) -/

/-- SAVE_SETTINGS, taken: the data are those of this moment, and the old image fails its check from the first write on
(R197; log entry 23). -/
def saveSettingsAct (s : State) : State :=
  if s.nv.saving.isSome then reply .busy s
  else reply .queued { s with nv := { s.nv with saving := some s.cfg, image := none } }

/-- SAVE_SETTINGS (R197). -/
def execSaveSettings (s : State) : Result := .next (station saveSettingsAct s)

/-- SAVE_COMPLETE (R197). -/
def execSaveComplete (s : State) : Result :=
  .next (match s.nv.saving with
    | some image =>
      raise .saveDone { s with nv := { s.nv with saving := none, image := some image, lastSave := .completed } }
    | none => s)

/-! ### Notices (R193, R194) -/

/-- READ_NOTICES, taken: the carried flags are the reported set (R193). -/
def readNoticesAct (s : State) : State :=
  answer .done (.notices s.notices.flags s.notices.mask)
    { s with notices := { s.notices with reported := s.notices.flags } }

/-- READ_NOTICES (R193). -/
def execReadNotices (s : State) : Result := .next (station readNoticesAct s)

/-- SET_NOTICE_MASK, taken (R194). -/
def setNoticeMaskAct (mask : Nat) (s : State) : State :=
  if mask < 2 ^ 23 then reply .done { s with notices := { s.notices with mask := BitVec.ofNat 23 mask } }
  else reply .badValue s

/-- SET_NOTICE_MASK (R194). -/
def execSetNoticeMask (mask : Nat) (s : State) : Result := .next (station (setNoticeMaskAct mask) s)

/-! ### Transfers (R189, R190) -/

/-- The result of a request that no command acts on (R190). -/
def refusalResult : RefusedRequest → ResultCode
  | .shortFrame => .badValue
  | .unknownCode _ => .unknownCommand
  | .misfit _ => .badValue

/-- UNKNOWN_COMMAND: a taken request that is refused without any command acting (R190). -/
def execUnknownCommand (r : RefusedRequest) (s : State) : Result := .next (station (reply (refusalResult r)) s)

/-- The frame that a fetch clocks out with nothing held: SEQUENCE_ERROR and an empty body (R189). -/
def nothingHeld (state : Nat) : List Byte := Response.bytes state ⟨.sequenceError, .empty⟩

/-- The response is released: the port is IDLE, and the flags still in the reported set are cleared (R189, R193). -/
def release (s : State) : State :=
  { s with
    port := { s.port with state := .idle }
    notices := { s.notices with flags := s.notices.flags &&& ~~~s.notices.reported, reported := 0 } }

/-- A fetch transfer of `n` bytes (R189). -/
def fetchBytes (n : Nat) (s : State) : State :=
  match s.port.state with
  | .holding r =>
    let frame := r.bytes 2
    let s := { s with port := { s.port with sdo := frame.take n } }
    if frame.length ≤ n then release s else s
  | st => { s with port := { s.port with sdo := (nothingHeld st.code).take n } }

/-- FETCH: a fetch transfer in which `n` bytes are clocked; with none there is no transfer (R189, R190). -/
def execFetch (n : Nat) (s : State) : Result := .next (if n = 0 then s else fetchBytes n s)

/-- IDENTIFY, taken (R201). -/
def identifyAct (s : State) : State :=
  answer .done (.identity s.nv.source s.nv.saving.isSome s.nv.lastSave) s

/-- IDENTIFY (R201). -/
def execIdentify (s : State) : Result := .next (station identifyAct s)

/-! ### Resets (R120, R199, R200) -/

/-- A TRIP input that stands asserted at a reset is taken as an assertion, after every block has taken the reset
(R120). -/
def tripAtReset (s : State) : State := if s.pins.trip then tripAsserted s else s

/-- The settings store as a station reset leaves it: a save in flight is abandoned (R198, R201). -/
def SettingsStore.afterStationReset (n : SettingsStore) : SettingsStore :=
  match n.saving with
  | some _ => { n with saving := none, image := none, lastSave := .abandoned }
  | none => n

/-- The book emptied, with generations kept (R6). R6 adds that keys from before the station reset are refused NO_RECORD rather
than finding new records; with the generations kept, a slot that is booked again before its record is ever freed gives the
old key again, and the old key then finds the new record. The kept generations are followed, not that consequence (DEDUCED,
log entry 45). -/
def bookEmptied (book : Vector BookSlot 128) : Vector BookSlot 128 := Vector.ofFn fun i : Fin 128 => ⟨book[i].gen, none⟩

/-- The station reset in every block (R6, R62, R83, R97, R120, R142, R159, R173, R192, R200). -/
def stationReset (s : State) : State :=
  { s with
    book := bookEmptied s.book
    queue := []
    engine := .cleared
    caverns := Vector.replicate 4 .cleared
    store := .cleared
    trains := Vector.replicate 8 .cleared
    disp := .cleared
    scan := .cleared s.now
    clock := { Clock.cleared with interval := s.clock.interval }
    link := .cleared s.cfg.trains
    notices := .cleared
    nv := s.nv.afterStationReset }

/-- RESET_STATION, taken: its DONE is held, and then the station reset takes effect (R200). -/
def resetStationAct (s : State) : State := tripAtReset (stationReset (reply .done s))

/-- RESET_STATION (R200). -/
def execResetStation (s : State) : Result := .next (station resetStationAct s)

/-- The settings store after a power-on: the image is left as it was, and a save that power cut off left none that
passes its check (R198, R199). -/
def SettingsStore.afterPowerOn (n : SettingsStore) : SettingsStore :=
  { saving := none
    image := n.image
    source := if n.image.isSome then .image else .defaults
    lastSave := .noSave }

/-- Every block at its reset value, with the settings loaded (R6, R62, R83, R97, R120, R142, R159, R173, R192, R199).
The model's own fields and the level of the TRIP input stay (log entry 29). -/
def powerOnState (s : State) : State :=
  let cfg := s.nv.image.getD .factory
  let s' : State :=
    { now := s.now
      free := s.free
      pins := s.pins
      cfg := cfg
      book := emptyBook
      queue := []
      engine := .cleared
      caverns := Vector.replicate 4 .cleared
      store := .cleared
      trains := Vector.replicate 8 .cleared
      disp := .cleared
      scan := .cleared s.now
      clock := .cleared
      link := .cleared cfg.trains
      notices := .cleared
      nv := s.nv.afterPowerOn
      port := { state := .idle, sdo := [] }
      pending := s.pending }
  raiseIf s.nv.image.isNone .settingsDefaulted s'

/-- POWER_ON_RESET (R199). -/
def execPowerOnReset (s : State) : Result := .next (tripAtReset (powerOnState s))

end Sys2Proof.Machine
end

