-- ==== Sys2Proof/Machine/ScannerCommands.lean ====
section
/-! DEFINITION. The commands and the event of the instrument scanner: SET_CHANNEL, SET_SCAN_LIST, READ_CHANNEL, SNAPSHOT
and ENTRY_COMPLETE (chapter 7). -/

namespace Sys2Proof.Machine

/-! ### SET_CHANNEL (R143, R144) -/

/-- A channel's settings with the given fields in place (R143). -/
def ChannelCfg.updated (c : ChannelCfg) (p : ChannelParams) : ChannelCfg :=
  { role := (p.role.bind roleOf).getD c.role
    gain := p.gain.getD c.gain
    offset := p.offset.getD c.offset
    averaging := p.averaging.getD c.averaging
    windowLow := p.windowLow.getD c.windowLow
    windowHigh := p.windowHigh.getD c.windowHigh
    windowMode := codeOr windowModeOf p.windowMode c.windowMode }

/-- The range of a signed 32-bit value (R141). -/
def within32 (o : Option Int) : Bool := withinInt (-2147483648) 2147483647 o

/-- The given values lie in their ranges (R141, R143). -/
def channelInRange (p : ChannelParams) : Bool :=
  p.role.all (fun r => (roleOf r).isSome) && withinInt (-32768) 32767 p.gain && within32 p.offset
    && p.averaging.all (fun n => decide (n ∈ [1, 2, 4, 8])) && within32 p.windowLow && within32 p.windowHigh
    && isCode windowModeOf p.windowMode

/-- A role that one channel alone may hold (R141). -/
def Role.exclusive : Role → Bool
  | .cavernPressure _ _ => true
  | .storeTemp _ _ => true
  | _ => false

/-- Another channel holds the cavern position or store sensor (R141, R143). -/
def roleTaken (ch : Fin 24) (r : Role) (channels : Vector ChannelCfg 24) : Bool :=
  r.exclusive && (List.finRange 24).any fun j => decide (j ≠ ch) && decide (channels[j].role = r)

/-- A SET_CHANNEL that is taken: the pass is aborted, the window state is judged again, and the changes are handed on
(R144, R149, R150). -/
def applyChannel (ch : Fin 24) (new : ChannelCfg) (s : State) : State :=
  let before := s.scan.results[ch]
  let after := before.map (ChanResult.rejudge new)
  let channels := s.cfg.channels.set ch new
  let results := s.scan.results.set ch after
  let s' := { s with cfg := { s.cfg with channels := channels }, scan := { s.scan with results := results } }
  recomputeIfBanned s (reformHold (raiseIf (windowEvent new before after) .window (restartPass s')))

/-- SET_CHANNEL, its values examined (R143). -/
def setChannelAct (p : ChannelParams) (s : State) : State :=
  match channelOf p.channel with
  | none => reply .badValue s
  | some ch =>
    let new := s.cfg.channels[ch].updated p
    if channelInRange p && decide (new.windowLow ≤ new.windowHigh) && !roleTaken ch new.role s.cfg.channels then
      reply .done (applyChannel ch new s)
    else reply .badValue s

/-- SET_CHANNEL (R143). -/
def execSetChannel (p : ChannelParams) (s : State) : Result := .next (station (settingsWrite (setChannelAct p)) s)

/-! ### SET_SCAN_LIST, SNAPSHOT, READ_CHANNEL -/

/-- A SET_SCAN_LIST that is taken: the list is replaced, the pass is aborted, and an empty list clears a pending
snapshot (R145, R146, R150, R157). -/
def applyScanList (l : List (Fin 24)) (s : State) : State :=
  let s := restartPass { s with cfg := { s.cfg with scanList := l } }
  if l.isEmpty then { s with scan := { s.scan with snapPending := false } } else s

/-- SET_SCAN_LIST, its values examined (R145). -/
def setScanListAct (l : List Nat) (s : State) : State :=
  match l.mapM channelOf with
  | none => reply .badValue s
  | some chs => if 32 < l.length then reply .badValue s else reply .done (applyScanList chs s)

/-- SET_SCAN_LIST (R145). -/
def execSetScanList (l : List Nat) (s : State) : Result := .next (station (settingsWrite (setScanListAct l)) s)

/-- SNAPSHOT, taken (R157). -/
def snapshotAct (s : State) : State :=
  if s.cfg.scanList.isEmpty then reply .wrongState s
  else reply .queued { s with scan := { s.scan with snapPending := true } }

/-- SNAPSHOT (R157). -/
def execSnapshot (s : State) : Result := .next (station snapshotAct s)

/-- The last-vote record of a CAVERN_PRESSURE channel's cavern (R158). -/
def voteFor (s : State) (ch : Fin 24) : Option VoteRecord :=
  match s.cfg.channels[ch].role with
  | .cavernPressure i _ => s.scan.votes[i]
  | _ => none

/-- What READ_CHANNEL carries (R158). -/
def channelView (s : State) (ch : Fin 24) : ChannelView where
  cfg := s.cfg.channels[ch]
  result := s.scan.results[ch]
  mark := s.scan.marks[ch]
  snap := s.scan.copy.map fun c => c.results[ch]
  vote := voteFor s ch
  scanning := !s.cfg.scanList.isEmpty
  passCount := s.scan.passCount
  scanList := s.cfg.scanList
  snapPending := s.scan.snapPending
  snapStamp := s.scan.copy.map fun c => (c.pass, c.interval)

/-- READ_CHANNEL, taken (R158). -/
def readChannelAct (n : Nat) (s : State) : State :=
  match channelOf n with
  | none => reply .badValue s
  | some ch => answer .done (.channel (channelView s ch)) s

/-- READ_CHANNEL (R158). -/
def execReadChannel (n : Nat) (s : State) : Result := .next (station (readChannelAct n) s)

/-! ### ENTRY_COMPLETE (R146, R147) -/

/-- The conversions of the entry in progress are done: as many as the channel's averaging, 1 ms each (R146). -/
def conversionsDone (s : State) (ch : Fin 24) (codes : List Nat) : Bool :=
  decide (codes.length = s.cfg.channels[ch].averaging)
    && decide (s.scan.began + s.cfg.channels[ch].averaging ≤ s.now)

/-- ENTRY_COMPLETE (R147). -/
def execEntryComplete (codes : List Nat) (s : State) : Result :=
  .next (match s.converting with
    | some ch => if conversionsDone s ch codes then recomputeIfBanned s (completeEntry ch codes s) else s
    | none => s)

end Sys2Proof.Machine
end

