-- ==== Sys2Proof/Machine/StoreCommands.lean ====
section
/-! DEFINITION. The station commands of the heat store: SET_STORE, LOAD_STORE_TABLE and READ_STORE (chapter 4). -/

namespace Sys2Proof.Machine

/-- Write the store's settings. -/
def setStoreCfg (c : StoreCfg) (s : State) : State := { s with cfg := { s.cfg with store := c } }

/-- The store's settings with the given fields in place (R86). -/
def StoreCfg.updated (c : StoreCfg) (p : StoreParams) : StoreCfg :=
  { c with
    capacity := p.capacity.getD c.capacity
    heatFloor := p.heatFloor.getD c.heatFloor
    capturePermille := p.capturePermille.getD c.capturePermille
    drawPermille := p.drawPermille.getD c.drawPermille
    lossPpm := p.lossPpm.getD c.lossPpm
    yieldG := p.yieldG.getD c.yieldG
    useG := p.useG.getD c.useG
    tMaxCharge := p.tMaxCharge.getD c.tMaxCharge
    tMinDischarge := p.tMinDischarge.getD c.tMinDischarge }

/-- The given values lie in the ranges that depend on no other field (R82, R86). -/
def storeInRange (p : StoreParams) : Bool :=
  within 0 4000000 p.capacity && within 0 1000 p.capturePermille && within 0 1000 p.drawPermille
    && within 0 1000 p.lossPpm && within 1000 20000 p.yieldG && within 1000 20000 p.useG
    && withinInt (-400) 7000 p.tMaxCharge && withinInt (-400) 7000 p.tMinDischarge

/-- A field that runs read differs (R87). -/
def StoreCfg.runFieldsDiffer (a b : StoreCfg) : Bool :=
  decide (a.capacity ≠ b.capacity) || decide (a.heatFloor ≠ b.heatFloor)
    || decide (a.capturePermille ≠ b.capturePermille) || decide (a.drawPermille ≠ b.drawPermille)
    || decide (a.lossPpm ≠ b.lossPpm) || decide (a.yieldG ≠ b.yieldG) || decide (a.useG ≠ b.useG)

/-- SET_STORE, its values examined (R86, R87). -/
def setStoreAct (p : StoreParams) (s : State) : State :=
  let old := s.cfg.store
  let new := old.updated p
  if storeInRange p && decide (new.heatFloor ≤ new.capacity) && decide (new.tMinDischarge < new.tMaxCharge) then
    let s' := judgeStoreInhibit (setVerifyIf (new.runFieldsDiffer old) (setStoreCfg new s))
    reply .done (recomputeIfBanned s s')
  else reply .badValue s

/-- SET_STORE (R86). -/
def execSetStore (p : StoreParams) (s : State) : Result := .next (station (settingsWrite (setStoreAct p)) s)

/-- The values of a LOAD_STORE_TABLE are taken (R84). -/
def storeTableOk (p : StoreTableParams) : Bool :=
  p.temps.toList.all (fun t => decide (-400 ≤ t) && decide (t ≤ 7000)) && strictlyRising p.temps
    && p.contents.toList.all (fun c => decide (c ≤ 4000000)) && rising p.contents

/-- The content recomputed on a new table (R84). -/
def recontent (s : State) : State :=
  match s.store.meanT with
  | none => s
  | some t => setStoreWork { s.store with content := some (s.cfg.store.contentOf t) } s

/-- LOAD_STORE_TABLE, its values examined (R84). -/
def loadStoreTableAct (p : StoreTableParams) (s : State) : State :=
  if storeTableOk p then
    reply .done (storeStartContent
      (recontent (setStoreCfg { s.cfg.store with temps := p.temps, contents := p.contents } s)))
  else reply .badValue s

/-- LOAD_STORE_TABLE (R84). -/
def execLoadStoreTable (p : StoreTableParams) (s : State) : Result :=
  .next (station (settingsWrite (loadStoreTableAct p)) s)

/-- READ_STORE, taken (R95). -/
def readStoreAct (s : State) : State :=
  answer .done (.store s.cfg.store s.store (sensorsOf s.cfg.channels)) s

/-- READ_STORE (R95). -/
def execReadStore (s : State) : Result := .next (station readStoreAct s)

end Sys2Proof.Machine
end

