-- ==== Sys2Proof/Machine/Dispatch.lean ====
section
/-! DEFINITION. The meaning of every command: one arm per constructor of `Instr`, in the order of the table. -/

namespace Sys2Proof.Machine

/-- What a command does to everything but the queue of waiting commands. -/
def exec (i : Instr) (s : State) : Host.Outcome State Fault Refusal :=
  match i with
  | .book p => Sys2Proof.Machine.execBook p s
  | .confirm key => Sys2Proof.Machine.execConfirm key s
  | .amend p => Sys2Proof.Machine.execAmend p s
  | .retire key => Sys2Proof.Machine.execRetire key s
  | .readCommitment key => Sys2Proof.Machine.execReadCommitment key s
  | .listCommitments page => Sys2Proof.Machine.execListCommitments page s
  | .readProjection page => Sys2Proof.Machine.execReadProjection page s
  | .verify => Sys2Proof.Machine.execVerify s
  | .setCavern p => Sys2Proof.Machine.execSetCavern p s
  | .loadCavernTable p => Sys2Proof.Machine.execLoadCavernTable p s
  | .readCavern number => Sys2Proof.Machine.execReadCavern number s
  | .setStore p => Sys2Proof.Machine.execSetStore p s
  | .loadStoreTable p => Sys2Proof.Machine.execLoadStoreTable p s
  | .readStore => Sys2Proof.Machine.execReadStore s
  | .setTrain p => Sys2Proof.Machine.execSetTrain p s
  | .setOutage p => Sys2Proof.Machine.execSetOutage p s
  | .withdraw entry => Sys2Proof.Machine.execWithdraw entry s
  | .restore entry => Sys2Proof.Machine.execRestore entry s
  | .release entry => Sys2Proof.Machine.execRelease entry s
  | .rebind entry => Sys2Proof.Machine.execRebind entry s
  | .readTrain entry => Sys2Proof.Machine.execReadTrain entry s
  | .setSite p => Sys2Proof.Machine.execSetSite p s
  | .readDispatch => Sys2Proof.Machine.execReadDispatch s
  | .setChannel p => Sys2Proof.Machine.execSetChannel p s
  | .setScanList channels => Sys2Proof.Machine.execSetScanList channels s
  | .readChannel channel => Sys2Proof.Machine.execReadChannel channel s
  | .snapshot => Sys2Proof.Machine.execSnapshot s
  | .setInterval n form => Sys2Proof.Machine.execSetInterval n form s
  | .readClock => Sys2Proof.Machine.execReadClock s
  | .setAlias p => Sys2Proof.Machine.execSetAlias p s
  | .forward p => Sys2Proof.Machine.execForward p s
  | .linkSpeed target => Sys2Proof.Machine.execLinkSpeed target s
  | .readLink => Sys2Proof.Machine.execReadLink s
  | .saveSettings => Sys2Proof.Machine.execSaveSettings s
  | .readNotices => Sys2Proof.Machine.execReadNotices s
  | .setNoticeMask mask => Sys2Proof.Machine.execSetNoticeMask mask s
  | .resetStation => Sys2Proof.Machine.execResetStation s
  | .identify => Sys2Proof.Machine.execIdentify s
  | .unknownCommand r => Sys2Proof.Machine.execUnknownCommand r s
  | .fetch clocked => Sys2Proof.Machine.execFetch clocked s
  | .powerOnReset => Sys2Proof.Machine.execPowerOnReset s
  | .saveComplete => Sys2Proof.Machine.execSaveComplete s
  | .pulse => Sys2Proof.Machine.execPulse s
  | .ownTimerExpiry => Sys2Proof.Machine.execOwnTimerExpiry s
  | .absorbWindowClose => Sys2Proof.Machine.execAbsorbWindowClose s
  | .siteTripAssert => Sys2Proof.Machine.execSiteTripAssert s
  | .siteTripRelease => Sys2Proof.Machine.execSiteTripRelease s
  | .runStart => Sys2Proof.Machine.execRunStart s
  | .verificationRunComplete => Sys2Proof.Machine.execVerificationRunComplete s
  | .admissionRunComplete => Sys2Proof.Machine.execAdmissionRunComplete s
  | .pinTimeout => Sys2Proof.Machine.execPinTimeout s
  | .entryComplete codes => Sys2Proof.Machine.execEntryComplete codes s
  | .grant => Sys2Proof.Machine.execGrant s
  | .replyReceived bytes => Sys2Proof.Machine.execReplyReceived bytes s
  | .replyTimeout => Sys2Proof.Machine.execReplyTimeout s
  | .broadcastSent => Sys2Proof.Machine.execBroadcastSent s
  | .unsolicitedFrame => Sys2Proof.Machine.execUnsolicitedFrame s
  | .linkReset => Sys2Proof.Machine.execLinkReset s
  | .startTimerExpiry entry => Sys2Proof.Machine.execStartTimerExpiry entry s
  | .stopTimerExpiry entry => Sys2Proof.Machine.execStopTimerExpiry entry s
  | .pollDue entry => Sys2Proof.Machine.execPollDue entry s
  | .periodicIdent entry => Sys2Proof.Machine.execPeriodicIdent entry s

end Sys2Proof.Machine
end

