-- ==== Sys2Proof/Safety.lean ====
section
/-! DEFINITION. What counts as a safe state of the part, in the terms the claims use: the invariants of the admission
queue (R28), of the trains' directions (R132), of the setpoints (R128, R129) and of the live table (R54, R57), and
the shapes of answers and frames in which results are stated. -/

namespace Sys2Proof.Machine

/-! ### Shapes in which results are stated -/

/-- The state with a response held by the port, as a request taken in IDLE leaves it (R189, R202). -/
def State.answered (s : State) (r : ResultCode) (b : Body) : State := { s with port := ⟨.holding ⟨r, b⟩, [0#8]⟩ }

/-- The state as a request taken in IDLE finds it: the transfer has clocked out the port state 0 (R202). -/
def State.taken (s : State) : State := { s with port := { s.port with sdo := [0#8] } }

/-- The state with record `r` in the slot of `key`, whose generation stays (R3). -/
def State.withRecord (s : State) (key : Nat) (r : Record) : State :=
  { s with book := s.book.set (slotOfKey key) ⟨s.book[slotOfKey key].gen, some r⟩ }

/-- The state with the slot of `key` freed: its generation moves on, from 511 to 0 (R4). -/
def State.withFreed (s : State) (key : Nat) : State :=
  let gen := s.book[slotOfKey key].gen
  { s with book := s.book.set (slotOfKey key) ⟨if 511 ≤ gen then 0 else gen + 1, none⟩ }

/-- A request of the station port: the 38 commands and a refused request (R189, R190). -/
def isRequest (i : Instr) : Bool :=
  (encodeCommand i).isSome || match i with
    | .unknownCommand _ => true
    | _ => false

/-- The settings-class writes that a save in flight refuses (R198). -/
def isSettingsWrite : Instr → Bool
  | .setCavern _ => true
  | .loadCavernTable _ => true
  | .setStore _ => true
  | .loadStoreTable _ => true
  | .setTrain _ => true
  | .setChannel _ => true
  | .setScanList _ => true
  | .setAlias _ => true
  | .setSite _ => true
  | .saveSettings => true
  | _ => false

/-- What a recompute of the dispatch unit leaves as it was: everything but the roster's working fields, the dispatch
unit, the link's command queue, the verification-pending flag and the notices. -/
structure RecomputeFrame (s t : State) : Prop where
  now : t.now = s.now
  free : t.free = s.free
  pins : t.pins = s.pins
  cfg : t.cfg = s.cfg
  book : t.book = s.book
  queue : t.queue = s.queue
  live : t.engine.live = s.engine.live
  closed : t.engine.closed = s.engine.closed
  runCount : t.engine.runCount = s.engine.runCount
  snap : t.engine.snap = s.engine.snap
  runKept : t.engine.run.map (fun r => (r.kind, r.subject, r.copy)) = s.engine.run.map fun r => (r.kind, r.subject, r.copy)
  caverns : t.caverns = s.caverns
  store : t.store = s.store
  scan : t.scan = s.scan
  clock : t.clock = s.clock
  link : t.link = { s.link with cmds := t.link.cmds }
  nv : t.nv = s.nv
  port : t.port = s.port
  pending : t.pending = s.pending

/-- A notice stands in a state. -/
def State.raised (s : State) (n : Notice) : Prop := s.notices.flags.getLsbD n.index = true

/-! ### The admission queue (R28) -/

/-- A record of the book waits for the engine with an item of a kind (R28). -/
def Record.waitsFor (r : Record) : ItemKind → Prop
  | .admitting => r.state = .proposed
  | .amend => r.pendingAmend.isSome = true

/-- The items that wait or are the subject of the run in flight (R28). -/
def itemsHeld (s : State) : List Item := s.queue ++ (s.engine.run.bind Run.item).toList

/-- R28: at most 8 items wait, no key stands twice among the items that wait or run, an item stands for a key exactly
when the key's record is PROPOSED or has a pending amendment, and only a TENTATIVE, FIRM or ACTIVE record has one. -/
structure QueueSound (s : State) : Prop where
  bounded : s.queue.length ≤ 8
  distinct : ((itemsHeld s).map Item.key).Nodup
  subject : ∀ run, s.engine.run = some run → (run.subject.isSome ↔ run.item.isSome)
  exact : ∀ key kind, ⟨key, kind⟩ ∈ itemsHeld s ↔ ∃ r, s.lookup key = some r ∧ r.waitsFor kind
  amendable : ∀ key r, s.lookup key = some r → r.pendingAmend.isSome = true → r.state.amendable = true

/-! ### Directions (R132) -/

/-- An entry stands in STARTING or RUNNING. -/
def isUp (s : State) (i : Fin 8) : Prop := s.trains[i].state = .starting ∨ s.trains[i].state = .running

/-- R132: no compressor train is STARTING or RUNNING while any expander train is; with what keeps it so: an entry that
is not configured is ABSENT, only a bound entry has a poll mark, and the transaction in flight concerns a configured
entry unless a SET_TRAIN has disowned it (R98, R100, R179). -/
structure DirectionsSound (s : State) : Prop where
  unopposed : ∀ i j : Fin 8, isUp s i → isUp s j → s.cfg.trains[i].kind = s.cfg.trains[j].kind
  unconfigured : ∀ i : Fin 8, s.cfg.trains[i].configured = false → s.trains[i].state = .absent
  polled : ∀ i : Fin 8, s.link.polls[i].isSome = true → s.trains[i].state.bound = true
  inFlight : ∀ t i, s.link.slot = some t → t.entry = some i → t.disowned = false → s.cfg.trains[i].configured = true

/-! ### Setpoints (R128, R129) -/

/-- The least stable power of every entry does not exceed its rated power (R96, R99). -/
def ratingsSound (trains : Vector TrainCfg 8) : Prop := ∀ i : Fin 8, trains[i].minStableKw ≤ trains[i].ratedKw

/-- The summed held values of a kind, RUNNING and LOST together (R128). -/
def heldOfKind (s : State) (kind : TrainKind) : Nat :=
  (((List.finRange 8).filter fun i => isIn s kind .running i || isIn s kind .lost i).map (heldOf s)).sum

/-- R128, R129: a setpoint stands only in STARTING, RUNNING and LOST; it is 0 or lies between the train's least stable
and rated power; a STARTING train's is 0; and the held values of each kind do not exceed the kind's grid limit. The
ratings in working memory and in the settings store stand in order. -/
structure SetpointsSound (s : State) : Prop where
  placed : ∀ (i : Fin 8) sp, s.disp.setpoints[i] = some sp → s.trains[i].state.keepsSetpoint = true
  starting : ∀ (i : Fin 8) sp, s.disp.setpoints[i] = some sp → s.trains[i].state = .starting → sp.held = 0
  inBand : ∀ (i : Fin 8) sp, s.disp.setpoints[i] = some sp →
    sp.held = 0 ∨ (s.cfg.trains[i].minStableKw ≤ sp.held ∧ sp.held ≤ s.cfg.trains[i].ratedKw)
  withinGrid : ∀ kind, heldOfKind s kind ≤ gridLimit s.cfg.site kind
  unconfigured : ∀ i : Fin 8, s.cfg.trains[i].configured = false → s.trains[i].state = .absent
  polled : ∀ i : Fin 8, s.link.polls[i].isSome = true → s.trains[i].state.bound = true
  inFlight : ∀ t i, s.link.slot = some t → t.entry = some i → t.disowned = false → s.cfg.trains[i].configured = true
  ratings : ratingsSound s.cfg.trains
  saving : ∀ c, s.nv.saving = some c → ratingsSound c.trains
  image : ∀ c, s.nv.image = some c → ratingsSound c.trains

/-! ### The live table (R54, R57) -/

/-- A table of 288 slots whose slot k names interval c + k (R36, R54). -/
def tableNames (c : Nat) (t : List ProjSlot) : Prop := t.map ProjSlot.interval = (List.range 288).map fun k => c + k

/-- R54, R56, R57: a valid live table holds 288 slots, slot k naming the interval k after the current one; the closed
slot names the interval just ended; a run in flight has the current interval in its copy; and while the clock is UNSET
or ARMED there is neither run nor table. -/
structure TableSound (s : State) : Prop where
  live : ∀ t, s.engine.live = some t → tableNames s.clock.interval t
  closed : ∀ sl, s.engine.closed = some sl → sl.interval + 1 = s.clock.interval
  run : ∀ r, s.engine.run = some r → r.copy.interval = s.clock.interval
  stopped : s.clock.running = false → s.engine.live = none ∧ s.engine.closed = none ∧ s.engine.run = none

end Sys2Proof.Machine
end

