-- ==== Sys2Proof/Certificates/Slice0/Obligations.lean ====
section
/-! DEFINITION. The statements for the provers, chapter by chapter. Each names in its docstring the rules of spec/ it
rests on; `stated` and `derived`, titles and quotes stand in OBLIGATIONS.json. -/

section
open Sys2Proof Sys2Proof.Machine

/-! ### The step -/

/-- A step runs the command at the front of the queue with the queue's rest. On an empty queue the model lets 1 ms of the
time base pass (DESIGN CHOICE, log entry 1). -/
def Obligations.StepRunsFrontCommand : Prop :=
  (∀ (s : State) (c : Instr) (rest : List Instr),
    s.pending = c :: rest → step s = exec c { s with pending := rest }) ∧
  (∀ s : State, s.pending = [] → step s = .next { s with now := s.now + 1 })

/-- Every command completes in every state, and none touches the waiting commands, the present moment, or the level of the
TRIP input but the two trip events (95_what_each_step_holds.md; log entries 1, 2 and 5). -/
def Obligations.EveryCommandCompletes : Prop :=
  ∀ (c : Instr) (s : State), ∃ t : State, exec c s = .next t ∧ t.pending = s.pending ∧ t.now = s.now ∧
    (c ≠ .siteTripAssert → c ≠ .siteTripRelease → t.pins = s.pins)

/-- R191: a request taken while a response is owed or unread is not decoded. The port holds SEQUENCE_ERROR in place of the
earlier response; a forwarded message whose response was owed stays, owing nothing; nothing else changes but the reported
set, which a discarded READ_NOTICES leaves empty (R193). -/
def Obligations.RequestOutOfTurn : Prop :=
  ∀ (c : Instr) (s : State), isRequest c = true → s.port.state ≠ .idle →
    exec c s = .next { s with
      link := { s.link with
        pass := s.link.pass.map (fun f => { f with owed := false })
        slot := s.link.slot.map Txn.forwardDisowned }
      notices := { s.notices with reported := 0 }
      port := ⟨.holding ⟨.sequenceError, .empty⟩, [BitVec.ofNat 8 s.port.state.code]⟩ }

/-! ### The commitment book (chapter 1) -/

/-- R8, R9: BOOK applies its gates in their order and answers with the first that fails; when every gate passes, the record
stands PROPOSED in the lowest free slot, its ADMIT item is the tail of the queue, and the response carries the key. -/
def Obligations.BookGatesAndRecord : Prop :=
  ∀ (p : BookParams) (s : State), s.port.state = .idle →
    let c := s.clock.interval
    let running := s.clock.mode = .locked ∨ s.clock.mode = .free ∨ s.clock.mode = .holdover
    let good := p.cls ≤ 1 ∧ p.dir ≤ 1 ∧ 1 ≤ p.length ∧ p.length ≤ 48 ∧ 1 ≤ p.power ∧ p.power ≤ 400000
      ∧ (∀ t, p.tolerance = some t → t ≤ 200)
      ∧ (∀ h, p.holdExpiry = some h → p.cls = 0 ∧ h ≤ p.start ∧ c + 1 ≤ h)
    let inHorizon := p.start + p.length - 1 ≤ c + 287
    let inTime := c + 1 + s.cfg.site.minNotice ≤ p.start
    (¬running → exec (.book p) s = .next (s.answered .clockUnset .empty)) ∧
    (running → ¬good → exec (.book p) s = .next (s.answered .badValue .empty)) ∧
    (running → good → ¬inHorizon → exec (.book p) s = .next (s.answered .horizon .empty)) ∧
    (running → good → inHorizon → ¬inTime → exec (.book p) s = .next (s.answered .late .empty)) ∧
    (running → good → inHorizon → inTime → (∀ i : Fin 128, s.book[i].record ≠ none) →
      exec (.book p) s = .next (s.answered .full .empty)) ∧
    (∀ i : Fin 128, running → good → inHorizon → inTime → s.book[i].record = none →
      (∀ j : Fin 128, j < i → s.book[j].record ≠ none) →
      (8 ≤ s.queue.length → exec (.book p) s = .next (s.answered .queueFull .empty)) ∧
      (s.queue.length < 8 →
        let key := s.book[i].gen * 128 + i.val
        let r : Record :=
          { tradeRef := p.tradeRef
            cls := if p.cls = 0 then .tentative else .firm
            dir := if p.dir = 0 then .charge else .discharge
            start := p.start, length := p.length, power := p.power, change := none
            tolerance := p.tolerance.getD 20, holdExpiry := p.holdExpiry, state := .proposed
            refusal := none, pendingAmend := none, lastAmend := none, atRisk := none, sums := none, outcome := none }
        exec (.book p) s = .next (({ s with
          book := s.book.set i ⟨s.book[i].gen, some r⟩
          queue := s.queue ++ [⟨key, .admitting⟩] } : State).answered .queued (.key key))))

/-- R11, with R5: CONFIRM on a TENTATIVE record makes it FIRM and removes its hold_expiry; everything else, the run inputs
and the verification-pending flag among it, stays. In any other state it is refused WRONG_STATE. -/
def Obligations.ConfirmTakesHold : Prop :=
  ∀ (key : Nat) (s : State), s.port.state = .idle →
    (s.lookup key = none → exec (.confirm key) s = .next (s.answered .noRecord .empty)) ∧
    (∀ r, s.lookup key = some r → r.state = .tentative →
      exec (.confirm key) s
        = .next ((s.withRecord key { r with state := .firm, holdExpiry := none }).answered .done .empty)) ∧
    (∀ r, s.lookup key = some r → r.state ≠ .tentative →
      exec (.confirm key) s = .next (s.answered .wrongState .empty))

/-- R12 to R14: the state checks, the value gates by the record's state, and QUEUE_FULL, in their order; a taken AMEND
stores all three values, filled out, and queues its item. -/
def Obligations.AmendGatesAndQueue : Prop :=
  ∀ (p : AmendParams) (s : State), s.port.state = .idle →
    (s.lookup p.key = none → exec (.amend p) s = .next (s.answered .noRecord .empty)) ∧
    (∀ r, s.lookup p.key = some r →
      let c := s.clock.interval
      let a : Amendment := ⟨p.power.getD (r.powerAt (c + 1)), p.length.getD r.length, p.start.getD r.start⟩
      let inRange := 1 ≤ a.length ∧ a.length ≤ 48 ∧ 1 ≤ a.power ∧ a.power ≤ 400000
      let queued := (({ s.withRecord p.key { r with pendingAmend := some a } with
        queue := s.queue ++ [⟨p.key, .amend⟩] } : State).answered .queued .empty)
      (r.state ≠ .tentative → r.state ≠ .firm → r.state ≠ .active →
        exec (.amend p) s = .next (s.answered .wrongState .empty)) ∧
      ((r.state = .tentative ∨ r.state = .firm ∨ r.state = .active) → r.pendingAmend ≠ none →
        exec (.amend p) s = .next (s.answered .busy .empty)) ∧
      ((r.state = .tentative ∨ r.state = .firm) → r.pendingAmend = none →
        exec (.amend p) s = .next (
          if ¬inRange then s.answered .badValue .empty
          else if r.state = .tentative ∧ r.holdExpiry.any (fun h => decide (a.start < h)) = true then s.answered .badValue .empty
          else if c + 287 < a.start + a.length - 1 then s.answered .horizon .empty
          else if a.start < c + 1 + s.cfg.site.minNotice then s.answered .late .empty
          else if 8 ≤ s.queue.length then s.answered .queueFull .empty
          else queued)) ∧
      (r.state = .active → r.pendingAmend = none →
        exec (.amend p) s = .next (
          if a.start ≠ r.start ∨ ¬inRange then s.answered .badValue .empty
          else if a.length < (c - r.start + 1) + 1 then s.answered .late .empty
          else if c + 287 < r.start + a.length - 1 then s.answered .horizon .empty
          else if 8 ≤ s.queue.length then s.answered .queueFull .empty
          else queued)))

/-- R18, with R4, R5, R17 and R30: RETIRE by the record's state. A freed record takes its item out of the queue, or its
run's subject away; an ACTIVE record enters ENDING, its pending amendment dropped with a LATE result. -/
def Obligations.RetireByState : Prop :=
  ∀ (key : Nat) (s : State), s.port.state = .idle →
    let dropped := fun t : State => ({ t with
      queue := t.queue.filter fun it => it.key ≠ key
      engine := { t.engine with
        run := t.engine.run.map fun r => if r.subject = some key then { r with subject := none } else r } } : State)
    (s.lookup key = none → exec (.retire key) s = .next (s.answered .noRecord .empty)) ∧
    (∀ r, s.lookup key = some r →
      (r.state = .proposed →
        exec (.retire key) s = .next (((dropped s).withFreed key).answered .done .empty)) ∧
      (r.state = .refused ∨ r.state = .closed →
        exec (.retire key) s = .next ((s.withFreed key).answered .done .empty)) ∧
      (r.state = .tentative ∨ r.state = .firm →
        exec (.retire key) s = .next ((setVerify ((dropped s).withFreed key)).answered .done .empty)) ∧
      (r.state = .active →
        let r' : Record := { r with
          state := .ending, pendingAmend := none
          lastAmend := if r.pendingAmend = none then r.lastAmend
            else some (.refused ⟨.late, s.clock.interval, none⟩) }
        exec (.retire key) s = .next ((setVerify (dropped (s.withRecord key r'))).answered .done .empty)) ∧
      (r.state = .ending → exec (.retire key) s = .next (s.answered .wrongState .empty)))

/-- R25, R26: READ_COMMITMENT carries the whole record; LIST_COMMITMENTS carries the 16 slots of its page in slot order,
and the number of records held. Neither changes anything but the port. -/
def Obligations.BookReads : Prop :=
  ∀ s : State, s.port.state = .idle →
    (∀ key, s.lookup key = none → exec (.readCommitment key) s = .next (s.answered .noRecord .empty)) ∧
    (∀ key r, s.lookup key = some r →
      exec (.readCommitment key) s = .next (s.answered .done (.commitment key r))) ∧
    (∀ page, 7 < page → exec (.listCommitments page) s = .next (s.answered .badValue .empty)) ∧
    (∀ page, page ≤ 7 → ∃ entries : List ListEntry,
      exec (.listCommitments page) s = .next (s.answered .done
        (.listing entries ((List.finRange 128).filter fun i => s.book[i].record.isSome).length)) ∧
      entries.length = 16 ∧
      ∀ (j : Nat) (i : Fin 128), j < 16 → i.val = 16 * page + j → entries[j]? = some (
        match s.book[i].record with
        | some r => .occupied (s.book[i].gen * 128 + i.val) r.state
        | none => .vacant s.book[i].gen))

/-- R20 to R22, with R17: the book at the boundary into `n`. FIRM records that start at `n` are ACTIVE; TENTATIVE records
whose hold_expiry or start is `n` are CLOSED LAPSED, their mark clear and their amendment dropped; the others stay.
HOLD_LAPSED is raised where any lapsed, and then the flag of R30 stands, and a run that this boundary has started afresh is
marked so that its completion leaves the flag for the next run, which takes the lapse into account (DEDUCED, log entry 44). -/
def Obligations.BookTakesBoundary : Prop :=
  ∀ (n : Nat) (s : State),
    (∀ i : Fin 128, (bookBoundary n s).book[i].gen = s.book[i].gen ∧
      (bookBoundary n s).book[i].record = s.book[i].record.map fun r =>
        if r.state = .firm ∧ r.start = n then { r with state := .active }
        else if r.state = .tentative ∧ (r.holdExpiry = some n ∨ r.start = n) then
          { r with
            state := .closed, outcome := some .lapsed, atRisk := none, pendingAmend := none
            lastAmend := if r.pendingAmend = none then r.lastAmend
              else some (.refused ⟨.late, s.clock.interval, none⟩) }
        else r) ∧
    ((∃ (i : Fin 128) (r : Record), s.book[i].record = some r ∧ r.state = .tentative ∧
        (r.holdExpiry = some n ∨ r.start = n)) →
      (bookBoundary n s).notices = (raise .holdLapsed s).notices ∧ (bookBoundary n s).engine.flag = true ∧
      ((bookBoundary n s).engine.run.map fun r => { r with subject := none })
        = s.engine.run.map fun r => { r with subject := none, stale := true }) ∧
    ((∀ (i : Fin 128) (r : Record), s.book[i].record = some r → r.state = .tentative →
        r.holdExpiry ≠ some n ∧ r.start ≠ n) →
      (bookBoundary n s).notices = s.notices ∧ (bookBoundary n s).engine = s.engine ∧
      (bookBoundary n s).queue = s.queue) ∧
    (bookBoundary n s).clock = s.clock ∧ (bookBoundary n s).disp = s.disp

/-- R23, R24: a credit for a record that is present adds to its sums, each held at 4,294,967,295, and the record closes on
its last interval or when it is ENDING, with the outcome its whole life gives; a credit that names no record is
discarded. -/
def Obligations.CreditClosesRecord : Prop :=
  ∀ (key n due delivered : Nat) (s : State),
    (s.lookup key = none → creditRecord key n due delivered s = s) ∧
    (∀ r, s.lookup key = some r →
      let old := r.sums.getD ⟨0, 0⟩
      let q : Sums := ⟨min 4294967295 (old.due + due), min 4294967295 (old.delivered + delivered)⟩
      let closes := n = r.start + r.length - 1 ∨ r.state = .ending
      let short := r.tolerance * q.due < (max q.due q.delivered - min q.due q.delivered) * 1000
      (¬closes → creditRecord key n due delivered s = s.withRecord key { r with sums := some q }) ∧
      (closes → ∃ t, creditRecord key n due delivered s = t ∧
        t.lookup key = some { r with
          sums := some q, state := .closed, atRisk := none, pendingAmend := none
          outcome := some (if short then CloseOutcome.short else if r.state = .ending then .curtailed else .honoured)
          lastAmend := if r.pendingAmend = none then r.lastAmend
            else some (.refused ⟨.late, s.clock.interval, none⟩) } ∧
        (∀ k, slotOfKey k ≠ slotOfKey key → t.lookup k = s.lookup k) ∧
        (∀ it ∈ t.queue, it.key ≠ key) ∧
        t.notices = (raiseIf (decide short) .short (raise .closed s)).notices))

/-- R16: an admitted power amendment on an ACTIVE record at completion interval `c`, by the power_change it holds; the power
in force in `c` stays, and from `c + 1` it is the new power. -/
def Obligations.ActivePowerAmendment : Prop :=
  ∀ (r : Record) (power c : Nat), (∀ ch, r.change = some ch → ch.since ≤ c + 1) →
    (power = r.powerAt (c + 1) → r.withPower power c = r) ∧
    (power ≠ r.powerAt (c + 1) → r.change = none →
      r.withPower power c = { r with change := some ⟨power, c + 1⟩ }) ∧
    (∀ ch, power ≠ r.powerAt (c + 1) → r.change = some ch → ch.since ≤ c →
      r.withPower power c = { r with power := ch.power, change := some ⟨power, c + 1⟩ }) ∧
    (∀ ch, power ≠ r.powerAt (c + 1) → r.change = some ch → ch.since = c + 1 →
      r.withPower power c = { r with change := some ⟨power, c + 1⟩ }) ∧
    (r.withPower power c).powerAt c = r.powerAt c ∧
    (∀ n, c < n → (r.withPower power c).powerAt n = power)

/-! ### The projection engine (chapter 2) -/

/-- R58 to R60: READ_PROJECTION by page and pin, and PIN_TIMEOUT. Page 0 copies and pins the live table; pages 1 to 17 are
served from the pinned copy; page 17 and 10 s without a page release the pin. -/
def Obligations.ProjectionPagesAndPin : Prop :=
  (∀ (page : Nat) (s : State), s.port.state = .idle →
    let header := fun (rc : Nat) (sup : Bool) => ({
      runCount := rc, page := page, superseded := sup
      running := s.engine.run.map fun r => (r.kind, r.subject)
      flag := s.engine.flag, items := s.queue } : ProjHeader)
    let slot0 := fun t : Option (List ProjSlot) => (t.bind List.head?).map ProjSlot.interval
    let slots := fun t : Option (List ProjSlot) => ((t.getD []).drop (16 * page)).take 16
    (17 < page → exec (.readProjection page) s = .next (s.answered .badValue .empty)) ∧
    (page = 0 → exec (.readProjection page) s = .next (({ s with
      engine := { s.engine with snap := ⟨s.engine.live, s.engine.runCount, false, some s.now⟩ } } : State).answered
        .done (.projection (header s.engine.runCount false) (slot0 s.engine.live) (slots s.engine.live)))) ∧
    (1 ≤ page → page ≤ 17 → s.engine.snap.pin ≠ none →
      exec (.readProjection page) s = .next (({ s with engine := { s.engine with snap := { s.engine.snap with
        pin := if page = 17 then none else some s.now } } } : State).answered .done
          (.projection (header s.engine.snap.runCount s.engine.snap.superseded)
            (slot0 s.engine.snap.table) (slots s.engine.snap.table)))) ∧
    (1 ≤ page → page ≤ 17 → s.engine.snap.pin = none →
      exec (.readProjection page) s = .next (s.answered .noSnapshot .empty))) ∧
  (∀ (s : State) (t : Nat), s.engine.snap.pin = some t → t + 10000 ≤ s.now →
    exec .pinTimeout s
      = .next { s with engine := { s.engine with snap := { s.engine.snap with pin := none } } })

/-- R30, R32 to R35, R116, R130: VERIFY; the start of a run while the engine is IDLE and the clock runs: the head item first,
then a pending verification, else nothing; and the copy taken at the start, from which the run works: the settings and working
values as they stand, every slot's capacities from the entries that count in it, the direction, and every slot's net power
from the book, with the candidate counted at its own values. That RUN_START with a run in flight or a clock that does not run
changes nothing is the model's choice (log entry 2). -/
def Obligations.VerifyAndRunStart : Prop :=
  (∀ s : State, s.port.state = .idle →
    (s.clock.running = false → exec .verify s = .next (s.answered .clockUnset .empty)) ∧
    (s.clock.running = true →
      exec .verify s = .next (({ s with engine := { s.engine with
        flag := true, run := s.engine.run.map fun r => { r with stale := true } } } : State).answered .queued .empty))) ∧
  (∀ s : State,
    let withRun := fun run : Run => ({ s with engine := { s.engine with run := some run } } : State)
    ((s.engine.run ≠ none ∨ s.clock.running = false) → exec .runStart s = .next s) ∧
    (s.engine.run = none → s.clock.running = true →
      (∀ key rest, s.queue = ⟨key, .admitting⟩ :: rest → exec .runStart s = .next { withRun
        ⟨.admitting, some key, false, copyInputs s (some ⟨key, .admitting⟩)⟩ with queue := rest }) ∧
      (∀ key rest, s.queue = ⟨key, .amend⟩ :: rest → exec .runStart s = .next { withRun
        ⟨.amend, some key, false, copyInputs s (some ⟨key, .amend⟩)⟩ with queue := rest }) ∧
      (s.queue = [] → s.engine.flag = true →
        exec .runStart s = .next (withRun ⟨.verification, none, false, copyInputs s none⟩)) ∧
      (s.queue = [] → s.engine.flag = false → exec .runStart s = .next s))) ∧
  (∀ (s : State) (candidate : Option Item),
    let copy := copyInputs s candidate
    let c := s.clock.interval
    let counts := fun (i : Fin 8) (k : Nat) =>
      s.cfg.trains[i].configured = true ∧
      (s.trains[i].state = .starting ∨ s.trains[i].state = .running ∨
        (s.trains[i].state = .ready ∧ s.cfg.trains[i].startLead ≤ k) ∨
        (s.trains[i].state = .resting ∧ s.trains[i].restCount + s.cfg.trains[i].startLead ≤ k)) ∧
      ∀ o ∈ s.trains[i].outages, ¬(o.first ≤ c + k ∧ c + k ≤ o.last)
    let moving := fun kind : TrainKind => ∃ i : Fin 8, s.cfg.trains[i].kind = kind ∧
      (s.trains[i].state = .starting ∨ s.trains[i].state = .running ∨ s.trains[i].state = .stopping)
    let up := fun kind : TrainKind => ∃ i : Fin 8, s.cfg.trains[i].kind = kind ∧
      (s.trains[i].state = .starting ∨ s.trains[i].state = .running)
    let inSpan := fun start length k : Nat => decide (start ≤ c + k) && decide (c + k < start + length)
    let chosen := fun key : Nat => (candidate.filter fun it => decide (it.key = key)).map Item.kind
    let magnitude := fun (key : Nat) (r : Record) (k : Nat) => match chosen key, r.pendingAmend, r.state with
      | some .admitting, _, _ => if inSpan r.start r.length k then r.powerAt (c + k) else 0
      | some .amend, some a, .active =>
        if k = 0 then r.powerAt c else if c + k ≤ r.start + a.length - 1 then a.power else 0
      | some .amend, some a, _ => if inSpan a.start a.length k then a.power else 0
      | _, _, .tentative => if inSpan r.start r.length k then r.powerAt (c + k) else 0
      | _, _, .firm => if inSpan r.start r.length k then r.powerAt (c + k) else 0
      | _, _, .active => if inSpan r.start r.length k then r.powerAt (c + k) else 0
      | _, _, .ending => if k = 0 then r.powerAt c else 0
      | _, _, _ => 0
    let contribution := fun (i : Fin 128) (k : Nat) => match s.book[i].record with
      | none => (0 : Int)
      | some r =>
        let p := magnitude (s.book[i].gen * 128 + i.val) r k
        match r.dir with | .charge => (p : Int) | .discharge => -(p : Int)
    copy.interval = c ∧ copy.trip = s.disp.trip ∧
    (∀ i : Fin 4, copy.caverns[i] = ⟨s.cfg.caverns[i].inService, s.cfg.caverns[i].weight, s.caverns[i].status,
      s.caverns[i].startMass, s.cfg.caverns[i].table, s.cfg.caverns[i].pMin, s.cfg.caverns[i].pMax,
      s.cfg.caverns[i].rateLimit⟩) ∧
    copy.startContent = s.store.startContent ∧ copy.storeStatus = s.store.status ∧
    copy.capacity = s.cfg.store.capacity ∧ copy.heatFloor = s.cfg.store.heatFloor ∧
    copy.capturePermille = s.cfg.store.capturePermille ∧ copy.drawPermille = s.cfg.store.drawPermille ∧
    copy.lossPpm = s.cfg.store.lossPpm ∧ copy.yieldG = s.cfg.store.yieldG ∧ copy.useG = s.cfg.store.useG ∧
    copy.importLimit = s.cfg.site.importLimit ∧ copy.exportLimit = s.cfg.site.exportLimit ∧
    copy.changeoverGap = s.cfg.site.changeoverGap ∧
    (∀ k, k < 288 → ∀ (kind : TrainKind) (members : List (Fin 8)), members.Nodup →
      (∀ i : Fin 8, i ∈ members ↔ s.cfg.trains[i].kind = kind ∧ counts i k) →
      (match kind with | .compressor => copy.chargeCaps[k]? | .expander => copy.dischargeCaps[k]?)
        = some ((members.map fun i => s.cfg.trains[i].ratedKw).sum)) ∧
    (copy.direction = some .charge ↔
      moving .compressor ∧ (¬moving .expander ∨ (up .compressor ∧ ¬up .expander))) ∧
    (copy.direction = some .discharge ↔
      moving .expander ∧ (¬moving .compressor ∨ (up .expander ∧ ¬up .compressor))) ∧
    (copy.counted.map Counted.key).Nodup ∧
    (∀ k, netPower copy k = ((List.finRange 128).map fun i => contribution i k).sum))

/-- R46, R31, R50, R58, R59, R123: a verification run's table becomes live whole, the run count advances, the flag is
cleared unless a cause came after the run's start, a copy is superseded, the marks are written, and the dispatch unit
recomputes on the new live table. -/
def Obligations.VerificationRunCompletes : Prop :=
  ∀ (s : State) (run : Run), s.engine.run = some run → run.kind = .verification →
    exec .verificationRunComplete s = .next (recompute (writeMarks run.copy (runTable run.copy)
      { s with engine := { s.engine with
        run := none, flag := run.stale, live := some (runTable run.copy)
        runCount := if s.engine.runCount < 4294967295 then s.engine.runCount + 1 else 0
        snap := { s.engine.snap with superseded := true } } }))

/-- R10, R15, R47 to R49, R51: an admission run completes. A run without a subject is discarded whole. Otherwise the book's
LATE check comes first, then the blocking slot; a candidate that neither refuses is admitted and its table becomes
live. That a booking whose start and hold_expiry have both come too near shows its start as the failing interval is the model's
choice (log entry 51). -/
def Obligations.AdmissionRunCompletes : Prop :=
  ∀ (s : State) (run : Run), s.engine.run = some run → run.kind ≠ .verification →
    let ended : State := { s with engine := { s.engine with run := none } }
    let table := runTable run.copy
    let c := s.clock.interval
    let earliest := c + 1 + s.cfg.site.minNotice
    (run.subject = none → exec .admissionRunComplete s = .next ended) ∧
    (∀ key r, run.subject = some key → s.lookup key = some r → (run.kind = .amend → r.pendingAmend ≠ none) →
      let late : Option Nat := match run.kind, r.pendingAmend with
        | .amend, some a =>
          if r.state = .active then if a.start ≠ r.start ∨ a.length < c - r.start + 1 + 1 then some c else none
          else if a.start < earliest then some a.start else none
        | _, _ => if r.start < earliest then some r.start else r.holdExpiry.filter fun h => decide (h < c + 1)
      let refused := fun note : RefusalNote => match run.kind with
        | .amend => { r with pendingAmend := none, lastAmend := some (.refused note) }
        | _ => { r with state := .refused, refusal := some note, atRisk := none }
      let admitted : Record := match run.kind, r.pendingAmend with
        | .amend, some a =>
          { (if r.state = .active then r.withPower a.power c else { r with power := a.power }) with
            length := a.length, start := a.start, pendingAmend := none, lastAmend := some .admitted }
        | _, _ => { r with state := match r.cls with | .tentative => .tentative | .firm => .firm }
      (∀ n, late = some n → exec .admissionRunComplete s
        = .next (raise .admissionDone (ended.withRecord key (refused ⟨.late, n, none⟩)))) ∧
      (∀ sl reason, late = none → blockingSlot table s.engine.live = some sl → sl.status = .fail reason →
        exec .admissionRunComplete s = .next (raise .admissionDone (ended.withRecord key
          (refused ⟨reason, sl.interval, if sl.failCavern = 0 then none else some sl.failCavern⟩)))) ∧
      (late = none → blockingSlot table s.engine.live = none →
        exec .admissionRunComplete s = .next (recompute (raise .admissionDone (writeMarks run.copy table
          (({ s with engine := { s.engine with
            run := none, flag := run.stale, live := some table
            runCount := if s.engine.runCount < 4294967295 then s.engine.runCount + 1 else 0
            snap := { s.engine.snap with superseded := true } } } : State).withRecord key admitted))))))

/-- R47: a live slot stands clear with status OK or NONE; the blocking slot is the lowest slot that fails in the run while
the live table's slot stands clear, and against an invalid live table the lowest slot that fails. -/
def Obligations.BlockingSlotIsLowest : Prop :=
  let fails := fun sl : ProjSlot => ∃ r, sl.status = .fail r
  let standsClear := fun sl : ProjSlot => sl.status = .ok ∨ sl.status = .noStatus
  (∀ (run live : List ProjSlot) (sl : ProjSlot), run.length = live.length →
    (blockingSlot run (some live) = some sl ↔ ∃ (k : Nat) (lv : ProjSlot),
      run[k]? = some sl ∧ live[k]? = some lv ∧ fails sl ∧ standsClear lv ∧
      ∀ j a b, j < k → run[j]? = some a → live[j]? = some b → ¬(fails a ∧ standsClear b))) ∧
  (∀ (run : List ProjSlot) (sl : ProjSlot), blockingSlot run none = some sl ↔ ∃ k : Nat,
    run[k]? = some sl ∧ fails sl ∧ ∀ j a, j < k → run[j]? = some a → ¬fails a)

/-- R50, R7: the at-risk marks that a run writes. A record it counted that is present in TENTATIVE, FIRM, ACTIVE or ENDING takes
the interval of the lowest failing slot among those in which the run counted it, or no mark; no other record and no other
field changes; AT_RISK is raised exactly where a mark passed between clear and set. That a counted record which is by then
PROPOSED, REFUSED or CLOSED keeps its mark is read from R7 (DEDUCED, log entry 14). -/
def Obligations.MarksFollowRun : Prop :=
  ∀ (copy : RunCopy) (table : List ProjSlot) (s : State), (copy.counted.map Counted.key).Nodup →
    let t := writeMarks copy table s
    let fails := fun sl : ProjSlot => ∃ r, sl.status = .fail r
    let changed := ∃ c ∈ copy.counted, ∃ r r', s.lookup c.key = some r ∧ t.lookup c.key = some r' ∧
      r.atRisk.isSome ≠ r'.atRisk.isSome
    (∀ key, (∀ c ∈ copy.counted, c.key ≠ key) → t.lookup key = s.lookup key) ∧
    (∀ c ∈ copy.counted, ∀ r, s.lookup c.key = some r → ∃ m : Option Nat,
      t.lookup c.key = some { r with atRisk := m } ∧
      ((r.state = .proposed ∨ r.state = .refused ∨ r.state = .closed) → m = r.atRisk) ∧
      (r.state ≠ .proposed → r.state ≠ .refused → r.state ≠ .closed →
        ∀ n, m = some n ↔ ∃ (k : Nat) (sl : ProjSlot), table[k]? = some sl ∧ sl.interval = n ∧ fails sl ∧
          c.powerIn copy.interval k ≠ none ∧
          ∀ j sl', j < k → table[j]? = some sl' → c.powerIn copy.interval j ≠ none → ¬fails sl')) ∧
    (changed → t.notices = (raise .atRisk s).notices) ∧ (¬changed → t.notices = s.notices) ∧
    t.engine = s.engine ∧ t.queue = s.queue ∧ t.disp = s.disp

/-- R36 to R39, R41, R43 to R45: a run's table holds 288 slots; slot k names interval c + k and carries the net power as summed
and the capacities as used; the first three stages mark it GRID, CAPACITY and CHANGEOVER exactly where their conditions hold
and no earlier stage failed, CHANGEOVER against the last slot before it with a net power or, with none, the direction; it
begins from the content and the masses that the slot before it ended with, slot 0 from the copy; and its heat content lies
between 0 and the capacity. Its status and failing cavern are those of the first reason marked, in stage order: GRID, CAPACITY,
CHANGEOVER, HEAT_SHORT, NO_CAVERN where no cavern is eligible and the net power is not 0, and then the failures of the eligible
caverns in the order of their numbers, each in the order of its checks; with no reason marked they are OK and 0. -/
def Obligations.RunRecordsEverySlot : Prop :=
  ∀ copy : RunCopy, (runTable copy).length = 288 ∧
    ∀ (k : Nat) (sl : ProjSlot), (runTable copy)[k]? = some sl →
      let n := netPower copy
      let grid := (copy.importLimit : Int) < n k ∨ (copy.exportLimit : Int) < -n k
      let beyond := (0 < n k ∧ (sl.chargeCap : Int) < n k) ∨ (n k < 0 ∧ (sl.dischargeCap : Int) < -n k)
      let opposed := (∃ j, j < k ∧ n j ≠ 0 ∧ (∀ m, j < m → m < k → n m = 0) ∧ n j * n k < 0 ∧
          k - 1 - j < copy.changeoverGap) ∨
        ((∀ j, j < k → n j = 0) ∧ k < copy.changeoverGap ∧
          ((copy.direction = some .charge ∧ n k < 0) ∨ (copy.direction = some .discharge ∧ 0 < n k)))
      let moved := max (-800000) (min 800000 (n k))
      let dM := massChange copy moved
      let judged := fun (heat : Nat) (mass : Fin 4 → Nat) => ∃ swung : Bool, (swung = true ↔ opposed) ∧
        let marks : List (Reason × Nat) :=
          (if (copy.importLimit : Int) < n k ∨ (copy.exportLimit : Int) < -n k then [(.grid, 0)] else []) ++
          (if (0 < n k ∧ (sl.chargeCap : Int) < n k) ∨ (n k < 0 ∧ (sl.dischargeCap : Int) < -n k)
            then [(.capacity, 0)] else []) ++
          (if swung then [(.changeover, 0)] else []) ++
          (if (heatStage copy heat moved).2.1 then [(.heatShort, 0)] else []) ++
          (if (∀ i : Fin 4, copy.caverns[i].eligible = false) ∧ n k ≠ 0 then [(.noCavern, 0)] else []) ++
          (List.finRange 4).flatMap fun i : Fin 4 => if copy.caverns[i].eligible then
            (cavernFailures copy.caverns[i] (mass i) (endMass copy.caverns dM (mass i) i)).map fun r => (r, i.val + 1)
            else []
        (marks = [] → sl.status = .ok ∧ sl.failCavern = 0) ∧
        (∀ r cavern rest, marks = (r, cavern) :: rest → sl.status = .fail r ∧ sl.failCavern = cavern)
      (k = 0 → judged (min copy.startContent copy.capacity) fun i => copy.caverns[i].startMass) ∧
      (∀ before, 0 < k → (runTable copy)[k - 1]? = some before → judged before.heat fun i =>
        match before.caverns[i] with | some e => e.mass | none => copy.caverns[i].startMass) ∧
      sl.interval = copy.interval + k ∧
      sl.net = netPower copy k ∧
      sl.chargeCap = (if k = 0 ∧ copy.trip = true then 0 else copy.chargeCaps.getD k 0) ∧
      sl.dischargeCap = (if k = 0 ∧ (copy.trip = true ∨ copy.storeStatus = .unknown) then 0
        else copy.dischargeCaps.getD k 0) ∧
      (sl.status = .fail .grid ↔ (copy.importLimit : Int) < sl.net ∨ (copy.exportLimit : Int) < -sl.net) ∧
      (sl.status = .fail .capacity ↔ ¬grid ∧ beyond) ∧
      (sl.status = .fail .changeover ↔ ¬grid ∧ ¬beyond ∧ opposed) ∧
      (k = 0 → (sl.heat, sl.dump)
        = ((heatStage copy (min copy.startContent copy.capacity) moved).1,
          (heatStage copy (min copy.startContent copy.capacity) moved).2.2)) ∧
      (∀ before, 0 < k → (runTable copy)[k - 1]? = some before →
        (sl.heat, sl.dump) = ((heatStage copy before.heat moved).1, (heatStage copy before.heat moved).2.2)) ∧
      (∀ i : Fin 4,
        (copy.caverns[i].inService = false → sl.caverns[i] = none) ∧
        (copy.caverns[i].inService = true →
          (k = 0 → sl.caverns[i].map CavernEnd.mass = some (endMass copy.caverns dM copy.caverns[i].startMass i)) ∧
          (∀ before e, 0 < k → (runTable copy)[k - 1]? = some before → before.caverns[i] = some e →
            sl.caverns[i].map CavernEnd.mass = some (endMass copy.caverns dM e.mass i))) ∧
        ∀ e, sl.caverns[i] = some e → e.pressure = copy.caverns[i].table.recordedPressure e.mass) ∧
      sl.status ≠ .noStatus ∧ sl.status ≠ .fail .late ∧
      sl.heat ≤ copy.capacity ∧
      (sl.status = .ok → sl.failCavern = 0)

/-- R43, R44: the split of a slot's mass change, and the judgement of the caverns. With eligible weight W above 0 every
eligible cavern takes the floored share by weight, the lowest-numbered one the remainder too, and the signed shares sum to dM
exactly; a cavern that is not eligible keeps its mass; with W = 0 no mass changes, and the slot is marked NO_CAVERN exactly
where its net power is not 0. An eligible cavern's end mass is its mass plus its share, floored at 0; it fails with TABLE_RANGE
alone where either mass lies outside its table, else with MASS_LOW or MASS_HIGH by its end pressure and with RATE by the
change; the slot takes the first failure of the lowest-numbered cavern that has one. -/
def Obligations.SharesSumToMassChange : Prop :=
  ∀ (copy : RunCopy) (dM : Int),
    let cav := copy.caverns
    let eligible := fun i : Fin 4 => cav[i].inService = true ∧ 1 ≤ cav[i].weight ∧ cav[i].weight ≤ 15 ∧
      (cav[i].status = .good ∨ cav[i].status = .held)
    let W := ((List.finRange 4).map fun i => if cav[i].eligible then cav[i].weight else 0).sum
    (∀ i : Fin 4, cav[i].eligible = true ↔ eligible i) ∧
    (0 < W →
      signedShare cav dM 0 + signedShare cav dM 1 + signedShare cav dM 2 + signedShare cav dM 3 = dM ∧
      (∀ i : Fin 4, eligible i → (∃ j : Fin 4, j < i ∧ eligible j) →
        (signedShare cav dM i).natAbs = dM.natAbs * cav[i].weight / W) ∧
      (∀ i : Fin 4, eligible i → (∀ j : Fin 4, j < i → ¬eligible j) →
        (signedShare cav dM i).natAbs = dM.natAbs * cav[i].weight / W +
          (dM.natAbs - ((List.finRange 4).map fun j =>
            if cav[j].eligible then dM.natAbs * cav[j].weight / W else 0).sum)) ∧
      (∀ i : Fin 4, (0 ≤ dM → 0 ≤ signedShare cav dM i) ∧ (dM ≤ 0 → signedShare cav dM i ≤ 0))) ∧
    (∀ (i : Fin 4) (m : Nat), ¬eligible i → endMass cav dM m i = m) ∧
    (∀ (k : Nat) (n : Int) (c : Carry) (masses : Vector Nat 4),
      (.noCavern, 0) ∈ slotFailures copy k n c masses ↔ W = 0 ∧ n ≠ 0) ∧
    (∀ (i : Fin 4) (m : Nat), eligible i → endMass cav dM m i = ((m : Int) + signedShare cav dM i).toNat) ∧
    (∀ (i : Fin 4) (m m' : Nat),
      let t := cav[i].table
      let held := fun x : Nat => t.m0 ≤ x ∧ x ≤ t.m0 + 16 * t.step
      let p := t.pressure m
      let p' := t.pressure m'
      let marks := cavernFailures cav[i] m m'
      (¬(held m ∧ held m') → marks = [.tableRange]) ∧
      (held m → held m' →
        (.massLow ∈ marks ↔ p' < cav[i].pMin) ∧ (.massHigh ∈ marks ↔ cav[i].pMin ≤ p' ∧ cav[i].pMax < p') ∧
        (.rate ∈ marks ↔ cav[i].rateLimit < max p p' - min p p') ∧ .tableRange ∉ marks ∧
        ∀ r rest, marks = r :: rest → (r = .rate → rest = []) ∧ (r ≠ .rate → rest = [] ∨ rest = [.rate]))) ∧
    (∀ (k : Nat) (n : Int) (c : Carry) (masses : Vector Nat 4) (r : Reason) (i : Fin 4),
      let marks := slotFailures copy k n c masses
      ((r, i.val + 1) ∈ marks ↔ eligible i ∧ r ∈ cavernFailures cav[i] c.masses[i] masses[i]) ∧
      ∀ rest, marks = (r, i.val + 1) :: rest →
        (cavernFailures cav[i] c.masses[i] masses[i]).head? = some r ∧
        ∀ j : Fin 4, j < i → eligible j → cavernFailures cav[j] c.masses[j] masses[j] = [])

/-- R40 to R42: stages 5 and 6, the heat content at the end of a slot from the content `h` at its start, and the change of air
mass, by the sign of the net power `n` as the stages take it; with one factor for both directions a discharge moves exactly
the mass that a charge of its magnitude would. That a slot which reaches the capacity exactly is marked DUMP is read from
R83 (DEDUCED, log entry 38). -/
def Obligations.HeatAndMassByDirection : Prop :=
  ∀ (copy : RunCopy) (h : Nat) (n : Int),
    let kept := h - h * copy.lossPpm / 1000000
    let heatIn := (2 * (n.natAbs * copy.capturePermille) + 12000) / 24000
    let draw := (2 * (n.natAbs * copy.drawPermille) + 12000) / 24000
    (0 < n → heatStage copy h n = (min copy.capacity (kept + heatIn), false, decide (copy.capacity ≤ kept + heatIn))) ∧
    (n < 0 → copy.heatFloor + draw ≤ kept → heatStage copy h n = (kept - draw, false, false)) ∧
    (n < 0 → kept < copy.heatFloor + draw → heatStage copy h n = (kept - draw, true, false)) ∧
    (n = 0 → heatStage copy h n = (kept, false, false)) ∧
    (0 < n → massChange copy n = (((2 * (n.natAbs * copy.yieldG) + 12000) / 24000 : Nat) : Int)) ∧
    (n < 0 → massChange copy n = -(((2 * (n.natAbs * copy.useG) + 12000) / 24000 : Nat) : Int)) ∧
    (n = 0 → massChange copy n = 0) ∧
    (copy.yieldG = copy.useG → massChange copy (-n) = -massChange copy n) ∧
    (∀ factor : Nat,
      let q := roundDiv (n.natAbs * factor) 12000
      q * 12000 ≤ n.natAbs * factor + 6000 ∧ n.natAbs * factor < q * 12000 + 6000)

/-- R52, R54, R55, R58: the engine at the boundary into `n`. The flag is set, the run abandoned, the table shifted with a
new slot 287 of status NONE that carries the masses and the heat on, slot 0 closed, a copy superseded; an admission run
that has its subject starts afresh from a new copy, and any other run is not restarted. That an invalid table leaves the
copy's mark (DEDUCED, log entry 13) and that the fresh run copies its inputs at the engine's own turn (DEDUCED, log entry 12)
are the model's. -/
def Obligations.EngineTakesBoundary : Prop :=
  ∀ (n : Nat) (s : State),
    let t := engineBoundary n s
    t.engine.flag = true ∧ t.engine.runCount = s.engine.runCount ∧ t.queue = s.queue ∧ t.book = s.book ∧
    (s.engine.live = none → t.engine.live = none ∧ t.engine.closed = none ∧ t.engine.snap = s.engine.snap) ∧
    (∀ first mid last, s.engine.live = some (first :: (mid ++ [last])) →
      let next : ProjSlot := ⟨n + 287, 0, 0, 0, last.caverns, last.heat, false, .noStatus, 0⟩
      t.engine.live = some (mid ++ [last, next]) ∧
      t.engine.closed = some first ∧ t.engine.snap = { s.engine.snap with superseded := true }) ∧
    (s.engine.run = none → t.engine.run = none) ∧
    (∀ run, s.engine.run = some run →
      ((run.kind = .verification ∨ run.subject = none) → t.engine.run = none) ∧
      (∀ key, run.subject = some key → run.kind = .admitting →
        t.engine.run = some ⟨.admitting, some key, false, copyInputs s (some ⟨key, .admitting⟩)⟩) ∧
      (∀ key, run.subject = some key → run.kind = .amend →
        t.engine.run = some ⟨.amend, some key, false, copyInputs s (some ⟨key, .amend⟩)⟩))

/-! ### Caverns and heat store (chapters 3 and 4) -/

/-- R66, R67, R78, R63: SET_CAVERN and LOAD_CAVERN_TABLE: what they refuse, and what one that is taken writes. A SET_CAVERN
judges the inhibit again, by R78: none out of service, at weight 0 or with no voted pressure, no discharge below p_min, no
charge above p_max, else none. One that gives the value already held changes the settings alone, and a changed one raises
CAVERN_LIMIT and makes the dispatch unit recompute. A new table re-forms the mass from the held pressure. That an in_service
code other than 0 and 1 is a bad value is the model's choice (log entry 15). -/
def Obligations.CavernSettings : Prop :=
  (∀ (p : CavernParams) (s : State), s.port.state = .idle → s.nv.saving = none →
    let inRange := (∀ v ∈ p.inService, v ≤ 1) ∧ (∀ v ∈ p.weight, v ≤ 15) ∧ (∀ v ∈ p.pMin, v ≤ 30000) ∧
      (∀ v ∈ p.pMax, v ≤ 30000) ∧ (∀ v ∈ p.rateLimit, 1 ≤ v ∧ v ≤ 500) ∧ (∀ v ∈ p.driftLimit, v ≤ 50000000)
    (p.number = 0 ∨ 4 < p.number → exec (.setCavern p) s = .next (s.answered .badValue .empty)) ∧
    ∀ i : Fin 4, p.number = i.val + 1 →
      let old := s.cfg.caverns[i]
      let new : CavernCfg := { old with
        inService := (p.inService.map fun v => v == 1).getD old.inService
        weight := p.weight.getD old.weight, pMin := p.pMin.getD old.pMin, pMax := p.pMax.getD old.pMax
        rateLimit := p.rateLimit.getD old.rateLimit, driftLimit := p.driftLimit.getD old.driftLimit }
      let runsRead := decide ((new.inService, new.weight, new.pMin, new.pMax, new.rateLimit)
        ≠ (old.inService, old.weight, old.pMin, old.pMax, old.rateLimit))
      let ban : Inhibit := match s.caverns[i].votedP with
        | none => .noBan
        | some v =>
          if new.inService = false ∨ new.weight = 0 then .noBan
          else if v < new.pMin then .noDischarge else if new.pMax < v then .noCharge else .noBan
      (¬inRange ∨ new.pMax ≤ new.pMin → exec (.setCavern p) s = .next (s.answered .badValue .empty)) ∧
      (inRange → new.pMin < new.pMax → ban = s.caverns[i].inhibit →
        exec (.setCavern p) s = .next ((setVerifyIf runsRead
          { s with cfg := { s.cfg with caverns := s.cfg.caverns.set i new } }).answered .done .empty)) ∧
      (inRange → new.pMin < new.pMax → ban ≠ s.caverns[i].inhibit →
        exec (.setCavern p) s = .next (reply .done (recompute (raise .cavernLimit (setVerifyIf runsRead
          { s.taken with
            cfg := { s.cfg with caverns := s.cfg.caverns.set i new }
            caverns := s.caverns.set i { s.caverns[i] with inhibit := ban } })))))) ∧
  (∀ (p : CavernTableParams) (s : State), s.port.state = .idle → s.nv.saving = none →
    let good := 1 ≤ p.step ∧ p.step ≤ 250000000 ∧ p.m0 + 16 * p.step ≤ 4000000000 ∧
      (∀ k : Fin 17, p.pressures[k] ≤ 30000) ∧ (∀ k : Fin 16, p.pressures[k.castSucc] ≤ p.pressures[k.succ])
    (p.number = 0 ∨ 4 < p.number ∨ ¬good → exec (.loadCavernTable p) s = .next (s.answered .badValue .empty)) ∧
    ∀ i : Fin 4, p.number = i.val + 1 → good →
      let w := s.caverns[i]
      let t : MassTable := ⟨p.m0, p.step, p.pressures⟩
      let written : State := { s with
        cfg := { s.cfg with caverns := s.cfg.caverns.set i { s.cfg.caverns[i] with table := t } } }
      (w.votedP = none → w.measured = none →
        exec (.loadCavernTable p) s = .next ((setVerify written).answered .done .empty)) ∧
      (∀ v, w.votedP = some v →
        let q := t.mass v
        let w' : CavernWork := { w with
          measured := some q.1, tableFlag := q.2, startMass := if w.status = .unknown then w.startMass else q.1 }
        exec (.loadCavernTable p) s = .next ((setVerify (raiseIf (decide (q.2 ≠ .inTable ∧ q.2 ≠ w.tableFlag)) .drift
          { written with caverns := s.caverns.set i w' })).answered .done .empty)))

/-- R64: the forward map P(m) by its three steps, for a table that never decreases; P never decreases, lies between its two
ends, reaches p_16 at the top of the range, and a slot record carries the pressure at the nearer end outside it. -/
def Obligations.ForwardMapFollowsTable : Prop :=
  ∀ t : MassTable, 1 ≤ t.step → (∀ k : Fin 16, t.p[k.castSucc] ≤ t.p[k.succ]) →
    let top := t.m0 + 16 * t.step
    (∀ (m : Nat) (i : Fin 16), t.m0 ≤ m → m ≤ top → i.val = min 15 ((m - t.m0) / t.step) →
      t.pressure m = t.p[i.castSucc]
        + (t.p[i.succ] - t.p[i.castSucc]) * (m - t.m0 - i.val * t.step) / t.step) ∧
    t.pressure top = t.p[16] ∧
    (∀ m m', t.m0 ≤ m → m ≤ m' → m' ≤ top → t.pressure m ≤ t.pressure m') ∧
    (∀ m, t.m0 ≤ m → m ≤ top → t.p[0] ≤ t.pressure m ∧ t.pressure m ≤ t.p[16]) ∧
    (∀ m, t.recordedPressure m = if m < t.m0 then t.p[0] else if top < m then t.p[16] else t.pressure m)

/-- R65, R79: the inverse map M(p) with its table flag, and that a mass taken from a pressure within or above the table never
projects to a pressure above it. -/
def Obligations.InverseMapNeverAbove : Prop :=
  ∀ t : MassTable, 1 ≤ t.step → (∀ k : Fin 16, t.p[k.castSucc] ≤ t.p[k.succ]) →
    (∀ p, p < t.p[0] → t.mass p = (t.m0, .belowTable)) ∧
    (∀ p, t.p[16] ≤ p → t.p[0] ≤ p → t.mass p = (t.m0 + 16 * t.step, .aboveTable)) ∧
    (∀ (p : Nat) (i : Fin 16), t.p[i.castSucc] ≤ p → p < t.p[i.succ] →
      t.mass p = (t.m0 + i.val * t.step
        + (p - t.p[i.castSucc]) * t.step / (t.p[i.succ] - t.p[i.castSucc]), .inTable)) ∧
    (∀ p, t.p[0] ≤ p → p < t.p[16] → ∃ i : Fin 16, t.p[i.castSucc] ≤ p ∧ p < t.p[i.succ]) ∧
    (∀ p, t.m0 ≤ (t.mass p).1 ∧ (t.mass p).1 ≤ t.m0 + 16 * t.step) ∧
    (∀ p, t.p[0] ≤ p → t.pressure (t.mass p).1 ≤ p)

/-- R70 to R74, R78, R156: what a cavern takes. A vote outcome, whatever its status: the disagree flags, and for a GOOD vote the
pressure, the mass, the inhibit, the trust, and the start mass where the cavern's was not a good one before. A boundary: the
hold age with UNKNOWN at the hold limit, the start mass, and the drift against the end mass that the live table expected for
the interval just ended, found in the closed slot or, where the engine has not shifted yet, in the live table (log entry 36).
The scanner's boundary hands NO_MAJORITY to a cavern that was handed no outcome, and clears every mark; that the record of the
last vote then stands as it was is the model's (DEDUCED, log entry 21). The inhibit of a GOOD vote is R78's judgement. -/
def Obligations.CavernTakesVotesAndBoundaries : Prop :=
  ∀ (i : Fin 4) (flags : Disagree) (s : State),
    let w := s.caverns[i]
    (∀ ended : Nat,
      let age := if w.status = .good then w.holdAge else if w.holdAge < 65535 then w.holdAge + 1 else 65535
      let lost := w.status = .held ∧ s.cfg.site.holdLimit ≤ age
      let status : Trust := if lost then .unknown else w.status
      let start := if status = .unknown then w.startMass else w.measured.getD w.startMass
      let expected := endedMass s ended i
      let drift : Option Int := if status = .unknown then none
        else w.measured.bind fun m => expected.map fun e => (m : Int) - e
      let beyond := drift.any fun d => decide (s.cfg.caverns[i].driftLimit < d.natAbs)
      let t := cavernBoundary ended i s
      t.caverns = s.caverns.set i { w with status := status, holdAge := age, startMass := start, drift := drift } ∧
      t.engine = (setVerifyIf (decide (start ≠ w.startMass)) s).engine ∧
      t.notices = (raiseIf beyond .drift (raiseIf (decide lost) .cavernUnknown s)).notices ∧
      { t with caverns := s.caverns, engine := s.engine, notices := s.notices } = s ∧
      (∀ sl, s.engine.closed = some sl → sl.interval = ended → expected = sl.caverns[i].map CavernEnd.mass) ∧
      ((∀ sl, s.engine.closed = some sl → sl.interval ≠ ended) →
        (∀ sl rest, s.engine.live = some (sl :: rest) → sl.interval = ended →
          expected = sl.caverns[i].map CavernEnd.mass) ∧
        (s.engine.live = none → expected = none)) ∧
      (cavernsBoundary ended s).caverns[i] = t.caverns[i]) ∧
    ((scannerBoundary s).scan = { s.scan with handed := Vector.replicate 4 false } ∧
      (scannerBoundary s).caverns[i] = if s.scan.handed[i] = true then w
        else (takeVote i .noMajority s.scan.flags[i] s).caverns[i]) ∧
    (∀ p,
      let t := takeVote i (.good p) flags s
      let q := s.cfg.caverns[i].table.mass p
      let c := s.cfg.caverns[i]
      let ban : Inhibit := if c.inService = false ∨ c.weight = 0 then .noBan
        else if p < c.pMin then .noDischarge else if c.pMax < p then .noCharge else .noBan
      let fresh := w.status = .unknown ∨ (w.status = .held ∧ w.votedP = none)
      t.caverns = s.caverns.set i { w with
        votedP := some p, status := .good, holdAge := 0
        measured := some q.1, startMass := if fresh then q.1 else w.startMass
        inhibit := ban, disagree := flags, tableFlag := q.2 } ∧
      t.engine = (setVerifyIf (decide fresh) s).engine ∧
      t.notices = (raiseIf (decide (ban ≠ w.inhibit)) .cavernLimit
        (raiseIf (decide (q.2 ≠ .inTable ∧ q.2 ≠ w.tableFlag)) .drift
          (raiseIf (decide (flags ≠ w.disagree)) .sensorDisagree s))).notices ∧
      { t with caverns := s.caverns, engine := s.engine, notices := s.notices } = s) ∧
    (let t := takeVote i .noMajority flags s
      let held := w.status = .good
      t = raiseIf (decide held) .cavernHeld (raiseIf (decide (flags ≠ w.disagree)) .sensorDisagree
        { s with caverns := s.caverns.set i { w with
          disagree := flags, status := if held then .held else w.status
          holdAge := if held then 0 else w.holdAge } }))

/-- R84 to R87, R94: SET_STORE and LOAD_STORE_TABLE: what they refuse, and what one that is taken writes. -/
def Obligations.StoreSettings : Prop :=
  (∀ (p : StoreParams) (s : State), s.port.state = .idle → s.nv.saving = none →
    let old := s.cfg.store
    let new : StoreCfg := { old with
      capacity := p.capacity.getD old.capacity, heatFloor := p.heatFloor.getD old.heatFloor
      capturePermille := p.capturePermille.getD old.capturePermille
      drawPermille := p.drawPermille.getD old.drawPermille, lossPpm := p.lossPpm.getD old.lossPpm
      yieldG := p.yieldG.getD old.yieldG, useG := p.useG.getD old.useG
      tMaxCharge := p.tMaxCharge.getD old.tMaxCharge, tMinDischarge := p.tMinDischarge.getD old.tMinDischarge }
    let inRange := (∀ v ∈ p.capacity, v ≤ 4000000) ∧ (∀ v ∈ p.capturePermille, v ≤ 1000) ∧
      (∀ v ∈ p.drawPermille, v ≤ 1000) ∧ (∀ v ∈ p.lossPpm, v ≤ 1000) ∧
      (∀ v ∈ p.yieldG, 1000 ≤ v ∧ v ≤ 20000) ∧ (∀ v ∈ p.useG, 1000 ≤ v ∧ v ≤ 20000) ∧
      (∀ v ∈ p.tMaxCharge, -400 ≤ v ∧ v ≤ 7000) ∧ (∀ v ∈ p.tMinDischarge, -400 ≤ v ∧ v ≤ 7000)
    let good := inRange ∧ new.heatFloor ≤ new.capacity ∧ new.tMinDischarge < new.tMaxCharge
    let runsRead := decide ((new.capacity, new.heatFloor, new.capturePermille, new.drawPermille, new.lossPpm, new.yieldG,
      new.useG) ≠ (old.capacity, old.heatFloor, old.capturePermille, old.drawPermille, old.lossPpm, old.yieldG,
      old.useG))
    let ban : Inhibit := match s.store.meanT with
      | none => .noBan
      | some t => if new.tMaxCharge < t then .noCharge else if t < new.tMinDischarge then .noDischarge else .noBan
    (¬good → exec (.setStore p) s = .next (s.answered .badValue .empty)) ∧
    (good → ban = s.store.inhibit →
      exec (.setStore p) s
        = .next ((setVerifyIf runsRead { s with cfg := { s.cfg with store := new } }).answered .done .empty)) ∧
    (good → ban ≠ s.store.inhibit →
      exec (.setStore p) s = .next (reply .done (recompute (raise .heatLimit (setVerifyIf runsRead
        { s.taken with cfg := { s.cfg with store := new }, store := { s.store with inhibit := ban } })))))) ∧
  (∀ (p : StoreTableParams) (s : State), s.port.state = .idle → s.nv.saving = none →
    let good := (∀ k : Fin 9, -400 ≤ p.temps[k] ∧ p.temps[k] ≤ 7000 ∧ p.contents[k] ≤ 4000000) ∧
      (∀ k : Fin 8, p.temps[k.castSucc] < p.temps[k.succ] ∧ p.contents[k.castSucc] ≤ p.contents[k.succ])
    let new : StoreCfg := { s.cfg.store with temps := p.temps, contents := p.contents }
    let written : State := { s with cfg := { s.cfg with store := new } }
    (¬good → exec (.loadStoreTable p) s = .next (s.answered .badValue .empty)) ∧
    (good → s.store.meanT = none → s.store.content = none →
      exec (.loadStoreTable p) s = .next (written.answered .done .empty)) ∧
    (∀ t, good → s.store.meanT = some t →
      let c := new.contentOf t
      let moves := s.store.status ≠ .unknown
      exec (.loadStoreTable p) s = .next ((setVerifyIf (decide (moves ∧ c ≠ s.store.startContent)) { written with
        store := { s.store with
          content := some c
          startContent := if moves then c else s.store.startContent } }).answered .done .empty)))

/-- R85, R88 to R92, R94: the heat store and its temperatures. The map C(t), for temperatures that rise strictly. A temperature
outcome counts the valid results within −400 to 7,000: with any, their floored mean, its content and the inhibit it calls for
are taken and the store is GOOD; with none, a GOOD store is HELD. A boundary judges silence, the hold age with UNKNOWN at the
hold limit, of which the dispatch unit recomputes, and the start content; a beginning takes the start content alone. At a
beginning by pulse an outcome counts from the pulse (log entry 43). -/
def Obligations.StoreFollowsTemperatures : Prop :=
  (∀ (results : List ChanResult) (s : State),
    let w := s.store
    let counted := (results.filterMap ChanResult.value).filter fun v => decide (-400 ≤ v ∧ v ≤ 7000)
    let t := takeTemperatures results s
    (counted = [] → t = raiseIf (decide (w.status = .good)) .heatLimit { s with store := { w with
      validCount := 0, heard := true
      status := if w.status = .good then .held else w.status
      holdAge := if w.status = .good then 0 else w.holdAge } }) ∧
    (counted ≠ [] →
      let mean := counted.sum.fdiv counted.length
      let ban : Inhibit := if s.cfg.store.tMaxCharge < mean then .noCharge
        else if mean < s.cfg.store.tMinDischarge then .noDischarge else .noBan
      let fresh := w.status = .unknown ∨ (w.status = .held ∧ w.meanT = none)
      t.store = { w with
        meanT := some mean, validCount := counted.length, content := some (s.cfg.store.contentOf mean)
        startContent := if fresh then s.cfg.store.contentOf mean else w.startContent
        status := .good, holdAge := 0, inhibit := ban, heard := true } ∧
      t.engine = (setVerifyIf (decide fresh) s).engine ∧
      t.notices = (raiseIf (decide (w.status ≠ .good ∨ ban ≠ w.inhibit)) .heatLimit s).notices ∧
      { t with store := s.store, engine := s.engine, notices := s.notices } = s)) ∧
  (∀ (ended n : Nat) (s : State),
    let w := s.store
    let silent := w.status = .good ∧ w.heard = false
    let held := silent ∨ w.status = .held
    let age := if silent then 1 else if w.status = .good then w.holdAge
      else if w.holdAge < 65535 then w.holdAge + 1 else 65535
    let lost := held ∧ s.cfg.site.holdLimit ≤ age
    let status : Trust := if lost then .unknown else if silent then .held else w.status
    let start := if status = .unknown then w.startContent else w.content.getD w.startContent
    let t := storeBoundary s
    t.store = { w with status := status, holdAge := age, startContent := start, heard := false } ∧
    t.engine = (setVerifyIf (decide (lost ∨ start ≠ w.startContent)) s).engine ∧
    t.notices = (raiseIf (decide (silent ∨ lost)) .heatLimit s).notices ∧
    { t with store := s.store, engine := s.engine, notices := s.notices } = s ∧
    takeBoundary ended n .store s = recomputeIf (decide lost) t ∧
    (storeBegin s).store = { w with
      startContent := if w.status = .unknown then w.startContent else w.content.getD w.startContent
      heard := false }) ∧
  ∀ (c : StoreCfg) (t : Int), (∀ k : Fin 8, c.temps[k.castSucc] < c.temps[k.succ]) →
    (t < c.temps[0] → c.contentOf t = c.contents[0]) ∧
    (c.temps[8] ≤ t → c.contentOf t = c.contents[8]) ∧
    (c.temps[0] ≤ t → t < c.temps[8] → ∃! i : Fin 8, c.temps[i.castSucc] ≤ t ∧ t < c.temps[i.succ]) ∧
    (∀ i : Fin 8, c.temps[i.castSucc] ≤ t → t < c.temps[i.succ] →
      c.contentOf t = c.contents[i.castSucc]
        + (c.contents[i.succ] - c.contents[i.castSucc]) * (t - c.temps[i.castSucc]).toNat
          / (c.temps[i.succ] - c.temps[i.castSucc]).toNat)

/-! ### Reads of whole records, and refused requests -/

/-- R68, R95, R140, R118, R158, R170, R201, R190: the reads answer DONE with the record as it stands, a number outside its
range BAD_VALUE, and they change nothing but the port (READ_TRAIN takes a free value for its rounding: log entry 7). A request
that no command acts on is refused: a short frame or parameters that do not fit BAD_VALUE, an unknown code UNKNOWN_COMMAND.
The model's own: READ_TRAIN's first interval is absent while the clock is UNSET or ARMED (DEDUCED, log entry 40), its address
is that of the kind and index as they stand (DEDUCED, log entry 46), and parameters that do not fit are BAD_VALUE in every
state, a save in flight too (DEDUCED, log entry 17). -/
def Obligations.ReadsAndRefusals : Prop :=
  ∀ s : State, s.port.state = .idle →
    (∀ i : Fin 4, exec (.readCavern (i.val + 1)) s = .next (s.answered .done
      (.cavern (i.val + 1) s.cfg.caverns[i] s.caverns[i] (transducersOf s.cfg.channels i)))) ∧
    (∀ n, n = 0 ∨ 4 < n → exec (.readCavern n) s = .next (s.answered .badValue .empty)) ∧
    exec .readStore s = .next (s.answered .done (.store s.cfg.store s.store (sensorsOf s.cfg.channels))) ∧
    exec .readDispatch s = .next (s.answered .done (.dispatch s.disp)) ∧
    (∀ i : Fin 8,
      let w := s.trains[i]
      let from_ := if s.cfg.trains[i].configured = false ∨ s.clock.mode = .unset ∨ s.clock.mode = .armed then none
        else match w.state with
          | .starting => some s.clock.interval
          | .running => some s.clock.interval
          | .ready => some (s.clock.interval + s.cfg.trains[i].startLead)
          | .resting => some (s.clock.interval + w.restCount + s.cfg.trains[i].startLead)
          | _ => none
      ∃ left : Option Nat,
        exec (.readTrain (i.val + 1)) s = .next (({ s with free := s.free + 1 } : State).answered .done
          (.train (i.val + 1) s.cfg.trains[i] w s.cfg.trains[i].address from_ left)) ∧
        left.isSome = w.timer.isSome ∧
        ∀ t sec, w.timer = some t → left = some sec →
          (t.expiry - s.now) / 1000 ≤ sec ∧ sec * 1000 < (t.expiry - s.now) + 1000) ∧
    (∀ n, n = 0 ∨ 8 < n → exec (.readTrain n) s = .next (s.answered .badValue .empty)) ∧
    (∀ ch : Fin 24, exec (.readChannel ch.val) s = .next (s.answered .done (.channel
      { cfg := s.cfg.channels[ch], result := s.scan.results[ch], mark := s.scan.marks[ch]
        snap := s.scan.copy.map fun c => c.results[ch]
        vote := match s.cfg.channels[ch].role with
          | .cavernPressure i _ => s.scan.votes[i]
          | _ => none
        scanning := !s.cfg.scanList.isEmpty, passCount := s.scan.passCount, scanList := s.cfg.scanList
        snapPending := s.scan.snapPending, snapStamp := s.scan.copy.map fun c => (c.pass, c.interval) }))) ∧
    (∀ n, 24 ≤ n → exec (.readChannel n) s = .next (s.answered .badValue .empty)) ∧
    exec .readClock s = .next (s.answered .done (.clock
      { mode := s.clock.mode, interval := s.clock.interval, armed := s.clock.armed
        elapsed := if s.clock.mode = .unset ∨ s.clock.mode = .armed then none else some (s.now - s.clock.origin)
        remaining := s.clock.expiry.map fun e => e - s.now
        absorbOpen := s.clock.absorbOpen, earlyCount := s.clock.earlyCount, timerCount := s.clock.timerCount
        lastOffset := s.clock.lastOffset })) ∧
    exec .identify s = .next (s.answered .done (.identity s.nv.source s.nv.saving.isSome s.nv.lastSave)) ∧
    exec (.unknownCommand .shortFrame) s = .next (s.answered .badValue .empty) ∧
    (∀ code, exec (.unknownCommand (.unknownCode code)) s = .next (s.answered .unknownCommand .empty)) ∧
    (∀ code, exec (.unknownCommand (.misfit code)) s = .next (s.answered .badValue .empty))

/-! ### The train roster (chapter 5) -/

/-- R105, R117, R129, R131, R179, R182: what follows an entry's move into a state. The changeover record takes the kind of an
entry that leaves RUNNING; the setpoint stays in STARTING, RUNNING and LOST alone; a newly bound entry's poll falls due at
once and its failure count is 0, an unbound entry has no poll mark; verification is set pending on a change of group and
on every entry into RESTING. Nothing else changes. That the setpoint is dropped on entering READY too (DEDUCED, log entry 9) and
that the mark of a due poll holds no moment (DESIGN CHOICE, log entry 39) are the model's. -/
def Obligations.EntryEntersState : Prop :=
  ∀ (i : Fin 8) (new : TrainState) (timer : Option Timer) (s : State),
    let old := s.trains[i].state
    let group : TrainState → Nat := fun st => match st with
      | .starting => 0 | .running => 0 | .ready => 1 | .resting => 1 | _ => 2
    let binds := fun st : TrainState => decide (st ≠ .absent ∧ st ≠ .withdrawn)
    let t := moveTrain i new timer s
    t.trains = s.trains.set i { s.trains[i] with state := new, timer := timer } ∧
    t.disp = { s.disp with
      changeKind := if old = .running ∧ new ≠ .running then some s.cfg.trains[i].kind else s.disp.changeKind
      changeCount := if old = .running ∧ new ≠ .running then 0 else s.disp.changeCount
      setpoints := if new = .starting ∨ new = .running ∨ new = .lost then s.disp.setpoints
        else s.disp.setpoints.set i none } ∧
    t.link = { s.link with
      polls := if binds new = false then s.link.polls.set i none
        else if binds old then s.link.polls else s.link.polls.set i (some ⟨true, none⟩)
      counters := if binds new && !binds old
        then s.link.counters.set i { s.link.counters[i] with consecutive := 0 } else s.link.counters } ∧
    t.engine = (setVerifyIf (decide (group old ≠ group new ∨ new = .resting)) s).engine ∧
    { t with trains := s.trains, disp := s.disp, link := s.link, engine := s.engine } = s

/-- R99, R100, R125: the gates of SET_TRAIN in their order; a taken one writes the given fields together and has R100's effects.
An entry newly configured is ABSENT with no bind_fault; one whose configured is cleared is ABSENT without outages, bind_fault,
last report, setpoint and poll mark; a new kind or index of an ABSENT entry drops its bind_fault. An IDENT is withdrawn, put
in line, or put in line as the one in flight ends (log entry 20), and the outcome of a transaction in flight is disowned, as
the table says. A change of rating or start lead sets verification pending, a changed rating cuts a LOST entry's held value,
and a changed rating or state makes the dispatch unit recompute. Nothing else changes. -/
def Obligations.SetTrainGatesAndEffects : Prop :=
  ∀ (p : TrainParams) (s : State), s.port.state = .idle → s.nv.saving = none →
    (p.entry = 0 ∨ 8 < p.entry → exec (.setTrain p) s = .next (s.answered .badValue .empty)) ∧
    ∀ i : Fin 8, p.entry = i.val + 1 →
      let old := s.cfg.trains[i]
      let w := s.trains[i]
      let new : TrainCfg :=
        { configured := (p.configured.map fun v => v == 1).getD old.configured
          kind := (p.kind.map fun v => if v = 0 then TrainKind.compressor else .expander).getD old.kind
          index := p.index.getD old.index
          name := (p.name.map fun v => v.toList.takeWhile fun c => c != 0).getD old.name
          holdRating := (p.holdRating.map fun v => v == 1).getD old.holdRating
          ratedKw := p.ratedKw.getD old.ratedKw, minStableKw := p.minStableKw.getD old.minStableKw
          priority := p.priority.getD old.priority, startLead := p.startLead.getD old.startLead
          minRun := p.minRun.getD old.minRun, minRest := p.minRest.getD old.minRest
          startTimeout := p.startTimeout.getD old.startTimeout, stopTimeout := p.stopTimeout.getD old.stopTimeout }
      let nameOk := ∀ v ∈ p.name, ∃ n : Nat, 1 ≤ n ∧ n ≤ 12 ∧
        ∀ k : Fin 12, (k.val < n → 1 ≤ v[k] ∧ v[k] ≤ 40) ∧ (n ≤ k.val → v[k] = 0)
      let inRange := (∀ v ∈ p.configured, v ≤ 1) ∧ (∀ v ∈ p.kind, v ≤ 1) ∧ (∀ v ∈ p.index, v ≤ 7) ∧ nameOk ∧
        (∀ v ∈ p.holdRating, v ≤ 1) ∧ (∀ v ∈ p.ratedKw, 1000 ≤ v ∧ v ≤ 150000) ∧
        (∀ v ∈ p.minStableKw, v ≤ 150000) ∧ (∀ v ∈ p.priority, v ≤ 15) ∧ (∀ v ∈ p.startLead, v ≤ 6) ∧
        (∀ v ∈ p.minRun, 1 ≤ v ∧ v ≤ 24) ∧ (∀ v ∈ p.minRest, v ≤ 24) ∧
        (∀ v ∈ p.startTimeout, 30 ≤ v ∧ v ≤ 1800) ∧ (∀ v ∈ p.stopTimeout, 30 ≤ v ∧ v ≤ 1800)
      let taken_ := new.configured = true ∧ ∃ j : Fin 8, j ≠ i ∧ s.cfg.trains[j].configured = true ∧
        s.cfg.trains[j].kind = new.kind ∧ s.cfg.trains[j].index = new.index
      let good := inRange ∧ new.minStableKw ≤ new.ratedKw ∧ ¬taken_
      let locked := old.configured = true ∧ w.state ≠ .absent ∧ w.state ≠ .withdrawn ∧
        (new.configured ≠ old.configured ∨ new.kind ≠ old.kind ∨ new.index ≠ old.index)
      let written : State := { s with cfg := { s.cfg with trains := s.cfg.trains.set i new } }
      (¬good → exec (.setTrain p) s = .next (s.answered .badValue .empty)) ∧
      (good → locked → exec (.setTrain p) s = .next (s.answered .wrongState .empty)) ∧
      (good → ¬locked →
        let appears := old.configured = false ∧ new.configured = true
        let cleared := old.configured = true ∧ new.configured = false
        let placed := old.configured = true ∧ new.configured = true ∧ (new.kind ≠ old.kind ∨ new.index ≠ old.index)
        let renamed := old.configured = true ∧ new.configured = true ∧ new.name ≠ old.name
        let absent := w.state = .absent
        let rerated := new.ratedKw ≠ old.ratedKw ∨ new.minStableKw ≠ old.minStableKw
        let asks := appears ∨ (absent ∧ (placed ∨ renamed))
        let withdraws := cleared ∨ (absent ∧ placed)
        let inFlight := (s.link.slot.any fun x => decide (x.entry = some i ∧ x.origin = .ident)) = true
        let line := if withdraws then s.link.idents.filter fun j => j != i else s.link.idents
        let brought := fun v : Nat => if min v new.ratedKw < new.minStableKw then 0 else min v new.ratedKw
        let w' : TrainWork :=
          if appears then { w with state := .absent, bindFault := none }
          else if cleared then
            { w with state := .absent, timer := none, outages := [], bindFault := none, report := none }
          else if absent ∧ placed then { w with bindFault := none } else w
        let taken : State := setVerifyIf (decide (rerated ∨ new.startLead ≠ old.startLead)) { s.taken with
          cfg := written.cfg
          trains := s.trains.set i w'
          disp := { s.disp with
            setpoints := if cleared then s.disp.setpoints.set i none
              else if ¬appears ∧ rerated ∧ w.state = .lost then
                s.disp.setpoints.set i (s.disp.setpoints[i].map fun q => { q with held := brought q.held })
              else s.disp.setpoints }
          link := { s.link with
            polls := if cleared then s.link.polls.set i none else s.link.polls
            idents := if asks ∧ ¬inFlight ∧ i ∉ line then line ++ [i] else line
            slot := s.link.slot.map fun x => if x.entry = some i then { x with
              disowned := x.disowned || decide (cleared ∨ placed)
              identAfter := if asks ∧ inFlight then true else if withdraws then false else x.identAfter } else x } }
        exec (.setTrain p) s = .next (reply .done (recomputeIf (decide (rerated ∨ w'.state ≠ w.state)) taken))) ∧
      (good → new.configured = old.configured → new.kind = old.kind → new.index = old.index →
        new.name = old.name → new.ratedKw = old.ratedKw → new.minStableKw = old.minStableKw →
        new.startLead = old.startLead → exec (.setTrain p) s = .next (written.answered .done .empty)) ∧
      (good → old.configured = false → new.configured = true → w.state = .absent →
        new.ratedKw = old.ratedKw → new.minStableKw = old.minStableKw → new.startLead = old.startLead →
        i ∉ s.link.idents → (∀ x ∈ s.link.slot, x.entry ≠ some i) →
        exec (.setTrain p) s = .next (({ written with
          trains := s.trains.set i { w with bindFault := none }
          link := { s.link with idents := s.link.idents ++ [i] } } : State).answered .done .empty))

/-- R108, R112 to R115: SET_OUTAGE, WITHDRAW, RESTORE, RELEASE and REBIND: the number, then a configured entry, then the
state; a move of state is followed by a recompute of the dispatch unit (R117). A withdrawal takes back an IDENT that waits
for the end of a transaction too (log entry 20). That an outage list in another order differs from the one held (log
entry 42) and that a bad list is refused before an entry that is not configured (log entry 50) are the model's choice. -/
def Obligations.EntryCommands : Prop :=
  ∀ s : State, s.port.state = .idle →
    (∀ n, n = 0 ∨ 8 < n →
      (∀ l, exec (.setOutage ⟨n, l⟩) s = .next (s.answered .badValue .empty)) ∧
      exec (.withdraw n) s = .next (s.answered .badValue .empty) ∧
      exec (.restore n) s = .next (s.answered .badValue .empty) ∧
      exec (.release n) s = .next (s.answered .badValue .empty) ∧
      exec (.rebind n) s = .next (s.answered .badValue .empty)) ∧
    ∀ i : Fin 8,
      let n := i.val + 1
      let w := s.trains[i]
      let bad := fun l : List Window => 4 < l.length ∨ ∃ o ∈ l, o.last < o.first
      (∀ l, bad l → exec (.setOutage ⟨n, l⟩) s = .next (s.answered .badValue .empty)) ∧
      (s.cfg.trains[i].configured = false →
        (∀ l, ¬bad l → exec (.setOutage ⟨n, l⟩) s = .next (s.answered .noRecord .empty)) ∧
        exec (.withdraw n) s = .next (s.answered .noRecord .empty) ∧
        exec (.restore n) s = .next (s.answered .noRecord .empty) ∧
        exec (.release n) s = .next (s.answered .noRecord .empty) ∧
        exec (.rebind n) s = .next (s.answered .noRecord .empty)) ∧
      (s.cfg.trains[i].configured = true →
        (∀ l, ¬bad l → exec (.setOutage ⟨n, l⟩) s = .next ((setVerifyIf (decide (l ≠ w.outages))
          { s with trains := s.trains.set i { w with outages := l } }).answered .done .empty)) ∧
        ((w.state = .starting ∨ w.state = .running ∨ w.state = .stopping ∨ w.state = .withdrawn) →
          exec (.withdraw n) s = .next (s.answered .wrongState .empty)) ∧
        ((w.state = .ready ∨ w.state = .resting ∨ w.state = .lockedOut ∨ w.state = .lost ∨ w.state = .absent) →
          let t := moveTrain i .withdrawn none s.taken
          exec (.withdraw n) s = .next (reply .done (recompute { t with
            trains := t.trains.set i { w with state := .withdrawn, timer := none, lockout := none, runCount := 0 }
            link := { t.link with
              idents := s.link.idents.filter fun j => j != i
              slot := s.link.slot.map (Txn.withoutIdentAfter i) } }))) ∧
        (w.state ≠ .withdrawn → exec (.restore n) s = .next (s.answered .wrongState .empty)) ∧
        (w.state = .withdrawn →
          let t := moveTrain i .absent none s.taken
          exec (.restore n) s = .next (reply .done (recompute (putIdent i { t with
            trains := t.trains.set i { w with state := .absent, timer := none, bindFault := none } })))) ∧
        (w.state ≠ .lockedOut → exec (.release n) s = .next (s.answered .wrongState .empty)) ∧
        (w.state = .lockedOut →
          let t := moveTrain i .ready none s.taken
          exec (.release n) s = .next (reply .done (recompute { t with
            trains := t.trains.set i { w with state := .ready, timer := none, lockout := none } }))) ∧
        (w.state ≠ .absent → w.state ≠ .ready → w.state ≠ .withdrawn →
          exec (.rebind n) s = .next (s.answered .wrongState .empty)) ∧
        (w.state = .absent ∨ w.state = .withdrawn →
          exec (.rebind n) s = .next ((putIdent i s).answered .done .empty)) ∧
        (w.state = .ready →
          exec (.rebind n) s
            = .next (reply .done (recompute (putIdent i (moveTrain i .absent none s.taken))))))

/-- R107, R101, R111, R179: a start or stop timer that has run out in its state locks the entry out, the start timer with a STOP
to the train; a periodic IDENT that has fallen due joins the line, each entry once; a poll that falls due is marked, and the
mark then holds no moment until the grant (log entry 39). A timer or a moment that is not there changes nothing (log entry 2).
At a boundary a configured entry's run_count or rest_count moves, a rest that is over is READY, and windows that are past
leave; the dispatch unit then recomputes. -/
def Obligations.TimersAndBoundaryCounts : Prop :=
  (∀ (ended n : Nat) (s : State),
    let rested := fun i : Fin 8 =>
      s.cfg.trains[i].configured = true ∧ s.trains[i].state = .resting ∧ s.trains[i].restCount ≤ 1
    ∃ t : State, takeBoundary ended n .roster s = recompute t ∧
      (∀ i : Fin 8,
        let w := s.trains[i]
        t.disp.setpoints[i] = (if rested i then none else s.disp.setpoints[i]) ∧
        t.trains[i] = if s.cfg.trains[i].configured = false then w else { w with
          runCount := if w.state = .running then (if w.runCount < 255 then w.runCount + 1 else 255) else w.runCount
          restCount := if w.state = .resting then w.restCount - 1 else w.restCount
          state := if rested i then .ready else w.state
          timer := if rested i then none else w.timer
          outages := w.outages.filter fun o => decide (n ≤ o.last) }) ∧
      { t with trains := s.trains, disp := { t.disp with setpoints := s.disp.setpoints } } = s) ∧
  ∀ (i : Fin 8) (s : State),
    let n := i.val + 1
    let w := s.trains[i]
    let lockedOut := fun cause : LockoutCause =>
      let t := moveTrain i .lockedOut none s
      raise .trainFault
        { t with trains := t.trains.set i { w with state := .lockedOut, timer := none, lockout := some cause } }
    (∀ e, w.state = .starting → w.timer = some ⟨.start, e⟩ → e ≤ s.now →
      exec (.startTimerExpiry n) s = .next (recompute (issue ⟨i, .stop⟩ (lockedOut .startFail)))) ∧
    (∀ e, w.state = .stopping → w.timer = some ⟨.stop, e⟩ → e ≤ s.now →
      exec (.stopTimerExpiry n) s = .next (recompute (lockedOut .stopFail))) ∧
    (w.timer = none →
      exec (.startTimerExpiry n) s = .next s ∧ exec (.stopTimerExpiry n) s = .next s) ∧
    (∀ m, s.cfg.trains[i].configured = true → w.state = .absent → w.identDue = some m → m ≤ s.now →
      (i ∉ s.link.idents → (∀ x ∈ s.link.slot, x.entry ≠ some i) →
        exec (.periodicIdent n) s = .next { s with
          trains := s.trains.set i { w with identDue := none }
          link := { s.link with idents := s.link.idents ++ [i] } }) ∧
      (i ∈ s.link.idents →
        exec (.periodicIdent n) s = .next { s with trains := s.trains.set i { w with identDue := none } })) ∧
    (w.identDue = none → exec (.periodicIdent n) s = .next s) ∧
    (∀ due m, s.link.polls[i] = some ⟨due, some m⟩ → m ≤ s.now →
      exec (.pollDue n) s
        = .next { s with link := { s.link with polls := s.link.polls.set i (some ⟨true, none⟩) } }) ∧
    (∀ due, s.link.polls[i] = some ⟨due, none⟩ → exec (.pollDue n) s = .next s) ∧
    (s.link.polls[i] = none → exec (.pollDue n) s = .next s)

/-- R102 to R104, R106, R110, R125: where a reply moves its entry. A STATUS moves it by its state and the reported state and
becomes the last report; a train that runs unbidden is sent to STOPPING with a STOP, every entry into STOPPING starts the stop
timer, LOCKED_OUT and every other move out of STARTING or STOPPING leaves no timer, and a LOST train that is STARTING again
holds 0 (DEDUCED, log entry 34). An ANNOUNCE is checked by kind and then by name, IDENTITY raised where a fault is new; it binds
an ABSENT entry in the state it announces, with its ratings brought into range where hold_rating is clear, and moves no other
entry. Its kW and fault code are free (log entry 8), and the poll mark of an entry that it
binds holds no moment, for its poll is due (DESIGN CHOICE, log entry 39). -/
def Obligations.RepliesMoveEntries : Prop :=
  ∀ (i : Fin 8) (s : State),
    let w := s.trains[i]
    let cfg := s.cfg.trains[i]
    let stopDue := some (⟨.stop, s.now + cfg.stopTimeout * 1000⟩ : Timer)
    let stopIssued := enqueue ⟨i, .stop⟩ s.link.cmds
    (∀ r : Report,
      let t := takeStatus i r s
      let rested : TrainState := if cfg.minRest = 0 then .ready else .resting
      let other : TrainKind := match cfg.kind with | .compressor => .expander | .expander => .compressor
      let may := s.disp.setpoints[i] ≠ none ∧ ∀ j : Fin 8, s.cfg.trains[j].kind = other →
        s.trains[j].state ≠ .starting ∧ s.trains[j].state ≠ .running
      let runs := r.state = .starting ∨ r.state = .running
      let unbidden := ((w.state = .ready ∨ w.state = .resting) ∧ runs) ∨ (w.state = .lost ∧ runs ∧ ¬may)
      t.trains[i].report = some r ∧
      (∀ j : Fin 8, j ≠ i → t.trains[j] = s.trains[j]) ∧
      t.trains[i].state = (match w.state, r.state with
        | .ready, .starting => .stopping | .ready, .running => .stopping | .ready, .stopping => .stopping
        | .ready, .fault => .lockedOut
        | .starting, .running => .running | .starting, .stopping => .stopping | .starting, .fault => .lockedOut
        | .running, .stopped => rested | .running, .stopping => .stopping | .running, .fault => .lockedOut
        | .stopping, .stopped => rested | .stopping, .fault => .lockedOut
        | .resting, .starting => .stopping | .resting, .running => .stopping | .resting, .fault => .lockedOut
        | .lost, .fault => .lockedOut | .lost, .stopped => .resting | .lost, .stopping => .stopping
        | .lost, .running => if s.disp.setpoints[i].isSome && !anyUp s other then .running else .stopping
        | .lost, .starting => if s.disp.setpoints[i].isSome && !anyUp s other then .starting else .stopping
        | st, _ => st) ∧
      ((s.disp.setpoints[i].isSome && !anyUp s other) = true ↔ may) ∧
      (unbidden → t.link.cmds = stopIssued) ∧ (¬unbidden → t.link.cmds = s.link.cmds) ∧
      (t.trains[i].state = w.state → t.trains[i].timer = w.timer) ∧
      (t.trains[i].state ≠ w.state → t.trains[i].timer =
        if t.trains[i].state = .stopping then stopDue
        else if t.trains[i].state = .starting then some ⟨.start, s.now + cfg.startTimeout * 1000⟩ else none) ∧
      (t.trains[i].state = .starting → w.state = .lost →
        t.disp.setpoints[i] = s.disp.setpoints[i].map fun q => { q with held := 0 }) ∧
      (t.trains[i].state = .resting → w.state ≠ .resting → t.trains[i].restCount = cfg.minRest) ∧
      (t.trains[i].state = .running → w.state = .starting → t.trains[i].runCount = 0) ∧
      (t.trains[i].state = .running → w.state = .lost → t.trains[i].runCount = w.runCount) ∧
      (t.trains[i].state = .lockedOut → w.state ≠ .lockedOut →
        t.trains[i].lockout = some .reported ∧ t.notices = (raise .trainFault s).notices) ∧
      ((t.trains[i].state ≠ .lockedOut ∨ w.state = .lockedOut) →
        t.trains[i].lockout = w.lockout ∧ t.notices = s.notices) ∧
      (w.state = .absent ∨ w.state = .withdrawn ∨ w.state = .lockedOut →
        t = { s with trains := s.trains.set i { w with report := some r } })) ∧
    (∀ a : Announce,
      let t := takeAnnounce i a s
      let fault : Option BindFault :=
        if a.kind ≠ cfg.kind then some .kind else if a.name ≠ cfg.name then some .identity else none
      let newFault := fault ≠ none ∧ fault ≠ w.bindFault
      let rated := if cfg.holdRating = true then cfg.ratedKw else max 1000 (min 150000 a.ratedKw)
      let least := if cfg.holdRating = true then cfg.minStableKw else min rated a.minStableKw
      let rerated := rated ≠ cfg.ratedKw ∨ least ≠ cfg.minStableKw
      let ratings := { s.cfg with trains := s.cfg.trains.set i { cfg with ratedKw := rated, minStableKw := least } }
      (w.state = .absent → fault ≠ none → t = raiseIf (decide newFault) .identity
        { s with trains := s.trains.set i { w with bindFault := fault } }) ∧
      (w.state = .absent → fault = none → ∃ r : Report, r.state = a.state ∧ r.kw ≤ 150000 ∧ r.fault < 65536 ∧
        t.trains = s.trains.set i { w with
          bindFault := none, report := some r, timer := none
          state := match a.state with
            | .stopped => .ready | .fault => .lockedOut
            | .starting => .resting | .running => .resting | .stopping => .resting
          restCount := if a.state = .stopped ∨ a.state = .fault then w.restCount else cfg.minRest
          lockout := if a.state = .fault then some .reported else w.lockout } ∧
        t.cfg = ratings ∧
        t.link = { s.link with
          cmds := if a.state = .stopped ∨ a.state = .fault then s.link.cmds else stopIssued
          polls := s.link.polls.set i (some ⟨true, none⟩)
          counters := s.link.counters.set i { s.link.counters[i] with consecutive := 0 } } ∧
        t.disp = { s.disp with setpoints := s.disp.setpoints.set i none } ∧
        t.engine = (setVerifyIf (decide (a.state ≠ .fault ∨ rerated)) s).engine ∧
        t.notices = (raiseIf (decide (a.state = .fault)) .trainFault s).notices ∧
        { t with
          trains := s.trains, cfg := s.cfg, link := s.link, disp := s.disp, engine := s.engine, notices := s.notices
          free := s.free } = s) ∧
      (w.state ≠ .absent → ∃ r : Report, r.state = a.state ∧ r.kw ≤ 150000 ∧ r.fault < 65536 ∧
        let takes := w.state = .withdrawn ∧ fault = none
        t = { setVerifyIf (decide (takes ∧ rerated)) (raiseIf (decide newFault) .identity s) with
          trains := s.trains.set i { w with bindFault := fault, report := some r }
          cfg := if takes then ratings else s.cfg
          free := s.free + 1 }))

/-! ### Dispatch and delivery accounting (chapter 6) -/

/-- R123 to R125, R129: the target, its four clamps and SHORTFALL, and what a recompute leaves. T is the open tally's net power;
Tc is T within the grid limits, 0 while the trip or a ban on its kind stands, and no more than the ratings of the RUNNING
entries of its kind with the held values of the LOST ones; SHORTFALL is raised as the shortfall passes from 0. After a
recompute every RUNNING entry has been sent the value it holds, by a SET that waits where that value is new, and holds 0 only
where it is protected with a least stable power of 0; an entry that it sends to STOPPING has a STOP waiting, no SET, no
setpoint and a fresh stop timer; to an entry in any state but READY and RUNNING nothing is issued, and a STARTING entry's
setpoint stays. Everything but the roster, the dispatch unit, the command queue, the flag and SHORTFALL stays. A recompute is
one pass, and another for as long as a pass moves an entry (R134; the model's choice, log entry 11); what one pass allocates and
starts is MeritSharesInBand's and StartsOnlyWhenAllowed's. -/
def Obligations.RecomputeClampsAndActs : Prop :=
  (∀ s : State,
    let powers := fun (d : Direction) (t : OpenTally) =>
      (((t.members.filter fun m => decide (m.dir = d)).map Member.power).sum : Int)
    let rated := fun kind : TrainKind => (((List.finRange 8).filter fun i =>
      decide (s.cfg.trains[i].kind = kind ∧ s.trains[i].state = .running)).map fun i => s.cfg.trains[i].ratedKw).sum
    let lost := fun kind : TrainKind => (((List.finRange 8).filter fun i =>
      decide (s.cfg.trains[i].kind = kind ∧ s.trains[i].state = .lost)).map fun i =>
        match s.disp.setpoints[i] with | some q => q.held | none => 0).sum
    let target := match s.disp.openTally with | none => (0 : Int) | some t => powers .charge t - powers .discharge t
    let grid := max (-(s.cfg.site.exportLimit : Int)) (min (s.cfg.site.importLimit : Int) target)
    let cut := (0 < grid ∧ banAgainst s .compressor = true) ∨ (grid < 0 ∧ banAgainst s .expander = true) ∨
      s.disp.trip = true
    let allowed := if cut then 0 else grid
    let clamped := if 0 ≤ allowed then min allowed ((rated .compressor + lost .compressor : Nat) : Int)
      else max allowed (-((rated .expander + lost .expander : Nat) : Int))
    formTarget s = raiseIf (decide (s.disp.target = s.disp.clamped ∧ target ≠ clamped)) .shortfall
      { s with disp := { s.disp with target := target, clamped := clamped } } ∧
    (banAgainst s .compressor = true ↔ (∃ i : Fin 4, s.caverns[i].inhibit = .noCharge) ∨ s.store.inhibit = .noCharge) ∧
    (banAgainst s .expander = true ↔
      (∃ i : Fin 4, s.caverns[i].inhibit = .noDischarge) ∨ s.store.inhibit = .noDischarge ∨ s.store.status = .unknown) ∧
    (∀ t : State, t = recompute s →
      let ratedAfter := fun kind : TrainKind => (((List.finRange 8).filter fun i =>
        decide (s.cfg.trains[i].kind = kind ∧ t.trains[i].state = .running)).map fun i => s.cfg.trains[i].ratedKw).sum
      t.disp.target = target ∧ t.disp.clamped ≤ ((ratedAfter .compressor + lost .compressor : Nat) : Int) ∧
      -((ratedAfter .expander + lost .expander : Nat) : Int) ≤ t.disp.clamped ∧
      (s.disp.target = s.disp.clamped → t.disp.target ≠ t.disp.clamped → State.raised t .shortfall) ∧
      (∀ n : Notice, n ≠ .shortfall → (State.raised t n ↔ State.raised s n)) ∧
      ∀ i : Fin 8,
        (t.trains[i].state = .running → ∃ v, t.disp.setpoints[i] = some ⟨v, some v⟩ ∧
          (s.disp.setpoints[i].bind Setpoint.issued ≠ some v → (⟨i, .set v⟩ : Cmd) ∈ t.link.cmds) ∧
          (v = 0 → s.cfg.trains[i].minStableKw = 0 ∧ t.trains[i].runCount < s.cfg.trains[i].minRun ∧
            s.disp.trip = false)) ∧
        (s.trains[i].state = .running → t.trains[i].state = .stopping →
          (⟨i, .stop⟩ : Cmd) ∈ t.link.cmds ∧ (∀ v, (⟨i, .set v⟩ : Cmd) ∉ t.link.cmds) ∧ t.disp.setpoints[i] = none ∧
          t.trains[i].timer = some ⟨.stop, s.now + s.cfg.trains[i].stopTimeout * 1000⟩) ∧
        (s.trains[i].state ≠ .running → s.trains[i].state ≠ .ready →
          (∀ c : Cmd, c.entry = i → (c ∈ t.link.cmds ↔ c ∈ s.link.cmds)) ∧
          (s.trains[i].state = .starting → t.disp.setpoints[i] = s.disp.setpoints[i]) ∧
          (s.trains[i].state = .lost → t.disp.setpoints[i] = s.disp.setpoints[i] ∨
            t.disp.setpoints[i] = s.disp.setpoints[i].map fun q => { q with held := 0 })))) ∧
  (∀ s : State,
    ((∀ i : Fin 8, (recomputeOnce s).trains[i].state = s.trains[i].state) → recompute s = recomputeOnce s) ∧
    ((∃ i : Fin 8, (recomputeOnce s).trains[i].state ≠ s.trains[i].state) →
      recompute s = recompute (recomputeOnce s))) ∧
  ∀ s : State,
    let t := recompute s
    RecomputeFrame s t ∧
    t.disp.target = targetOf s ∧
    -(s.cfg.site.exportLimit : Int) ≤ t.disp.clamped ∧ t.disp.clamped ≤ s.cfg.site.importLimit ∧
    (0 ≤ t.disp.target → 0 ≤ t.disp.clamped ∧ t.disp.clamped ≤ t.disp.target) ∧
    (t.disp.target ≤ 0 → t.disp.target ≤ t.disp.clamped ∧ t.disp.clamped ≤ 0) ∧
    (s.disp.trip = true → t.disp.clamped = 0) ∧
    (banAgainst s .compressor = true → t.disp.clamped ≤ 0) ∧
    (banAgainst s .expander = true → 0 ≤ t.disp.clamped) ∧
    t.disp.trip = s.disp.trip ∧ t.disp.expanderHold = s.disp.expanderHold ∧ t.disp.openTally = s.disp.openTally ∧
    t.disp.closedTally = s.disp.closedTally ∧ t.disp.replyMarks = s.disp.replyMarks

/-- R132, R133, R105: an entry that a recompute takes from READY to STARTING: the trip is released, the live table is valid,
no entry of the other kind stands in STARTING, RUNNING or STOPPING, no ban stands against the kind, an expander finds no
hold, and the changeover record allows it; its START is in the command queue, its start timer runs, and it holds 0. A
recompute moves entries in no other way than from READY to STARTING and from RUNNING to STOPPING. One pass of it starts a READY
entry only where the entry is needed, and starts a needed one that R132 allows once the pass is over: with start lead L, the live
table's slot for c + L has a net power of the sign of its kind, the entry counts for slot L by its state and its outages, and the
ratings of the entries of its kind that count for slot L and stand before it in priority, then by number, sum to less than that
net power. That the need is judged on the roster as this pass's STOPs left it, before its STARTs, is the model's (DEDUCED, log
entry 35). -/
def Obligations.StartsOnlyWhenAllowed : Prop :=
  (∀ (s : State) (i : Fin 8), s.trains[i].state = .ready →
    let u := recomputeOnce s
    let cfg := fun j : Fin 8 => s.cfg.trains[j]
    let lead := (cfg i).startLead
    let n := s.clock.interval + lead
    let kind := (cfg i).kind
    let counts := fun j : Fin 8 =>
      (cfg j).configured && !(s.trains[j].outages.any fun o => decide (o.first ≤ n ∧ n ≤ o.last)) &&
        match s.trains[j].state with
        | .starting => true
        | .running => decide (u.trains[j].state = .running)
        | .ready => decide ((cfg j).startLead ≤ lead)
        | .resting => decide (s.trains[j].restCount + (cfg j).startLead ≤ lead)
        | _ => false
    let before := fun j : Fin 8 => (cfg j).priority < (cfg i).priority ∨ ((cfg j).priority = (cfg i).priority ∧ j < i)
    let ahead := (((List.finRange 8).filter fun j => decide ((cfg j).kind = kind) && counts j && decide (before j)).map
      fun j => (cfg j).ratedKw).sum
    let slot := s.engine.live.bind fun l => l.find? fun sl => decide (sl.interval = n)
    let needed := counts i && slot.any fun sl => decide (ahead < sl.net.natAbs) &&
      match kind with
      | .compressor => decide (0 < sl.net)
      | .expander => decide (sl.net < 0)
    (u.trains[i].state = .starting → needed = true) ∧
    (needed = true → s.disp.trip = false → banAgainst s kind = false → (kind = .expander → s.disp.expanderHold = false) →
      (u.disp.changeKind = none ∨ u.disp.changeKind = some kind ∨ s.cfg.site.changeoverGap ≤ u.disp.changeCount) →
      (∀ j : Fin 8, (cfg j).kind ≠ kind → u.trains[j].state ≠ .starting ∧ u.trains[j].state ≠ .running ∧
        u.trains[j].state ≠ .stopping) →
      u.trains[i].state = .starting)) ∧
  ∀ (s : State) (i : Fin 8),
    let t := recompute s
    let kind := s.cfg.trains[i].kind
    (t.trains[i].state ≠ s.trains[i].state →
      (s.trains[i].state = .ready ∧ t.trains[i].state = .starting) ∨
      (s.trains[i].state = .running ∧ t.trains[i].state = .stopping)) ∧
    (s.trains[i].state = .ready → t.trains[i].state = .starting →
      s.disp.trip = false ∧ s.engine.live ≠ none ∧ banAgainst s kind = false ∧
      (kind = .expander → s.disp.expanderHold = false) ∧
      (∀ j : Fin 8, s.cfg.trains[j].kind ≠ kind →
        s.trains[j].state ≠ .starting ∧ s.trains[j].state ≠ .running ∧ s.trains[j].state ≠ .stopping) ∧
      (t.disp.changeKind = none ∨ t.disp.changeKind = some kind ∨
        s.cfg.site.changeoverGap ≤ t.disp.changeCount) ∧
      (⟨i, .start⟩ : Cmd) ∈ t.link.cmds ∧
      t.trains[i].timer = some ⟨.start, s.now + s.cfg.trains[i].startTimeout * 1000⟩ ∧
      t.disp.setpoints[i] = some ⟨0, none⟩)

/-- R127, R128: the merit allocation of an amount over an ordered list of trains, each a rating and a least stable power not
above it: it gives no more shares than trains, every share is 0 or lies between its train's least stable and rated power,
and the shares sum to no more than the amount, or than the room where a lone train is lifted to its least stable power.
A first train that can carry the amount alone takes it whole. The shares are R127's: the count is the smallest whose ratings
cover the amount, or the whole list, and goes down to the greatest at which no share falls below its least stable power, or to 1;
each share is its floored part by rating, and the remainder goes to the first train up to its rating, then to the next; a lone
train below its least stable power is lifted to it where twice the amount and the room allow it, and else takes 0. Merit order is
by priority, then by number. One pass of a recompute allocates by R128: LOST held values above the grid limit become 0; the
protected entries are those in RUNNING below their minimum run that nothing exposes, in merit order as far as their least stable
powers fit the grid limit beside the LOST values; the amount is |Tc| less the LOST values and the forced load and the room is the
grid limit less both; what the shares leave unplaced goes to the protected entries, each up to its rating. -/
def Obligations.MeritSharesInBand : Prop :=
  (∀ (amount room : Nat) (trains : List (Nat × Nat)), (∀ q ∈ trains, q.2 ≤ q.1) →
    let shares := meritShares amount room trains
    shares.length ≤ trains.length ∧
    (∀ (k v : Nat) (q : Nat × Nat), shares[k]? = some v → trains[k]? = some q → v = 0 ∨ (q.2 ≤ v ∧ v ≤ q.1)) ∧
    shares.sum ≤ max amount room ∧
    (2 ≤ shares.length → shares.sum ≤ amount) ∧
    (∀ q rest, trains = q :: rest → 1 ≤ amount → q.2 ≤ amount → amount ≤ q.1 → shares = [amount]) ∧
    (amount = 0 → shares = [])) ∧
  (∀ (amount room : Nat) (trains : List (Nat × Nat)) (c : Nat),
    let ratedOf := fun j : Nat => (trains.getD j (0, 0)).1
    let leastOf := fun j : Nat => (trains.getD j (0, 0)).2
    let total := fun k : Nat => ((List.range k).map ratedOf).sum
    let base := fun k j : Nat => min amount (total k) * ratedOf j / total k
    let remainder := fun k : Nat => min amount (total k) - ((List.range k).map (base k)).sum
    let share := fun k j : Nat => base k j +
      min (remainder k - ((List.range j).map fun l => ratedOf l - base k l).sum) (ratedOf j - base k j)
    let fits := fun k : Nat => ∀ j, j < k → leastOf j ≤ share k j
    let shares := meritShares amount room trains
    (trains = [] → shares = []) ∧
    (1 ≤ amount → 1 ≤ c → c ≤ trains.length → (∀ k, k < c → total k < amount) →
      (c < trains.length → amount ≤ total c) →
      ∃ k, 1 ≤ k ∧ k ≤ c ∧ shares.length = k ∧ (∀ m, k < m → m ≤ c → ¬fits m) ∧
        (2 ≤ k → fits k ∧ ∀ j, j < k → shares[j]? = some (share k j)) ∧
        (k = 1 →
          let a := min amount (ratedOf 0)
          shares = [if leastOf 0 ≤ a then a
            else if leastOf 0 ≤ 2 * a ∧ leastOf 0 ≤ room then leastOf 0 else 0]))) ∧
  (∀ trains : Vector TrainCfg 8, (∀ i : Fin 8, i ∈ meritOrder trains) ∧ (meritOrder trains).Pairwise fun i j =>
    trains[i].priority < trains[j].priority ∨ (trains[i].priority = trains[j].priority ∧ i < j)) ∧
  ∀ (s : State) (kind : TrainKind) (m : Nat),
    let u := recomputeOnce s
    let tc := u.disp.clamped
    let cfg := fun i : Fin 8 => s.cfg.trains[i]
    let ofKind := match kind with | .compressor => decide (0 < tc) | .expander => decide (tc < 0)
    let grid := match kind with | .compressor => s.cfg.site.importLimit | .expander => s.cfg.site.exportLimit
    let inState := fun (st : TrainState) (i : Fin 8) => decide ((cfg i).kind = kind ∧ s.trains[i].state = st)
    let lostBefore := (((List.finRange 8).filter (inState .lost)).map fun i =>
      match s.disp.setpoints[i] with | some q => q.held | none => 0).sum
    let lost := if grid < lostBefore then 0 else lostBefore
    let opposes := s.engine.live.any fun l => l.any fun sl => decide (s.clock.interval ≤ sl.interval ∧
      sl.interval ≤ s.clock.interval + s.cfg.site.changeoverGap + 1) &&
        match kind with | .compressor => decide (sl.net < 0) | .expander => decide (0 < sl.net)
    let exposed := s.disp.trip || (!ofKind && banAgainst s kind) || opposes
    let guarded := (meritOrder s.cfg.trains).filter fun i : Fin 8 =>
      inState .running i && decide (s.trains[i].runCount < (cfg i).minRun) && !exposed
    let least := fun l : List (Fin 8) => (l.map fun i => (cfg i).minStableKw).sum
    let prot := guarded.take m
    let free := (meritOrder s.cfg.trains).filter fun i : Fin 8 => inState .running i && decide (i ∉ prot)
    let amount := tc.natAbs - lost - least prot
    let room := grid - lost - least prot
    let shares := if ofKind then meritShares amount room (free.map fun i => ((cfg i).ratedKw, (cfg i).minStableKw)) else []
    let rest := if ofKind then amount - shares.sum else 0
    m ≤ guarded.length → lost + least prot ≤ grid → (m < guarded.length → grid < lost + least (guarded.take (m + 1))) →
      (∀ (j : Nat) (i : Fin 8), free[j]? = some i →
        (shares.getD j 0 = 0 → u.trains[i].state = .stopping ∧ u.disp.setpoints[i] = none) ∧
        (shares.getD j 0 ≠ 0 → u.trains[i].state = .running ∧
          u.disp.setpoints[i] = some ⟨shares.getD j 0, some (shares.getD j 0)⟩)) ∧
      (∀ (j : Nat) (i : Fin 8), prot[j]? = some i →
        let v := (cfg i).minStableKw +
          min (rest - ((prot.take j).map fun l => (cfg l).ratedKw - (cfg l).minStableKw).sum)
            ((cfg i).ratedKw - (cfg i).minStableKw)
        u.trains[i].state = .running ∧ u.disp.setpoints[i] = some ⟨v, some v⟩) ∧
      (∀ i : Fin 8, inState .lost i = true → u.disp.setpoints[i] =
        if grid < lostBefore then s.disp.setpoints[i].map fun q => { q with held := 0 } else s.disp.setpoints[i])

/-- R121, R131, R135 to R139: the tallies. The closed tally of an open one whose members have rising keys: every member's due
is its own; with N above 0 each discharge member is credited its due and the charge members share the pool by power, the
remainder to the lowest key, so that their credits sum to the pool exactly; with N below 0 the roles are exchanged; with N = 0
every member is credited its due and no E_phys is formed. At a boundary the dispatch unit closes the open tally and sends the
book its credits in key order, opens the tally for the new interval with the FIRM and ACTIVE records whose span holds it, at
their powers for it, counts the changeover record on, held at 3, and recomputes. -/
def Obligations.TallyCreditsAndBoundary : Prop :=
  (∀ (ended n : Nat) (s : State), ∃ t u : State, takeBoundary ended n .dispatch s = recompute u ∧
    (s.disp.openTally = none → t = s) ∧
    (∀ o, s.disp.openTally = some o →
      let z := closedTallyOf o
      let credited := z.credits.foldl (fun b c => creditRecord c.member.key o.interval c.due c.delivered b) s
      t = { credited with disp := { s.disp with openTally := none, closedTally := some z } }) ∧
    ∃ members : List Member,
      u = { t with disp := { t.disp with
        openTally := some ⟨n, members, 0, 0⟩
        changeCount := if s.disp.changeCount < 3 then s.disp.changeCount + 1 else 3 } } ∧
      (members.map Member.key).Pairwise (· < ·) ∧
      ∀ m : Member, m ∈ members ↔ ∃ (i : Fin 128) (r : Record), t.book[i].record = some r ∧
        (r.state = .firm ∨ r.state = .active) ∧ r.start ≤ n ∧ n < r.start + r.length ∧
        m = ⟨t.book[i].gen * 128 + i.val, r.dir, r.powerAt n⟩) ∧
  ∀ t : OpenTally, (t.members.map Member.key).Pairwise (· < ·) →
    let z := closedTallyOf t
    let sumOf := fun d : Direction => ((t.members.filter fun m => m.dir == d).map Member.power).sum
    let comp := t.accCompressor / 3600
    let exp := t.accExpander / 3600
    let creditedOf := fun d : Direction => ((z.credits.filter fun c => c.member.dir == d).map Credit.delivered).sum
    let roles := fun (net other : Direction) (total opposite physical : Nat) =>
      let pool := opposite * 1000 / 12 + physical
      z.ePhys = some physical ∧
      (∀ c ∈ z.credits, c.member.dir = other → c.delivered = c.due) ∧
      creditedOf net = pool ∧
      (∀ c ∈ z.credits, c.member.dir = net →
        (∃ d ∈ t.members, d.dir = net ∧ d.key < c.member.key) → c.delivered = pool * c.member.power / total) ∧
      (∀ c ∈ z.credits, c.member.dir = net → pool * c.member.power / total ≤ c.delivered)
    z.interval = t.interval ∧ z.credits.map Credit.member = t.members ∧
    (∀ c ∈ z.credits, c.due = c.member.power * 1000 / 12) ∧
    z.chargePower = sumOf .charge ∧ z.dischargePower = sumOf .discharge ∧
    z.compressorWh = comp ∧ z.expanderWh = exp ∧
    (sumOf .discharge < sumOf .charge →
      roles .charge .discharge (sumOf .charge) (sumOf .discharge) (comp - exp)) ∧
    (sumOf .charge < sumOf .discharge →
      roles .discharge .charge (sumOf .discharge) (sumOf .charge) (exp - comp)) ∧
    (sumOf .charge = sumOf .discharge → z.ePhys = none ∧ ∀ c ∈ z.credits, c.delivered = c.due)

/-- R195, R196, R126, R125: SET_SITE, and the two events of the site trip. SET_SITE changes the given values alone, and a
change of a limit or of the changeover gap sets verification pending and makes the dispatch unit recompute. A trip raises
SITE_TRIP, sets verification pending, stops every STARTING and RUNNING train, brings LOST held values to 0 and recomputes;
its release recomputes. A level that does not change is no event (log entry 2). -/
def Obligations.SiteValuesAndTrip : Prop :=
  (∀ (p : SiteParams) (s : State), s.port.state = .idle → s.nv.saving = none →
    let old := s.cfg.site
    let new : SiteCfg :=
      ⟨p.importLimit.getD old.importLimit, p.exportLimit.getD old.exportLimit, p.changeoverGap.getD old.changeoverGap,
        p.minNotice.getD old.minNotice, p.pollPeriod.getD old.pollPeriod, p.holdLimit.getD old.holdLimit,
        p.tol.getD old.tol, p.errorThreshold.getD old.errorThreshold⟩
    let inRange := (∀ v ∈ p.importLimit, v ≤ 800000) ∧ (∀ v ∈ p.exportLimit, v ≤ 800000) ∧
      (∀ v ∈ p.changeoverGap, v ≤ 3) ∧ (∀ v ∈ p.minNotice, v ≤ 12) ∧ (∀ v ∈ p.pollPeriod, 200 ≤ v ∧ v ≤ 2000) ∧
      (∀ v ∈ p.holdLimit, 1 ≤ v ∧ v ≤ 24) ∧ (∀ v ∈ p.tol, 1 ≤ v ∧ v ≤ 500) ∧
      (∀ v ∈ p.errorThreshold, 1 ≤ v ∧ v ≤ 255)
    let same := new.importLimit = old.importLimit ∧ new.exportLimit = old.exportLimit ∧
      new.changeoverGap = old.changeoverGap
    (¬inRange → exec (.setSite p) s = .next (s.answered .badValue .empty)) ∧
    (inRange → same →
      exec (.setSite p) s = .next (({ s with cfg := { s.cfg with site := new } } : State).answered .done .empty)) ∧
    (inRange → ¬same → exec (.setSite p) s = .next (reply .done (recompute (setVerify
      { s.taken with cfg := { s.cfg with site := new } }))))) ∧
  (∀ s : State,
    let stops := (meritOrder s.cfg.trains).foldl fun t i =>
      if t.trains[i].state = .starting ∨ t.trains[i].state = .running then stopTrain i t else t
    (s.pins.trip = true → exec .siteTripAssert s = .next s) ∧
    (s.pins.trip = false → exec .siteTripAssert s = .next (recompute (zeroLost (stops (setVerify (raise .siteTrip
      { s with pins := ⟨true⟩, disp := { s.disp with trip := true } })))))) ∧
    (s.pins.trip = false → exec .siteTripRelease s = .next s) ∧
    (s.pins.trip = true → exec .siteTripRelease s = .next (recompute (setVerify (raise .siteTrip
      { s with pins := ⟨false⟩, disp := { s.disp with trip := false } })))))

/-! ### Instrument scanning (chapter 7) -/

/-- R147, R148: the result that an entry's converted codes form, judged against its channel's window. -/
def Obligations.ResultFormedAndJudged : Prop :=
  ∀ (cfg : ChannelCfg) (codes : List Nat),
    let code := codes.sum / codes.length
    let exact := cfg.offset + ((code : Int) * cfg.gain).fdiv 4096
    let v := max (-2147483648) (min 2147483647 exact)
    let r := formResult cfg codes
    r.code = code ∧
    ((0 ∈ codes ∨ 4095 ∈ codes) → r.value = none ∧ r.window = .noState) ∧
    (0 ∉ codes → 4095 ∉ codes → r.value = some v ∧
      (cfg.windowMode = .alarmOutside → (r.window = .alarm ↔ v < cfg.windowLow ∨ cfg.windowHigh < v)) ∧
      (cfg.windowMode = .alarmInside → (r.window = .alarm ↔ cfg.windowLow ≤ v ∧ v ≤ cfg.windowHigh)) ∧
      (r.window ≠ .alarm → r.window = .clear))

/-- R153 to R155: the vote on three transducers: what counts, sorted into ascending order with the earlier position first among
equal values, the table of outcomes, the disagree flags and the bound that a voted pressure lies between the least and the
greatest counted value. -/
def Obligations.VoteFollowsTable : Prop :=
  ∀ (tol : Nat) (a b c : Option Nat) (f : Disagree),
    let l := sortedCounts a b c
    let o := voteOutcome tol l
    let g := flagsAfter l o f
    let earlier := fun p q : Position => (p = .a ∧ (q = .b ∨ q = .c)) ∨ (p = .b ∧ q = .c)
    (l.map Prod.fst).Pairwise (· ≤ ·) ∧
    l.Pairwise (fun x y => x.1 < y.1 ∨ (x.1 = y.1 ∧ earlier x.2 y.2)) ∧
    (∀ v pos, (v, pos) ∈ l ↔ (pos = .a ∧ a = some v) ∨ (pos = .b ∧ b = some v) ∨ (pos = .c ∧ c = some v)) ∧
    (∀ lo mid hi, l = [lo, mid, hi] →
      (mid.1 - lo.1 ≤ tol → hi.1 - mid.1 ≤ tol → o = (.good mid.1, none)) ∧
      (mid.1 - lo.1 ≤ tol → tol < hi.1 - mid.1 → o = (.good ((lo.1 + mid.1) / 2), some hi.2)) ∧
      (tol < mid.1 - lo.1 → hi.1 - mid.1 ≤ tol → o = (.good ((mid.1 + hi.1) / 2), some lo.2)) ∧
      (tol < mid.1 - lo.1 → tol < hi.1 - mid.1 → o = (.noMajority, none))) ∧
    (∀ lo hi, l = [lo, hi] →
      (hi.1 - lo.1 ≤ tol → o = (.good ((lo.1 + hi.1) / 2), none)) ∧
      (tol < hi.1 - lo.1 → o = (.noMajority, none))) ∧
    (l.length ≤ 1 → o = (.noMajority, none)) ∧
    (∀ p, o.1 = .good p → (∃ q ∈ l, q.1 ≤ p) ∧ (∃ q ∈ l, p ≤ q.1)) ∧
    (g.a = if a = none then f.a else decide (o.1 = .noMajority ∨ o.2 = some .a)) ∧
    (g.b = if b = none then f.b else decide (o.1 = .noMajority ∨ o.2 = some .b)) ∧
    (g.c = if c = none then f.c else decide (o.1 = .noMajority ∨ o.2 = some .c))

/-- R141, R143 to R145, R149, R150, R157: SET_CHANNEL, SET_SCAN_LIST and SNAPSHOT: the ranges, the fields written together, and
WINDOW where a SPARE channel's window state enters or leaves ALARM. A settings write that is taken aborts the pass: every mark
clear, a new pass at the head, every result kept. That SET_SCAN_LIST, which changes no result, causes no recompute is the
model's (DEDUCED, log entry 27); so are the refusal of a window_mode code other than 0 and 1 and the passing over of the bytes
that a HEADER_PRESSURE or SPARE role leaves unused (log entry 15). -/
def Obligations.ScannerCommands : Prop :=
  ∀ s : State, s.port.state = .idle →
    let restarted : Scanner := { s.scan with marks := Vector.replicate 24 false, pos := 0, began := s.now }
    (s.nv.saving = none →
      (∀ p : ChannelParams, 24 ≤ p.channel → exec (.setChannel p) s = .next (s.answered .badValue .empty)) ∧
      (∀ (p : ChannelParams) (ch : Fin 24), p.channel = ch.val →
        let old := s.cfg.channels[ch]
        let role : RoleCode → Option Role := fun q =>
          if q.alternative = 0 ∧ 1 ≤ q.first ∧ q.first ≤ 4 ∧ q.second ≤ 2 then
            some (.cavernPressure (Fin.ofNat 4 (q.first - 1)) (if q.second = 0 then .a else if q.second = 1 then .b else .c))
          else if q.alternative = 1 ∧ 1 ≤ q.first ∧ q.first ≤ 2 ∧ 1 ≤ q.second ∧ q.second ≤ 4 then
            some (.storeTemp (Fin.ofNat 2 (q.first - 1)) (Fin.ofNat 4 (q.second - 1)))
          else if q.alternative = 2 then some .headerPressure else if q.alternative = 3 then some .spare else none
        let in32 := fun v : Int => -2147483648 ≤ v ∧ v ≤ 2147483647
        let inRange := (∀ q ∈ p.role, role q ≠ none) ∧ (∀ v ∈ p.gain, -32768 ≤ v ∧ v ≤ 32767) ∧
          (∀ v ∈ p.offset, in32 v) ∧ (∀ v ∈ p.averaging, v = 1 ∨ v = 2 ∨ v = 4 ∨ v = 8) ∧
          (∀ v ∈ p.windowLow, in32 v) ∧ (∀ v ∈ p.windowHigh, in32 v) ∧ (∀ v ∈ p.windowMode, v ≤ 1)
        let new : ChannelCfg :=
          { role := (p.role.bind role).getD old.role, gain := p.gain.getD old.gain, offset := p.offset.getD old.offset
            averaging := p.averaging.getD old.averaging, windowLow := p.windowLow.getD old.windowLow
            windowHigh := p.windowHigh.getD old.windowHigh
            windowMode := (p.windowMode.map fun v =>
              if v = 0 then WindowMode.alarmOutside else .alarmInside).getD old.windowMode }
        let held := ∃ j : Fin 24, j ≠ ch ∧ s.cfg.channels[j].role = new.role ∧
          new.role ≠ .headerPressure ∧ new.role ≠ .spare
        let good := inRange ∧ new.windowLow ≤ new.windowHigh ∧ ¬held
        let before := s.scan.results[ch]
        let after := before.map fun r => match r.value with
          | some v => { r with window := windowStateOf new v }
          | none => r
        let alarm := fun r : Option ChanResult => ∃ x, r = some x ∧ x.window = .alarm
        let channels := s.cfg.channels.set ch new
        let results := s.scan.results.set ch after
        let written : State := { s.taken with
          cfg := { s.cfg with channels := channels }
          scan := { restarted with results := results }
          disp := { s.disp with expanderHold := expanderHoldOf channels results } }
        (¬good → exec (.setChannel p) s = .next (s.answered .badValue .empty)) ∧
        (good → ∃ noted : Bool, (noted = true ↔ new.role = .spare ∧ ¬(alarm before ↔ alarm after)) ∧
          exec (.setChannel p) s = .next (reply .done (recomputeIf
            (decide (expanderHoldOf channels results ≠ s.disp.expanderHold)) (raiseIf noted .window written))))) ∧
      (∀ l : List Nat, (32 < l.length ∨ ∃ n ∈ l, 24 ≤ n) →
        exec (.setScanList l) s = .next (s.answered .badValue .empty)) ∧
      (∀ l : List (Fin 24), l.length ≤ 32 →
        exec (.setScanList (l.map Fin.val)) s = .next (({ s with
          cfg := { s.cfg with scanList := l }
          scan := { restarted with snapPending := !l.isEmpty && s.scan.snapPending } } : State).answered .done .empty))) ∧
    (s.cfg.scanList = [] → exec .snapshot s = .next (s.answered .wrongState .empty)) ∧
    (s.cfg.scanList ≠ [] →
      exec .snapshot s = .next (({ s with scan := { s.scan with snapPending := true } } : State).answered .queued .empty))

/-- R146, R147, R149, R151 to R153, R155, R157: the entry in progress completes once its conversions are done. Its result and
mark are written and the scanner goes on; a SPARE channel's alarm raises WINDOW; the expander hold is formed again (R132), and a
change of it makes the dispatch unit recompute. The last entry of the list completes the pass. Each cavern is handed nothing
where none of its three positions is marked, NO_MAJORITY with its flags kept where one or two are, and else the vote of the
values within 0 to 30,000 of its three marked transducers, which writes the record of its last vote; the mark of an outcome
handed is set. The store is handed the results of the marked STORE_TEMP channels. A pending snapshot takes its copy, and the
next pass begins. The dispatch unit recomputes where an inhibit, the store's being UNKNOWN, or the hold has changed. The model's
own: conversions that are not done, and an entry that is not in progress, change nothing (log entry 2), and a NO_MAJORITY without
a vote leaves the record of the last vote (DEDUCED, log entry 21). -/
def Obligations.EntryCompletes : Prop :=
  ∀ (s : State) (codes : List Nat),
    (s.cfg.scanList[s.scan.pos]? = none → exec (.entryComplete codes) s = .next s) ∧
    ∀ ch : Fin 24, s.cfg.scanList[s.scan.pos]? = some ch →
      let cfg := s.cfg.channels[ch]
      let done := codes.length = cfg.averaging ∧ s.scan.began + cfg.averaging ≤ s.now
      let new := formResult cfg codes
      let results := s.scan.results.set ch (some new)
      let marks := s.scan.marks.set ch true
      let alarm := fun r : Option ChanResult => r.any fun x => decide (x.window = .alarm)
      let noted := decide (cfg.role = .spare) && (alarm s.scan.results[ch] != alarm (some new))
      let hold := (List.finRange 24).any fun j : Fin 24 => decide (s.cfg.channels[j].role = .headerPressure) &&
        results[j].any fun x => decide (x.window = .alarm ∨ x.value = none)
      let formed := raiseIf noted .window { s with
        scan := { s.scan with results := results, marks := marks, pos := s.scan.pos + 1, began := s.now }
        disp := { s.disp with expanderHold := hold } }
      let passCount := if s.scan.passCount < 4294967295 then s.scan.passCount + 1 else 0
      let marked := fun (i : Fin 4) (pos : Position) =>
        ((List.finRange 24).find? fun j : Fin 24 => decide (s.cfg.channels[j].role = .cavernPressure i pos)).filter
          fun j : Fin 24 => marks[j]
      let counted := fun (i : Fin 4) (pos : Position) => (marked i pos).bind fun j : Fin 24 =>
        (results[j].bind ChanResult.value).bind fun v => if 0 ≤ v ∧ v ≤ 30000 then some v.toNat else none
      let anyMarked := fun i : Fin 4 => (marked i .a).isSome || (marked i .b).isSome || (marked i .c).isSome
      let allMarked := fun i : Fin 4 => (marked i .a).isSome && (marked i .b).isSome && (marked i .c).isSome
      let sorted := fun i : Fin 4 => sortedCounts (counted i .a) (counted i .b) (counted i .c)
      let vote := fun i : Fin 4 => voteOutcome s.cfg.site.tol (sorted i)
      let outcome := fun i : Fin 4 => if allMarked i then (vote i).1 else .noMajority
      let flags := fun i : Fin 4 =>
        if allMarked i then flagsAfter (sorted i) (vote i) s.scan.flags[i] else s.scan.flags[i]
      let votes : Vector (Option VoteRecord) 4 := Vector.ofFn fun i : Fin 4 =>
        if allMarked i then some ⟨outcome i, sorted i, flags i, passCount⟩ else s.scan.votes[i]
      let temps : List ChanResult := (List.finRange 24).filterMap fun j : Fin 24 => match s.cfg.channels[j].role with
        | .storeTemp _ _ => if marks[j] then results[j] else none
        | _ => none
      let copied : SnapCopy := ⟨results, marks, votes, passCount,
        if s.clock.mode = .unset ∨ s.clock.mode = .armed then none else some s.clock.interval⟩
      let handed := takeTemperatures temps ((List.finRange 4).foldl
        (fun x i => if anyMarked i then takeVote i (outcome i) (flags i) x else x) formed)
      let passed : State := { handed with scan := { s.scan with
        results := results, marks := Vector.replicate 24 false, pos := 0, began := s.now, passCount := passCount
        votes := votes, flags := Vector.ofFn flags
        handed := Vector.ofFn fun i : Fin 4 => s.scan.handed[i] || anyMarked i
        snapPending := false, copy := if s.scan.snapPending then some copied else s.scan.copy } }
      let banned := (∃ i : Fin 4, passed.caverns[i].inhibit ≠ s.caverns[i].inhibit) ∨
        passed.store.inhibit ≠ s.store.inhibit ∨ ¬(passed.store.status = .unknown ↔ s.store.status = .unknown) ∨
        hold ≠ s.disp.expanderHold
      (¬done → exec (.entryComplete codes) s = .next s) ∧
      (done → s.scan.pos + 1 < s.cfg.scanList.length →
        exec (.entryComplete codes) s = .next (recomputeIf (decide (hold ≠ s.disp.expanderHold)) formed)) ∧
      (done → s.cfg.scanList.length ≤ s.scan.pos + 1 →
        (banned → exec (.entryComplete codes) s = .next (recompute passed)) ∧
        (¬banned → exec (.entryComplete codes) s = .next passed) ∧
        (∀ i : Fin 4, passed.caverns[i] = if anyMarked i then (takeVote i (outcome i) (flags i) s).caverns[i]
          else s.caverns[i]) ∧
        passed.store = (takeTemperatures temps s).store ∧ passed.store.heard = true ∧
        passed.clock = s.clock ∧ passed.cfg = s.cfg ∧ passed.book = s.book ∧ passed.trains = s.trains ∧
        passed.link = s.link)

/-! ### The interval clock (chapter 8) -/

/-- R160 to R162, R121, R56, R75, R92, R156: SET_INTERVAL. With the form NOW the interval begins at this moment and a verification
run for it starts; with AT_PULSE the clock is armed and the engine is idle. Both void run, live table, closed slot and tallies,
and set verification pending. The codes NOW 0 and AT_PULSE 1 are log entry 15's; that an invalid table leaves the copy's mark
(log entry 13), that T, Tc and the setpoints stand with no recompute (log entry 27), and that the run copies the inputs which
the beginning leaves (log entry 37) are the model's (DEDUCED). -/
def Obligations.SetIntervalBeginsOrArms : Prop :=
  ∀ (n form : Nat) (s : State), s.port.state = .idle →
    let held := ∃ i : Fin 128, s.book[i].record ≠ none
    (1 < form ∨ 4000000000 < n → exec (.setInterval n form) s = .next (s.answered .badValue .empty)) ∧
    (form ≤ 1 → n ≤ 4000000000 → held → exec (.setInterval n form) s = .next (s.answered .wrongState .empty)) ∧
    (form = 0 → n ≤ 4000000000 → ¬held → ∃ t : State, exec (.setInterval n form) s = .next t ∧
      t.port = ⟨.holding ⟨.done, .empty⟩, [0#8]⟩ ∧
      t.clock = { s.clock with
        mode := .free, interval := n, origin := s.now, absorbOpen := true, due := s.now, armed := none } ∧
      t.engine = ⟨some ⟨.verification, none, false, copyInputs t none⟩, true, none, none, 0,
        { s.engine.snap with superseded := s.engine.snap.superseded || s.engine.live.isSome }⟩ ∧
      t.disp = { s.disp with openTally := some ⟨n, [], 0, 0⟩, closedTally := none } ∧
      (∀ i : Fin 4, t.caverns[i] = { s.caverns[i] with
        drift := none
        startMass := if s.caverns[i].status = .unknown then s.caverns[i].startMass
          else s.caverns[i].measured.getD s.caverns[i].startMass }) ∧
      t.store = { s.store with
        heard := false
        startContent := if s.store.status = .unknown then s.store.startContent
          else s.store.content.getD s.store.startContent } ∧
      t.scan = { s.scan with handed := Vector.replicate 4 false } ∧
      t.trains = s.trains ∧ t.book = s.book ∧ t.queue = s.queue ∧ t.link = s.link ∧ t.notices = s.notices ∧
      t.cfg = s.cfg ∧ t.nv = s.nv ∧ t.free = s.free) ∧
    (form = 1 → n ≤ 4000000000 → ¬held → exec (.setInterval n form) s = .next (({ s with
      clock := { s.clock with mode := .armed, absorbOpen := false, armed := some n }
      engine := { s.engine with
        run := none, live := none, closed := none, runCount := 0, flag := true
        snap := { s.engine.snap with superseded := s.engine.snap.superseded || s.engine.live.isSome } }
      disp := { s.disp with openTally := none, closedTally := none } } : State).answered .done .empty))

/-- R162 to R168: PULSE by the clock's state and the phase, OWN_TIMER_EXPIRY, and ABSORB_WINDOW_CLOSE. A pulse in its
window and the own timer's expiry take one boundary, which every one of the seven blocks takes once, one after the other, in an
order that is free (log entry 3): the book, the engine, the caverns and the scanner by their own boundaries, the store, the
roster and the dispatch unit by those of StoreFollowsTemperatures, TimersAndBoundaryCounts and TallyCreditsAndBoundary; a pulse
in the open absorb window moves the origin alone; any other pulse of a running clock is counted and raises PULSE_UNSTABLE.
That the first pulse of an armed clock starts no run in its own step (DEDUCED, log entry 37), that a late expiry has its
origin and due moment at the expiry (DEDUCED, log entry 24), that an event which cannot happen changes nothing and one that is
overdue is not forced (log entry 2), and what the interval becomes past its range (log entry 6) are the model's. -/
def Obligations.PulsesAndExpiries : Prop :=
  (∀ taken : Nat, (Config.blockOrder taken).Perm [.book, .engine, .caverns, .store, .roster, .dispatch, .scanner]) ∧
  (∀ (ended n : Nat) (s : State),
    takeBoundaryIn [] ended n s = s ∧
    (∀ b rest, takeBoundaryIn (b :: rest) ended n s = takeBoundaryIn rest ended n (takeBoundary ended n b s)) ∧
    takeBoundary ended n .book s = bookBoundary n s ∧ takeBoundary ended n .engine s = engineBoundary n s ∧
    takeBoundary ended n .caverns s = cavernsBoundary ended s ∧ takeBoundary ended n .scanner s = scannerBoundary s) ∧
  ∀ s : State,
    let phase := s.now - s.clock.origin
    let n := nextInterval s.free s.clock.interval
    let boundaryTo := fun (k : Clock) (t : State) => takeBoundaryIn (Config.blockOrder s.free) s.clock.interval n
      { t with free := s.free + 1, clock := k }
    let byPulse : State := boundaryTo { s.clock with
      mode := .locked, interval := n, origin := s.now, absorbOpen := false, lastOffset := some ((phase : Int) - 300000) } s
    let byTimer := fun (mode : ClockMode) (e : Nat) (t : State) => boundaryTo { s.clock with
      mode := mode, interval := n, origin := e, absorbOpen := true, due := s.clock.origin + 300000
      timerCount := if s.clock.timerCount < 65535 then s.clock.timerCount + 1 else s.clock.timerCount } t
    let ignored := raise .pulseUnstable { s with clock := { s.clock with
      earlyCount := if s.clock.earlyCount < 65535 then s.clock.earlyCount + 1 else s.clock.earlyCount } }
    let alone := s.clock.mode = .free ∨ s.clock.mode = .holdover
    (s.clock.mode = .unset → exec .pulse s = .next s) ∧
    (∀ m, s.clock.mode = .armed → s.clock.armed = some m → exec .pulse s = .next (blocksBegin m { s with
      clock := { s.clock with mode := .locked, interval := m, origin := s.now, absorbOpen := false, armed := none } })) ∧
    (s.clock.mode = .locked → 298000 ≤ phase → phase ≤ 302000 → exec .pulse s = .next byPulse) ∧
    (s.clock.mode = .locked → phase < 298000 → exec .pulse s = .next ignored) ∧
    (alone → s.clock.absorbOpen = true → phase ≤ 2000 → exec .pulse s = .next { s with clock := { s.clock with
      mode := .locked, origin := s.now, absorbOpen := false
      lastOffset := some ((s.now : Int) - s.clock.due) } }) ∧
    (alone → 298000 ≤ phase → phase ≤ 300000 → exec .pulse s = .next byPulse) ∧
    (alone → phase < 298000 → (s.clock.absorbOpen = false ∨ 2000 < phase) → exec .pulse s = .next ignored) ∧
    (s.clock.mode = .unset ∨ s.clock.mode = .armed → exec .ownTimerExpiry s = .next s) ∧
    (s.clock.mode = .locked → s.clock.origin + 302000 ≤ s.now → exec .ownTimerExpiry s
      = .next (byTimer .holdover (s.clock.origin + 302000) (raise .holdover s))) ∧
    (alone → s.clock.origin + 300000 ≤ s.now → exec .ownTimerExpiry s
      = .next (byTimer s.clock.mode (s.clock.origin + 300000) s)) ∧
    (s.clock.absorbOpen = true → s.clock.origin + 2000 ≤ s.now → exec .absorbWindowClose s
      = .next { s with clock := { s.clock with absorbOpen := false } }) ∧
    (s.clock.absorbOpen = false → exec .absorbWindowClose s = .next s)

/-- R163, R159, R160, R162, R199: the interval's number changes by a power-on reset, by SET_INTERVAL, by the first pulse of an
armed clock, and by a boundary; a boundary adds one (below the end of the 32-bit range) and stands at least 298 s after the
origin before it. Taking a boundary in the blocks, in any order, leaves the clock as it was set. -/
def Obligations.BoundariesStandApart : Prop :=
  (∀ (c : Instr) (s t : State), exec c s = .next t → t.clock.interval ≠ s.clock.interval →
    c = .powerOnReset ∨ (∃ n form, c = .setInterval n form) ∨ (c = .pulse ∧ s.clock.mode = .armed) ∨
    ((c = .pulse ∨ c = .ownTimerExpiry) ∧ s.clock.running = true ∧
      s.clock.origin + 298000 ≤ t.clock.origin ∧ t.clock.origin ≤ s.now ∧
      (s.clock.interval < 4294967295 → t.clock.interval = s.clock.interval + 1))) ∧
  (∀ (order : List Block) (ended n : Nat) (s : State), (takeBoundaryIn order ended n s).clock = s.clock)

/-! ### The unit link (chapter 9) -/

/-- R183, R185, R186, R198: SET_ALIAS writes one table entry or refuses; LINK_SPEED makes a broadcast pending; READ_LINK
carries the link's state and then clears the error, stall and unsolicited counts, the consecutive-failure counts kept. The
alternatives of SET_ALIAS, 0 to empty and 1 to give, and that another alternative or a quiet code other than 0 and 1 is a bad
value, are the model's choice (log entry 15); while a save is in flight every SET_ALIAS is BUSY, its values not examined
(R198). -/
def Obligations.AliasesSpeedAndReadLink : Prop :=
  ∀ s : State, s.port.state = .idle →
    (s.nv.saving ≠ none → ∀ p : AliasParams, exec (.setAlias p) s = .next (s.answered .busy .empty)) ∧
    (s.nv.saving = none → ∀ p : AliasParams,
      let known := fun address : Nat =>
        (∃ (j : Fin 8) (a : AliasEntry), j.val ≠ p.index ∧ s.cfg.aliases[j] = some a ∧ a.address = address) ∨
        (∃ i : Fin 8, s.cfg.trains[i].configured = true ∧ address = s.cfg.trains[i].index +
          (match s.cfg.trains[i].kind with | .compressor => 192 | .expander => 208))
      let v := p.value
      let bad := 7 < p.index ∨ 1 < p.alternative ∨ (p.alternative = 1 ∧
        (v.entry = 0 ∨ 8 < v.entry ∨ 254 < v.address ∨ 1 < v.quiet ∨ known v.address))
      let with_ := fun (idx : Fin 8) (a : Option AliasEntry) =>
        ({ s with cfg := { s.cfg with aliases := s.cfg.aliases.set idx a } } : State).answered .done .empty
      (bad → exec (.setAlias p) s = .next (s.answered .badValue .empty)) ∧
      (∀ idx : Fin 8, p.index = idx.val → p.alternative = 0 → exec (.setAlias p) s = .next (with_ idx none)) ∧
      (∀ idx i : Fin 8, ¬bad → p.index = idx.val → p.alternative = 1 → v.entry = i.val + 1 →
        exec (.setAlias p) s = .next (with_ idx (some ⟨v.address, i, v.quiet == 1⟩)))) ∧
    (∀ target, exec (.linkSpeed target) s = .next (
      if target = 0 then ({ s with link := { s.link with speedPending := some .base } } : State).answered .done .empty
      else if target = 1 then ({ s with link := { s.link with speedPending := some .fast } } : State).answered .done .empty
      else s.answered .badValue .empty)) ∧
    (∃ counters : Vector Counters 8,
      exec .readLink s = .next (({ s with
        link := { s.link with counters := counters, stallCount := 0, unsolicited := 0 } } : State).answered .done
          (.link s.link (Vector.ofFn fun i : Fin 8 => s.cfg.trains[i].address) s.cfg.aliases)) ∧
      ∀ i : Fin 8, counters[i] = ⟨0, 0, 0, 0, s.link.counters[i].consecutive⟩)

/-- R187, R189: FORWARD's checks in their order; a message that passes waits at the tail of the pass-through queue, with its
response owed, but for a DIAG_WRITE through a quiet alias, which is answered DONE at once. The kind is its position in R172's
table (log entry 15). -/
def Obligations.ForwardGatesAndQueue : Prop :=
  ∀ (p : ForwardParams) (s : State), s.port.state = .idle →
    let bad := 7 < p.kind ∨ 16 < p.payload.length ∨ ((p.kind = 0 ∨ p.kind = 4) ∧ p.payload ≠ [])
    let waiting := fun (a : AliasEntry) (k : MsgKind) (owed : Bool) =>
      { s.link with pass := s.link.pass ++ [⟨a.entry, k, p.payload, a.quiet, owed⟩] }
    (bad → exec (.forward p) s = .next (s.answered .badValue .empty)) ∧
    (¬bad → (∀ (j : Fin 8) (a : AliasEntry), s.cfg.aliases[j] = some a → a.address ≠ p.address) →
      exec (.forward p) s = .next (s.answered .noRecord .empty)) ∧
    (∀ (j : Fin 8) (a : AliasEntry), ¬bad → s.cfg.aliases[j] = some a → a.address = p.address →
      (∀ (k : Fin 8) (b : AliasEntry), k < j → s.cfg.aliases[k] = some b → b.address ≠ p.address) →
      let st := s.trains[a.entry].state
      let writable := st = .absent ∨ st = .withdrawn ∨ st = .lockedOut
      let owned := p.kind = 1 ∨ p.kind = 2 ∨ p.kind = 3 ∨ p.kind = 7 ∨ (p.kind = 6 ∧ ¬writable)
      (s.cfg.trains[a.entry].configured = false → exec (.forward p) s = .next (s.answered .noRecord .empty)) ∧
      (s.cfg.trains[a.entry].configured = true →
        (owned → exec (.forward p) s = .next (s.answered .owned .empty)) ∧
        (¬owned → 2 ≤ s.link.pass.length → exec (.forward p) s = .next (s.answered .busy .empty)) ∧
        (¬owned → s.link.pass.length < 2 →
          (p.kind = 6 → a.quiet = true → exec (.forward p) s
            = .next (({ s with link := waiting a .diagWrite false } : State).answered .done .empty)) ∧
          (∀ k : MsgKind, (p.kind = 0 ∧ k = .poll) ∨ (p.kind = 4 ∧ k = .ident) ∨ (p.kind = 5 ∧ k = .diagRead) ∨
              (p.kind = 6 ∧ k = .diagWrite ∧ a.quiet = false) →
            exec (.forward p) s = .next { s with link := waiting a k true, port := ⟨.owed, [0#8]⟩ }))))

/-- R171, R176 to R180, R185, R188: GRANT with the slot empty takes the first class that has something waiting. What may be
sent takes the slot and the tag counter's value, at the present speed; a broadcast carries tag 0 and is sent twice, at FAST
and then at BASE. What may not be sent is dropped, discarded or answered, and the arbiter grants again at once. With nothing
waiting, or the slot taken, nothing changes. A command that is issued joins the tail of the queue, but that a SET takes the
place of a waiting SET of its entry, a STOP removes its entry's SETs first, and a START or STOP that waits already is not
added; so at most one command of each kind waits for an entry. The model's own: the order of the bytes of a SET's power (log
entry 48), that a reissued SET which is superseded is discarded before it is asked whether it may be sent (log entry 49), and
that the address of a WITHDRAWN entry is the one that its kind and index now give (DEDUCED, log entry 46). -/
def Obligations.GrantByClass : Prop :=
  (∀ (q : List Cmd) (i : Fin 8),
    let isSet := fun c : Cmd => decide (c.entry = i) && match c.kind with | .set _ => true | _ => false
    let single := fun l : List Cmd => (l.map fun c => (c.entry, c.kind.msg)).Nodup
    let others := q.filter fun c => !isSet c
    (∀ p, enqueue ⟨i, .set p⟩ q = if q.any isSet then q.map fun c => if isSet c then ⟨i, .set p⟩ else c
      else q ++ [⟨i, .set p⟩]) ∧
    enqueue ⟨i, .stop⟩ q = (if (⟨i, .stop⟩ : Cmd) ∈ others then others else others ++ [⟨i, .stop⟩]) ∧
    enqueue ⟨i, .start⟩ q = (if (⟨i, .start⟩ : Cmd) ∈ q then q else q ++ [⟨i, .start⟩]) ∧
    (∀ c : Cmd, single q → single (enqueue c q))) ∧
  ∀ s : State,
    let busOf := fun i : Fin 8 => s.cfg.trains[i].index +
      (match s.cfg.trains[i].kind with | .compressor => 192 | .expander => 208)
    let send := fun (i : Fin 8) (kind : MsgKind) (payload : List Byte) (origin : Origin) (l : Link) =>
      ({ s with link := { l with
        slot := some ⟨⟨busOf i, s.link.tag, kind, payload⟩, [s.link.speed], some i, origin, false, false⟩
        tag := (s.link.tag + 1) % 4 } } : State)
    let may := fun c : Cmd => if c.kind = .stop then s.cfg.trains[c.entry].configured = true
      else s.trains[c.entry].state = .ready ∨ s.trains[c.entry].state = .starting ∨ s.trains[c.entry].state = .running
    let payloadOf := fun c : Cmd => match c.kind with | .set p => beBytes 3 p | _ => ([] : List Byte)
    let kindOf_ := fun c : Cmd => match c.kind with | .set _ => MsgKind.set | .start => .start | .stop => .stop
    let dropped := fun (c : Cmd) (l : Link) => ({ s with
      link := l
      disp := { s.disp with setpoints := match c.kind with
        | .set _ => s.disp.setpoints.set c.entry (s.disp.setpoints[c.entry].map fun p => { p with issued := none })
        | _ => s.disp.setpoints } } : State)
    let newer := fun c : Cmd => (∃ p, c.kind = .set p) ∧ ∃ d ∈ s.link.cmds, d.entry = c.entry ∧ ∃ p, d.kind = .set p
    let writable := fun i : Fin 8 => s.trains[i].state = .absent ∨ s.trains[i].state = .withdrawn ∨
      s.trains[i].state = .lockedOut
    (s.link.slot ≠ none → exec .grant s = .next s) ∧
    (s.link.slot = none →
      (∀ v, s.link.speedPending = some v → exec .grant s = .next { s with link := { s.link with
        speedPending := none
        slot := some ⟨⟨255, 0, .speed, [if v = .base then 0#8 else 1#8]⟩, [.fast, .base], none, .broadcast v, false,
          false⟩ } }) ∧
      (s.link.speedPending = none →
        (∀ c, s.link.reissue = some c →
          let l := { s.link with reissue := none }
          (newer c → exec .grant s = exec .grant { s with link := l }) ∧
          (¬newer c → may c → exec .grant s
            = .next (send c.entry (kindOf_ c) (payloadOf c) (.command c true) l)) ∧
          (¬newer c → ¬may c → exec .grant s = exec .grant (dropped c l))) ∧
        (s.link.reissue = none →
          (∀ c cs, s.link.cmds = c :: cs →
            let l := { s.link with cmds := cs }
            (may c → exec .grant s = .next (send c.entry (kindOf_ c) (payloadOf c) (.command c false) l)) ∧
            (¬may c → exec .grant s = exec .grant (dropped c l))) ∧
          (s.link.cmds = [] →
            (∀ f fs, s.link.pass = f :: fs →
              let l := { s.link with pass := fs }
              let answers := f.owed = true ∧ s.port.state = .owed
              let told := fun r : ResultCode => ({ s with
                link := l
                port := if answers then { s.port with state := .holding ⟨r, .empty⟩ } else s.port } : State)
              (s.cfg.trains[f.entry].configured = false → exec .grant s = exec .grant (told .noRecord)) ∧
              (s.cfg.trains[f.entry].configured = true → f.kind = .diagWrite → ¬writable f.entry →
                exec .grant s = exec .grant (told .owned)) ∧
              (s.cfg.trains[f.entry].configured = true → (f.kind = .diagWrite → writable f.entry) →
                exec .grant s = .next (send f.entry f.kind f.payload (.passThrough f) l))) ∧
            (s.link.pass = [] →
              (∀ i is, s.link.idents = i :: is →
                let l := { s.link with idents := is }
                (s.cfg.trains[i].configured = true → exec .grant s = .next (send i .ident [] .ident l)) ∧
                (s.cfg.trains[i].configured = false → exec .grant s = exec .grant { s with link := l })) ∧
              (s.link.idents = [] →
                (∀ (i : Fin 8) (m : PollMark), s.link.lastPolled ≤ 8 → s.link.polls[i] = some m → m.due = true →
                  (∀ (j : Fin 8) (m' : PollMark), s.link.polls[j] = some m' → m'.due = true →
                    (i.val + 8 - s.link.lastPolled) % 8 ≤ (j.val + 8 - s.link.lastPolled) % 8) →
                  exec .grant s = .next (send i .poll [] .poll { s.link with
                    polls := s.link.polls.set i (some ⟨false, some (s.now + s.cfg.site.pollPeriod)⟩)
                    lastPolled := i.val + 1 })) ∧
                ((∀ (j : Fin 8) (m' : PollMark), s.link.polls[j] = some m' → m'.due = false) →
                  exec .grant s = .next s)))))))

/-- R100, R101, R122, R174, R175, R178, R180 to R182, R188: how a transaction to an entry ends, whatever it carries and whoever
asked for it. The slot is freed and the outcome counted: a GOOD one clears the failure count; CRC, SEQUENCE and TIMEOUT raise it
for a bound entry, and REJECTED leaves it; LINK_ERRORS is raised as crc_count plus seq_count crosses the threshold, and the
third failure in a row declares the train lost. A GOOD STATUS goes to the roster, then to the dispatch unit, which counts the
energy since the last accepted reply, capped at two poll periods, for an entry now STARTING, RUNNING or STOPPING, and moves the
reply mark; a GOOD ANNOUNCE goes to the roster, and a failed IDENT gives an ABSENT or WITHDRAWN entry NO_ANSWER. The end of an
IDENT, of whatever outcome, begins the period to the next, a forwarded IDENT's too (log entry 19). A dispatch command's first
failure makes it the reissue and its second drops it; a forwarded message is answered with the reply, or TIMEOUT. An IDENT that
waited for the end joins the line (log entry 20). The dispatch unit recomputes where the entry moved or its ratings changed (log
entry 10). A disowned outcome reaches neither roster nor dispatch unit; all else of it stands (log entry 30). -/
def Obligations.TransactionEnds : Prop :=
  ∀ (i : Fin 8) (x : Txn) (s : State), s.link.slot = some x → x.entry = some i →
    let c := s.link.counters[i]
    let w := s.trains[i]
    let bound := w.state ≠ .absent ∧ w.state ≠ .withdrawn
    let counting := fun c' : Counters => ({ s with link := { s.link with
      slot := none, counters := s.link.counters.set i c' } } : State)
    let good := counting { c with consecutive := 0 }
    let threshold := s.cfg.site.errorThreshold
    let missed := fun c' : Counters =>
      let t := raiseIf (decide (c.crc + c.seq ≤ threshold ∧ threshold < c'.crc + c'.seq)) .linkErrors (counting c')
      let lost := c.consecutive = 2 ∧ c'.consecutive = 3 ∧ w.state ≠ .absent ∧ w.state ≠ .withdrawn ∧
        w.state ≠ .lockedOut ∧ w.state ≠ .lost
      if lost then raise .trainLost (moveTrain i .lost none t) else t
    let byStatus := fun r : Report =>
      let v := takeStatus i r good
      let energy := match s.disp.replyMarks[i] with
        | none => 0
        | some m => r.kw * min (2 * s.cfg.site.pollPeriod) (s.now - m)
      let delivers := v.trains[i].state = .running ∨ v.trains[i].state = .starting ∨ v.trains[i].state = .stopping
      if bound then { v with disp := { v.disp with
        replyMarks := s.disp.replyMarks.set i (some s.now)
        openTally := if delivers then s.disp.openTally.map fun t => match s.cfg.trains[i].kind with
          | .compressor => { t with accCompressor := t.accCompressor + energy }
          | .expander => { t with accExpander := t.accExpander + energy }
          else s.disp.openTally } } else v
    let byAnnounce := fun a : Announce =>
      let v := takeAnnounce i a good
      { v with disp := { v.disp with replyMarks := s.disp.replyMarks.set i (some s.now) } }
    let noAnswer := fun t : State =>
      if x.frame.kind = .ident ∧ x.disowned = false ∧ (t.trains[i].state = .absent ∨ t.trains[i].state = .withdrawn) then
        { t with trains := t.trains.set i { t.trains[i] with bindFault := some .noAnswer } } else t
    let dueNext := fun t : State =>
      if x.frame.kind = .ident ∧ s.cfg.trains[i].configured = true ∧ t.trains[i].state = .absent then
        { t with trains := t.trains.set i { t.trains[i] with identDue := some (s.now + s.cfg.site.pollPeriod) } } else t
    let answered := fun (r : Response) (t : State) => match x.origin with
      | .passThrough f =>
        if f.owed = true ∧ s.port.state = .owed then { t with port := { t.port with state := .holding r } } else t
      | _ => t
    let again := fun t : State => match x.origin with
      | .command cmd false => { t with link := { t.link with reissue := some cmd } }
      | .command ⟨e, .set _⟩ true => { t with disp := { t.disp with
          setpoints := t.disp.setpoints.set e (t.disp.setpoints[e].map fun p => { p with issued := none }) } }
      | _ => t
    let joins := fun t : State => if x.identAfter = true ∧ i ∉ t.link.idents then
      { t with link := { t.link with idents := t.link.idents ++ [i] } } else t
    let settled := fun t : State =>
      recomputeIf (decide (t.trains[i].state ≠ w.state ∨ t.cfg.trains ≠ s.cfg.trains)) (joins t)
    let failed := fun (c' : Counters) (r : Response) => settled (again (answered r (dueNext (noAnswer (missed c')))))
    let oneMore := if bound then min 255 (c.consecutive + 1) else c.consecutive
    exec .replyTimeout s = .next (failed { c with missed := min 65535 (c.missed + 1), consecutive := oneMore }
      ⟨.timeout, .empty⟩) ∧
    ∀ bytes,
      (judgeReply x.frame bytes = .crc → exec (.replyReceived bytes) s
        = .next (failed { c with crc := min 65535 (c.crc + 1), consecutive := oneMore } ⟨.timeout, .empty⟩)) ∧
      (judgeReply x.frame bytes = .sequence → exec (.replyReceived bytes) s
        = .next (failed { c with seq := min 65535 (c.seq + 1), consecutive := oneMore } ⟨.timeout, .empty⟩)) ∧
      (∀ payload, judgeReply x.frame bytes = .rejected payload → exec (.replyReceived bytes) s
        = .next (failed { c with reject := min 65535 (c.reject + 1) } ⟨.done, .reply .reject payload⟩)) ∧
      (∀ r payload, judgeReply x.frame bytes = .good (.status r) payload → exec (.replyReceived bytes) s
        = .next (settled (answered ⟨.done, .reply .status payload⟩
          (dueNext (if x.disowned = true then good else byStatus r))))) ∧
      (∀ a payload, judgeReply x.frame bytes = .good (.announce a) payload → exec (.replyReceived bytes) s
        = .next (settled (answered ⟨.done, .reply .announce payload⟩
          (dueNext (if x.disowned = true then good else byAnnounce a)))))

/-- R174, R175, R178, R182, R184, R185: the events of the link outside a reply. A broadcast that has been sent makes its target
the part's speed; a frame that nothing waits for is counted. A link reset abandons the transaction in flight: the failure count
of a bound entry goes up, which may declare the train lost, and no error counter moves; a command becomes the reissue on its
first attempt and is dropped on its second; a failed IDENT gives an ABSENT or WITHDRAWN entry NO_ANSWER; a forwarded message is
answered TIMEOUT. It answers TIMEOUT to a waiting forwarded message whose response is owed and discards them all, returns the
speed and the tag to their reset values, makes a broadcast of BASE pending, counts the stall and raises LINK_STALL. The model's
own: a reply event with no reply awaited is a stray frame, and a stray-frame event is one that came before the wait (log entry
26); BROADCAST_SENT with the slot empty and REPLY_TIMEOUT with nothing awaited change nothing (log entry 2); an abandoned IDENT
begins the period to the next (log entry 19), a disowned one is not told to the roster as a failure (log entry 30), and an IDENT
that waited for the end joins the line (log entry 20). -/
def Obligations.LinkEvents : Prop :=
  ∀ s : State,
    let awaited := ∃ x i, s.link.slot = some x ∧ x.entry = some i
    let counted : State := { s with link := { s.link with
      unsolicited := if s.link.unsolicited < 65535 then s.link.unsolicited + 1 else s.link.unsolicited } }
    let stalled := fun (l : Link) => ({ l with
      slot := none, pass := [], tag := 0, speed := .base, speedPending := some .base
      stallCount := if l.stallCount < 65535 then l.stallCount + 1 else l.stallCount } : Link)
    let answers := s.port.state = .owed ∧ ∃ f ∈ s.link.pass, f.owed = true
    let port : Port := if s.port.state = .owed ∧ (s.link.pass.any fun f => f.owed) = true then
      { s.port with state := .holding ⟨.timeout, .empty⟩ } else s.port
    (s.port.state = .owed ∧ (s.link.pass.any fun f => f.owed) = true ↔ answers) ∧
    (∀ x v, s.link.slot = some x → x.origin = .broadcast v →
      exec .broadcastSent s = .next { s with link := { s.link with slot := none, speed := v } }) ∧
    (s.link.slot = none → exec .broadcastSent s = .next s) ∧
    exec .unsolicitedFrame s = .next counted ∧
    (¬awaited → (∀ bytes, exec (.replyReceived bytes) s = .next counted) ∧
      exec .replyTimeout s = .next s ∧
      exec .linkReset s = .next (raise .linkStall { s with link := stalled s.link, port := port })) ∧
    (∀ (x : Txn) (i : Fin 8), s.link.slot = some x → x.entry = some i →
      let c := s.link.counters[i]
      let w := s.trains[i]
      let bound := w.state ≠ .absent ∧ w.state ≠ .withdrawn
      let freed : State := { s with link := { s.link with
        slot := none
        counters := s.link.counters.set i
          { c with consecutive := if bound then min 255 (c.consecutive + 1) else c.consecutive } } }
      let lost := c.consecutive = 2 ∧ w.state ≠ .absent ∧ w.state ≠ .withdrawn ∧ w.state ≠ .lockedOut ∧ w.state ≠ .lost
      let noAnswer := fun t : State =>
        if x.frame.kind = .ident ∧ x.disowned = false ∧ (t.trains[i].state = .absent ∨ t.trains[i].state = .withdrawn)
        then { t with trains := t.trains.set i { t.trains[i] with bindFault := some .noAnswer } } else t
      let dueNext := fun t : State =>
        if x.frame.kind = .ident ∧ s.cfg.trains[i].configured = true ∧ t.trains[i].state = .absent then
          { t with trains := t.trains.set i { t.trains[i] with identDue := some (s.now + s.cfg.site.pollPeriod) } } else t
      let again := fun t : State => match x.origin with
        | .command cmd false => { t with link := { t.link with reissue := some cmd } }
        | .command ⟨e, .set _⟩ true => { t with disp := { t.disp with
            setpoints := t.disp.setpoints.set e (t.disp.setpoints[e].map fun p => { p with issued := none }) } }
        | _ => t
      let joins := fun t : State => if x.identAfter = true ∧ i ∉ t.link.idents then
        { t with link := { t.link with idents := t.link.idents ++ [i] } } else t
      let declared := if lost then raise .trainLost (moveTrain i .lost none freed) else freed
      let ended := recomputeIf (decide lost) (joins (again (dueNext (noAnswer declared))))
      let owed := match x.origin with | .passThrough f => f.owed | _ => false
      let ports : Port := if s.port.state = .owed ∧ owed = true then
        { s.port with state := .holding ⟨.timeout, .empty⟩ } else port
      exec .linkReset s = .next (raise .linkStall { ended with link := stalled ended.link, port := ports }))

/-- R171, R174, R204: the check's register starts at all ones and takes each byte from its most significant bit; a frame of any
kind that the part sends splits into the very fields it was built from. A reply's bytes split into address, tag, kind code and
payload exactly where the length, L and the check agree; the judgement then takes the tests in their order, and the first that
fails gives the outcome; the contents of a well-formed STATUS and of a well-formed ANNOUNCE are read from their bytes, the name
from its twelve six-bit codes. That a reply of a kind which the part itself sends is judged by its length alone, and then
SEQUENCE (DEDUCED, log entry 28), the bit form of the check (DEDUCED, log entry 32), and the order of the bytes of a power and
of the fault code (DESIGN CHOICE, log entry 48) are the model's. -/
def Obligations.ReplyJudgedInOrder : Prop :=
  (∀ bytes : List Byte, crcOf bytes = bytes.foldl (fun (register : Crc) b =>
    (List.range 8).foldl (fun (c : Crc) k =>
      if (c.getLsbD 15) = (b.getLsbD (7 - k)) then c <<< 1 else (c <<< 1) ^^^ 0x1021#16) register) 0xFFFF#16) ∧
  (∀ (f : Frame) (k : Nat), f.address < 256 → f.tag < 4 → f.payload.length ≤ 16 →
    ([.poll, .set, .start, .stop, .ident, .diagRead, .diagWrite, .speed, .status, .announce, .reject] :
      List MsgKind)[k]? = some f.kind →
    splitFrame f.bytes = some (f.address, f.tag, k + 1, f.payload)) ∧
  ∀ (sent : Frame) (bytes : List Byte),
    (∀ address tag code payload, splitFrame bytes = some (address, tag, code, payload) ↔
      address < 256 ∧ tag < 4 ∧ code < 64 ∧ payload.length ≤ 16 ∧
      let body : List Byte :=
        [BitVec.ofNat 8 address, BitVec.ofNat 8 (tag * 64 + code), BitVec.ofNat 8 payload.length] ++ payload
      let check := (crcOf body).toNat
      bytes = body ++ [BitVec.ofNat 8 (check / 256), BitVec.ofNat 8 check]) ∧
    (splitFrame bytes = none → judgeReply sent bytes = .crc) ∧
    (∀ address tag code payload, splitFrame bytes = some (address, tag, code, payload) →
      let first := (payload[0]?.getD 0#8).toNat
      let at_ := fun k : Nat => (payload[k]?.getD 0#8).toNat
      let kw := at_ 1 * 65536 + at_ 2 * 256 + at_ 3
      let packed := (payload.drop 7).foldl (fun n b => n * 256 + b.toNat) 0
      let letter := fun k : Nat => packed / 64 ^ (11 - k) % 64
      let named := fun n : Nat => 1 ≤ n ∧ n ≤ 12 ∧ (∀ k, k < n → 1 ≤ letter k ∧ letter k ≤ 40) ∧
        (∀ k, n ≤ k → k < 12 → letter k = 0)
      let formed := if code = 1 ∨ code = 3 ∨ code = 4 ∨ code = 5 then payload.length = 0
        else if code = 2 then payload.length = 3
        else if code = 8 ∨ code = 11 then payload.length = 1
        else if code = 6 ∨ code = 7 then payload.length ≤ 16
        else if code = 9 then 6 ≤ payload.length ∧ payload.length ≤ 15 ∧ first ≤ 4 ∧ kw ≤ 150000
        else payload.length = 16 ∧ first / 16 ≤ 1 ∧ first % 16 ≤ 4 ∧ ∃ n, named n
      let known := 1 ≤ code ∧ code ≤ 11
      let expected := if sent.kind = .ident then 10 else 9
      let paired := address = sent.address ∧ tag = sent.tag ∧ (code = expected ∨ code = 11)
      (¬known → judgeReply sent bytes = .sequence) ∧
      (known → ¬formed → judgeReply sent bytes = .crc) ∧
      (known → formed → ¬paired → judgeReply sent bytes = .sequence) ∧
      (known → formed → paired → code = 11 → judgeReply sent bytes = .rejected payload) ∧
      (known → formed → paired → code = 9 → ∃ r : Report,
        judgeReply sent bytes = .good (.status r) payload ∧ r.kw = kw ∧ r.fault = at_ 4 * 256 + at_ 5 ∧
        (first = 0 → r.state = .stopped) ∧ (first = 1 → r.state = .starting) ∧ (first = 2 → r.state = .running) ∧
        (first = 3 → r.state = .stopping) ∧ (first = 4 → r.state = .fault)) ∧
      (known → formed → paired → code = 10 → ∃ a : Announce,
        judgeReply sent bytes = .good (.announce a) payload ∧
        (∀ n, named n → a.name = (List.range n).map letter) ∧
        (first / 16 = 0 → a.kind = .compressor) ∧ (first / 16 = 1 → a.kind = .expander) ∧
        a.ratedKw = kw ∧ a.minStableKw = at_ 4 * 65536 + at_ 5 * 256 + at_ 6 ∧
        (first % 16 = 0 → a.state = .stopped) ∧ (first % 16 = 1 → a.state = .starting) ∧
        (first % 16 = 2 → a.state = .running) ∧ (first % 16 = 3 → a.state = .stopping) ∧
        (first % 16 = 4 → a.state = .fault)))

/-! ### The station port and the settings (chapter 10) -/

/-- R188, R189, R192 to R194, R201 to R203, R205: READ_NOTICES carries the set and the mask and keeps the carried flags as the
reported set; SET_NOTICE_MASK replaces the whole mask or refuses; a raise sets its flag and takes it out of the reported set; a
whole fetch of the held response releases it and clears the flags still reported; a shorter one, or one with nothing held,
changes nothing but the bytes clocked out. ATTN stands while a set flag is enabled. The bytes of a body stand at the offsets of
their layout, numbers most significant byte first, an absent field all 0: the 73 bytes of a commitment record, the 858 of a
projection page with its 42-byte header and 16 slots of 51, of which an invalid copy's hold status 255 and 0 elsewhere, and the
six of the notice set and mask, the flag at position i of its table being bit i; and the bodies that carry a key, a forwarded
reply (its kind a position in the table of reply kinds, log entry 15) and the part's identity. -/
def Obligations.NoticesMaskAndFetch : Prop :=
  let at_ := fun (bytes : List Byte) (o size : Nat) => ((bytes.drop o).take size).foldl (fun n b => n * 256 + b.toNat) 0
  let holds := fun (bytes : List Byte) (o size v : Nat) => v < 256 ^ size → at_ bytes o size = v
  let flag := fun b : Bool => if b then 1 else 0
  let reasonAt := fun (bytes : List Byte) (o : Nat) (r : Reason) => ∀ k : Nat,
    ([.grid, .capacity, .changeover, .heatShort, .noCavern, .tableRange, .massLow, .massHigh, .rate, .late] :
      List Reason)[k]? = some r → at_ bytes o 1 = k + 1
  let noteAt := fun (bytes : List Byte) (o : Nat) (n : RefusalNote) =>
    reasonAt bytes o n.reason ∧ holds bytes (o + 1) 4 n.interval ∧ holds bytes (o + 5) 1 (n.cavern.getD 0)
  (∀ (key : Nat) (r : Record),
    let b := (Body.commitment key r).bytes
    b.length = 73 ∧ holds b 0 2 key ∧ holds b 2 4 r.tradeRef ∧
    at_ b 6 1 = (match r.cls with | .tentative => 0 | .firm => 1) ∧
    at_ b 7 1 = (match r.dir with | .charge => 0 | .discharge => 1) ∧
    holds b 8 4 r.start ∧ holds b 12 1 r.length ∧ holds b 13 4 r.power ∧
    (r.change = none → at_ b 17 9 = 0) ∧
    (∀ c, r.change = some c → at_ b 17 1 = 1 ∧ holds b 18 4 c.power ∧ holds b 22 4 c.since) ∧
    holds b 26 1 r.tolerance ∧
    (r.holdExpiry = none → at_ b 27 5 = 0) ∧ (∀ n, r.holdExpiry = some n → at_ b 27 1 = 1 ∧ holds b 28 4 n) ∧
    (∀ k : Nat, ([.proposed, .refused, .tentative, .firm, .active, .ending, .closed] : List RecordState)[k]? = some r.state →
      at_ b 32 1 = k) ∧
    (r.refusal = none → at_ b 33 7 = 0) ∧ (∀ n, r.refusal = some n → at_ b 33 1 = 1 ∧ noteAt b 34 n) ∧
    (r.pendingAmend = none → at_ b 40 10 = 0) ∧
    (∀ a, r.pendingAmend = some a →
      at_ b 40 1 = 1 ∧ holds b 41 4 a.power ∧ holds b 45 1 a.length ∧ holds b 46 4 a.start) ∧
    (r.lastAmend = none → at_ b 50 7 = 0) ∧
    (r.lastAmend = some .admitted → at_ b 50 1 = 1 ∧ at_ b 51 6 = 0) ∧
    (∀ n, r.lastAmend = some (.refused n) → at_ b 50 1 = 1 ∧ noteAt b 51 n) ∧
    (r.atRisk = none → at_ b 57 5 = 0) ∧ (∀ n, r.atRisk = some n → at_ b 57 1 = 1 ∧ holds b 58 4 n) ∧
    (r.sums = none → at_ b 62 9 = 0) ∧
    (∀ q, r.sums = some q → at_ b 62 1 = 1 ∧ holds b 63 4 q.due ∧ holds b 67 4 q.delivered) ∧
    (r.outcome = none → at_ b 71 2 = 0) ∧
    (∀ (o : CloseOutcome) (k : Nat), r.outcome = some o →
      ([.honoured, .short, .curtailed, .lapsed] : List CloseOutcome)[k]? = some o → at_ b 71 1 = 1 ∧ at_ b 72 1 = k)) ∧
  (∀ (head : ProjHeader) (slot0 : Option Nat) (slots : List ProjSlot),
    head.items.length ≤ 8 → (slot0 ≠ none → slots.length = 16) →
    let b := (Body.projection head slot0 slots).bytes
    b.length = 858 ∧ at_ b 0 1 = flag slot0.isSome ∧ holds b 1 4 head.runCount ∧ holds b 5 4 (slot0.getD 0) ∧
    holds b 9 1 head.page ∧ at_ b 10 1 = flag head.superseded ∧ at_ b 11 1 = flag head.running.isSome ∧
    (head.running = none → at_ b 12 1 = 0 ∧ at_ b 13 3 = 0) ∧
    (∀ (kind : RunKind) (subject : Option Nat), head.running = some (kind, subject) →
      at_ b 12 1 = (match kind with | .admitting => 0 | .amend => 1 | .verification => 2) ∧
      (subject = none → at_ b 13 3 = 0) ∧ (∀ key, subject = some key → at_ b 13 1 = 1 ∧ holds b 14 2 key)) ∧
    at_ b 16 1 = flag head.flag ∧ at_ b 17 1 = head.items.length ∧
    (∀ j, j < 8 → (head.items[j]? = none → at_ b (18 + 3 * j) 3 = 0) ∧
      ∀ it, head.items[j]? = some it → holds b (18 + 3 * j) 2 it.key ∧
        at_ b (20 + 3 * j) 1 = (match it.kind with | .admitting => 0 | .amend => 1)) ∧
    (∀ j, j < 16 →
      let o := 42 + 51 * j
      (slot0 = none → at_ b o 49 = 0 ∧ at_ b (o + 49) 1 = 255 ∧ at_ b (o + 50) 1 = 0) ∧
      (∀ sl, slot0 ≠ none → slots[j]? = some sl →
        holds b o 4 sl.interval ∧
        (-2147483648 ≤ sl.net → sl.net < 2147483648 →
          (at_ b (o + 4) 4 : Int) = if sl.net < 0 then sl.net + 4294967296 else sl.net) ∧
        holds b (o + 8) 4 sl.chargeCap ∧ holds b (o + 12) 4 sl.dischargeCap ∧
        (∀ i : Fin 4, (sl.caverns[i] = none → at_ b (o + 16 + 7 * i.val) 7 = 0) ∧
          (∀ e, sl.caverns[i] = some e → at_ b (o + 16 + 7 * i.val) 1 = 1 ∧
            holds b (o + 17 + 7 * i.val) 4 e.mass ∧ holds b (o + 21 + 7 * i.val) 2 e.pressure)) ∧
        holds b (o + 44) 4 sl.heat ∧ at_ b (o + 48) 1 = flag sl.dump ∧
        (sl.status = .ok → at_ b (o + 49) 1 = 0) ∧ (sl.status = .noStatus → at_ b (o + 49) 1 = 255) ∧
        (∀ r, sl.status = .fail r → reasonAt b (o + 49) r) ∧ holds b (o + 50) 1 sl.failCavern))) ∧
  (∀ flags mask : NoticeSet,
    let b := (Body.notices flags mask).bytes
    b.length = 6 ∧ ∀ i : Nat, (at_ b 0 3).testBit i = flags.getLsbD i ∧ (at_ b 3 3).testBit i = mask.getLsbD i) ∧
  (∀ (k : Nat) (n : Notice), ([.admissionDone, .atRisk, .holdLapsed, .closed, .short, .cavernLimit, .drift, .sensorDisagree,
    .cavernHeld, .cavernUnknown, .heatLimit, .trainFault, .trainLost, .identity, .shortfall, .holdover, .pulseUnstable,
    .linkErrors, .linkStall, .window, .saveDone, .settingsDefaulted, .siteTrip] : List Notice)[k]? = some n → n.index = k) ∧
  (∀ (k : Nat) (r : ResultCode), ([.done, .queued, .full, .queueFull, .noRecord, .wrongState, .badValue, .horizon, .late,
    .clockUnset, .busy, .owned, .timeout, .noSnapshot, .sequenceError, .unknownCommand] : List ResultCode)[k]? = some r →
    r.code = k) ∧
  Body.empty.bytes = [] ∧
  (∀ key, (Body.key key).bytes.length = 2 ∧ holds (Body.key key).bytes 0 2 key) ∧
  (∀ (k : Nat) (kind : MsgKind) (payload : List Byte), payload.length ≤ 16 →
    ([.status, .announce, .reject] : List MsgKind)[k]? = some kind →
    (Body.reply kind payload).bytes = [BitVec.ofNat 8 k, BitVec.ofNat 8 payload.length] ++ payload ++
      List.replicate (16 - payload.length) 0#8) ∧
  (∀ (source : SettingsSource) (saving : Bool) (last : SaveOutcome),
    (Body.identity source saving last).bytes = [9, 14, 4, 1, 2, 5, 12, 37, 34, 29, 29, 27, 3,
      match source with | .image => 0 | .defaults => 1, if saving then 1 else 0,
      match last with | .noSave => 0 | .completed => 1 | .abandoned => 2]) ∧
  ∀ s : State,
    (s.attn = true ↔ ∃ k, k < 23 ∧ s.notices.flags.getLsbD k = true ∧ s.notices.mask.getLsbD k = true) ∧
    (s.ready = true ↔ ∃ r, s.port.state = .holding r) ∧
    (∀ n : Notice, State.raised (raise n s) n ∧ (raise n s).notices.reported.getLsbD n.index = false ∧
      (∀ m : Notice, m ≠ n → (State.raised (raise n s) m ↔ State.raised s m) ∧
        (raise n s).notices.reported.getLsbD m.index = s.notices.reported.getLsbD m.index)) ∧
    (s.port.state = .idle →
      exec .readNotices s = .next (({ s with notices := { s.notices with reported := s.notices.flags } } : State).answered
        .done (.notices s.notices.flags s.notices.mask)) ∧
      (∀ mask, mask < 2 ^ 23 → exec (.setNoticeMask mask) s = .next (({ s with
        notices := { s.notices with mask := BitVec.ofNat 23 mask } } : State).answered .done .empty)) ∧
      (∀ mask, 2 ^ 23 ≤ mask → exec (.setNoticeMask mask) s = .next (s.answered .badValue .empty))) ∧
    exec (.fetch 0) s = .next s ∧
    (∀ r, s.port.state = .holding r →
      let size := r.body.bytes.length
      let frame : List Byte := [2#8, BitVec.ofNat 8 r.result.code, BitVec.ofNat 8 (size / 256), BitVec.ofNat 8 size]
        ++ r.body.bytes
      (∀ n, 0 < n → n < frame.length →
        exec (.fetch n) s = .next { s with port := ⟨.holding r, frame.take n⟩ }) ∧
      (∀ n, frame.length ≤ n → exec (.fetch n) s = .next { s with
        port := ⟨.idle, frame⟩
        notices := { s.notices with flags := s.notices.flags &&& ~~~s.notices.reported, reported := 0 } })) ∧
    (∀ n, 0 < n → s.port.state = .idle →
      exec (.fetch n) s = .next { s with port := ⟨.idle, [0#8, 14#8, 0#8, 0#8].take n⟩ }) ∧
    (∀ n, 0 < n → s.port.state = .owed →
      exec (.fetch n) s = .next { s with port := ⟨.owed, [1#8, 14#8, 0#8, 0#8].take n⟩ })

/-- R197, R198: SAVE_SETTINGS takes the settings as they stand, from which moment the old image does not pass its check (the
moment is log entry 23); while the save is in flight every settings-class write is refused BUSY; the completion leaves the
image taken at the beginning. That SAVE_COMPLETE with no save in flight changes nothing is the model's choice (log entry 2). -/
def Obligations.SettingsSaved : Prop :=
  ∀ s : State,
    (s.port.state = .idle → s.nv.saving = none → exec .saveSettings s = .next (({ s with
      nv := { s.nv with saving := some s.cfg, image := none } } : State).answered .queued .empty)) ∧
    (∀ c : Instr, isSettingsWrite c = true → s.port.state = .idle → s.nv.saving ≠ none →
      exec c s = .next (s.answered .busy .empty)) ∧
    (∀ image, s.nv.saving = some image → exec .saveComplete s = .next (raise .saveDone { s with
      nv := { s.nv with saving := none, image := some image, lastSave := .completed } })) ∧
    (s.nv.saving = none → exec .saveComplete s = .next s)

/-- R6, R62, R83, R97, R120, R159, R173, R192, R199, R200: what the two resets leave, with R31, R54, R60, R142, R151, R155 and
R157 for the engine and the scanner. A station reset keeps the settings, the book's generations, the interval's number and its
own held DONE; a power-on reset takes the settings from the image, or the factory defaults with SETTINGS_DEFAULTED. In both the
configured entries stand in line for an IDENT, in order of number (log entry 41), a SPEED broadcast to BASE is pending, and a
TRIP input that stands asserted is taken as an assertion at the end. That now, free, the pins and the waiting commands are kept
(log entry 29), and the values of the fields that the manual gives none (log entry 31), are the model's choice. -/
def Obligations.ResetsLeave : Prop :=
  ∀ s : State,
    let tripTaken := fun t : State => if s.pins.trip = true then tripAsserted t else t
    let clear : Disagree := ⟨false, false, false⟩
    let blocks := fun t : State => t.queue = [] ∧
      t.engine = ⟨none, false, none, none, 0, ⟨none, 0, false, none⟩⟩ ∧
      t.caverns = Vector.replicate 4 ⟨none, .held, 0, none, 0, none, .noBan, clear, .inTable⟩ ∧
      t.store = ⟨none, 0, none, 0, .held, 0, .noBan, false⟩ ∧
      t.trains = Vector.replicate 8 ⟨[], .absent, none, none, 0, 0, none, none, none⟩ ∧
      t.disp = ⟨0, 0, Vector.replicate 8 none, none, 3, false, false, none, none, Vector.replicate 8 none⟩ ∧
      t.scan = ⟨Vector.replicate 24 none, Vector.replicate 24 false, 0, s.now, 0, Vector.replicate 4 none,
        Vector.replicate 4 clear, Vector.replicate 4 false, false, none⟩ ∧
      t.clock = ⟨.unset, t.clock.interval, 0, false, 0, none, 0, 0, none⟩ ∧
      t.link = ⟨none, .base, some .base, 0, [], none, [], t.link.idents, Vector.replicate 8 none, 0,
        Vector.replicate 8 ⟨0, 0, 0, 0, 0⟩, 0, 0⟩ ∧
      (∀ i : Fin 8, i ∈ t.link.idents ↔ t.cfg.trains[i].configured = true) ∧ t.link.idents.Pairwise (· < ·) ∧
      (∀ i : Fin 128, t.book[i].record = none) ∧ t.notices.mask = BitVec.allOnes 23 ∧ t.notices.reported = 0 ∧
      t.now = s.now ∧ t.free = s.free ∧ t.pins = s.pins ∧ t.pending = s.pending
    (s.port.state = .idle → ∃ t, exec .resetStation s = .next (tripTaken t) ∧ blocks t ∧ t.cfg = s.cfg ∧
      t.port = ⟨.holding ⟨.done, .empty⟩, [0#8]⟩ ∧ (∀ i : Fin 128, t.book[i].gen = s.book[i].gen) ∧
      t.notices.flags = 0 ∧ t.clock.interval = s.clock.interval ∧
      t.nv = (if s.nv.saving = none then s.nv
        else { s.nv with saving := none, image := none, lastSave := .abandoned })) ∧
    (∃ t, exec .powerOnReset s = .next (tripTaken t) ∧ blocks t ∧ t.port = ⟨.idle, []⟩ ∧
      (∀ i : Fin 128, t.book[i].gen = 0) ∧ t.clock.interval = 0 ∧ t.nv.saving = none ∧ t.nv.image = s.nv.image ∧
      t.nv.lastSave = .noSave ∧
      (∀ cfg, s.nv.image = some cfg → t.cfg = cfg ∧ t.nv.source = .image ∧ t.notices.flags = 0) ∧
      (s.nv.image = none → t.cfg = .factory ∧ t.nv.source = .defaults ∧ State.raised t .settingsDefaulted ∧
        ∀ n : Notice, n ≠ .settingsDefaulted → ¬State.raised t n))

/-! ### Transfers and invariants -/

/-- R190, R202, R203: the transfer that carries a well-formed station command is decoded to that command, with every operand
at every value its field admits. The bytes of SET_ALIAS's alternative and the reading of a presence byte are log entry 15's. -/
def Obligations.TransferRoundTrip : Prop :=
  ∀ (i : Instr) (bytes : List Byte), i.wellFormed = true → encodeTransfer i = some bytes →
    decodeTransfer bytes = some i

/-- R28: every step keeps the admission queue, the run and the records in agreement. -/
def Obligations.StepKeepsQueueSound : Prop :=
  ∀ s t : State, QueueSound s → step s = .next t → QueueSound t

/-- R132: every step keeps compressors and expanders from being up together. -/
def Obligations.StepKeepsDirectionsSound : Prop :=
  ∀ s t : State, DirectionsSound s → step s = .next t → DirectionsSound t

/-- R128, R129: every step keeps the setpoints where they may stand, within each train's band and each kind's grid limit. That
none stands in READY (DEDUCED, log entry 9) and that a LOST entry which returns to STARTING holds 0 (DEDUCED, log entry 34)
are the model's. -/
def Obligations.StepKeepsSetpointsSound : Prop :=
  ∀ s t : State, SetpointsSound s → step s = .next t → SetpointsSound t

/-- R54 to R57: below the end of the 32-bit range, every step keeps the slots of a valid live table named from the current
interval on, and keeps run, closed slot and table away from a clock that is UNSET or ARMED. -/
def Obligations.StepKeepsTableSound : Prop :=
  ∀ s t : State, TableSound s → s.clock.interval < 4294967295 → step s = .next t → TableSound t

/-- The four invariants hold at reset. -/
def Obligations.InvariantsHoldAtReset : Prop :=
  QueueSound State.reset ∧ DirectionsSound State.reset ∧ SetpointsSound State.reset ∧ TableSound State.reset
end
end

