-- ==== Sys2Proof/Laws/State.lean ====
section
/-! SUPPORT. One lemma for each named update of the state and each field it leaves as it was, so that no proof unfolds a
record update. -/

namespace Sys2Proof.Machine

variable (s : State)

/-! A raise: `raise`. -/

@[simp] theorem raise_now (n : Notice) : (raise n s).now = s.now := rfl
@[simp] theorem raise_free (n : Notice) : (raise n s).free = s.free := rfl
@[simp] theorem raise_pins (n : Notice) : (raise n s).pins = s.pins := rfl
@[simp] theorem raise_cfg (n : Notice) : (raise n s).cfg = s.cfg := rfl
@[simp] theorem raise_book (n : Notice) : (raise n s).book = s.book := rfl
@[simp] theorem raise_queue (n : Notice) : (raise n s).queue = s.queue := rfl
@[simp] theorem raise_engine (n : Notice) : (raise n s).engine = s.engine := rfl
@[simp] theorem raise_caverns (n : Notice) : (raise n s).caverns = s.caverns := rfl
@[simp] theorem raise_store (n : Notice) : (raise n s).store = s.store := rfl
@[simp] theorem raise_trains (n : Notice) : (raise n s).trains = s.trains := rfl
@[simp] theorem raise_disp (n : Notice) : (raise n s).disp = s.disp := rfl
@[simp] theorem raise_scan (n : Notice) : (raise n s).scan = s.scan := rfl
@[simp] theorem raise_clock (n : Notice) : (raise n s).clock = s.clock := rfl
@[simp] theorem raise_link (n : Notice) : (raise n s).link = s.link := rfl
@[simp] theorem raise_nv (n : Notice) : (raise n s).nv = s.nv := rfl
@[simp] theorem raise_port (n : Notice) : (raise n s).port = s.port := rfl
@[simp] theorem raise_pending (n : Notice) : (raise n s).pending = s.pending := rfl

/-! A raise on a condition: `raiseIf`. -/

@[simp] theorem raiseIf_now (b : Bool) (n : Notice) : (raiseIf b n s).now = s.now := by cases b <;> rfl
@[simp] theorem raiseIf_free (b : Bool) (n : Notice) : (raiseIf b n s).free = s.free := by cases b <;> rfl
@[simp] theorem raiseIf_pins (b : Bool) (n : Notice) : (raiseIf b n s).pins = s.pins := by cases b <;> rfl
@[simp] theorem raiseIf_cfg (b : Bool) (n : Notice) : (raiseIf b n s).cfg = s.cfg := by cases b <;> rfl
@[simp] theorem raiseIf_book (b : Bool) (n : Notice) : (raiseIf b n s).book = s.book := by cases b <;> rfl
@[simp] theorem raiseIf_queue (b : Bool) (n : Notice) : (raiseIf b n s).queue = s.queue := by cases b <;> rfl
@[simp] theorem raiseIf_engine (b : Bool) (n : Notice) : (raiseIf b n s).engine = s.engine := by cases b <;> rfl
@[simp] theorem raiseIf_caverns (b : Bool) (n : Notice) : (raiseIf b n s).caverns = s.caverns := by cases b <;> rfl
@[simp] theorem raiseIf_store (b : Bool) (n : Notice) : (raiseIf b n s).store = s.store := by cases b <;> rfl
@[simp] theorem raiseIf_trains (b : Bool) (n : Notice) : (raiseIf b n s).trains = s.trains := by cases b <;> rfl
@[simp] theorem raiseIf_disp (b : Bool) (n : Notice) : (raiseIf b n s).disp = s.disp := by cases b <;> rfl
@[simp] theorem raiseIf_scan (b : Bool) (n : Notice) : (raiseIf b n s).scan = s.scan := by cases b <;> rfl
@[simp] theorem raiseIf_clock (b : Bool) (n : Notice) : (raiseIf b n s).clock = s.clock := by cases b <;> rfl
@[simp] theorem raiseIf_link (b : Bool) (n : Notice) : (raiseIf b n s).link = s.link := by cases b <;> rfl
@[simp] theorem raiseIf_nv (b : Bool) (n : Notice) : (raiseIf b n s).nv = s.nv := by cases b <;> rfl
@[simp] theorem raiseIf_port (b : Bool) (n : Notice) : (raiseIf b n s).port = s.port := by cases b <;> rfl
@[simp] theorem raiseIf_pending (b : Bool) (n : Notice) : (raiseIf b n s).pending = s.pending := by cases b <;> rfl

/-! A cause of R30: `setVerify`. -/

@[simp] theorem setVerify_now : (setVerify s).now = s.now := rfl
@[simp] theorem setVerify_free : (setVerify s).free = s.free := rfl
@[simp] theorem setVerify_pins : (setVerify s).pins = s.pins := rfl
@[simp] theorem setVerify_cfg : (setVerify s).cfg = s.cfg := rfl
@[simp] theorem setVerify_book : (setVerify s).book = s.book := rfl
@[simp] theorem setVerify_queue : (setVerify s).queue = s.queue := rfl
@[simp] theorem setVerify_caverns : (setVerify s).caverns = s.caverns := rfl
@[simp] theorem setVerify_store : (setVerify s).store = s.store := rfl
@[simp] theorem setVerify_trains : (setVerify s).trains = s.trains := rfl
@[simp] theorem setVerify_disp : (setVerify s).disp = s.disp := rfl
@[simp] theorem setVerify_scan : (setVerify s).scan = s.scan := rfl
@[simp] theorem setVerify_clock : (setVerify s).clock = s.clock := rfl
@[simp] theorem setVerify_link : (setVerify s).link = s.link := rfl
@[simp] theorem setVerify_notices : (setVerify s).notices = s.notices := rfl
@[simp] theorem setVerify_nv : (setVerify s).nv = s.nv := rfl
@[simp] theorem setVerify_port : (setVerify s).port = s.port := rfl
@[simp] theorem setVerify_pending : (setVerify s).pending = s.pending := rfl

/-! A cause of R30 on a condition: `setVerifyIf`. -/

@[simp] theorem setVerifyIf_now (b : Bool) : (setVerifyIf b s).now = s.now := by cases b <;> rfl
@[simp] theorem setVerifyIf_free (b : Bool) : (setVerifyIf b s).free = s.free := by cases b <;> rfl
@[simp] theorem setVerifyIf_pins (b : Bool) : (setVerifyIf b s).pins = s.pins := by cases b <;> rfl
@[simp] theorem setVerifyIf_cfg (b : Bool) : (setVerifyIf b s).cfg = s.cfg := by cases b <;> rfl
@[simp] theorem setVerifyIf_book (b : Bool) : (setVerifyIf b s).book = s.book := by cases b <;> rfl
@[simp] theorem setVerifyIf_queue (b : Bool) : (setVerifyIf b s).queue = s.queue := by cases b <;> rfl
@[simp] theorem setVerifyIf_caverns (b : Bool) : (setVerifyIf b s).caverns = s.caverns := by cases b <;> rfl
@[simp] theorem setVerifyIf_store (b : Bool) : (setVerifyIf b s).store = s.store := by cases b <;> rfl
@[simp] theorem setVerifyIf_trains (b : Bool) : (setVerifyIf b s).trains = s.trains := by cases b <;> rfl
@[simp] theorem setVerifyIf_disp (b : Bool) : (setVerifyIf b s).disp = s.disp := by cases b <;> rfl
@[simp] theorem setVerifyIf_scan (b : Bool) : (setVerifyIf b s).scan = s.scan := by cases b <;> rfl
@[simp] theorem setVerifyIf_clock (b : Bool) : (setVerifyIf b s).clock = s.clock := by cases b <;> rfl
@[simp] theorem setVerifyIf_link (b : Bool) : (setVerifyIf b s).link = s.link := by cases b <;> rfl
@[simp] theorem setVerifyIf_notices (b : Bool) : (setVerifyIf b s).notices = s.notices := by cases b <;> rfl
@[simp] theorem setVerifyIf_nv (b : Bool) : (setVerifyIf b s).nv = s.nv := by cases b <;> rfl
@[simp] theorem setVerifyIf_port (b : Bool) : (setVerifyIf b s).port = s.port := by cases b <;> rfl
@[simp] theorem setVerifyIf_pending (b : Bool) : (setVerifyIf b s).pending = s.pending := by cases b <;> rfl

/-! An answer: `answer`. -/

@[simp] theorem answer_now (r : ResultCode) (b : Body) : (answer r b s).now = s.now := rfl
@[simp] theorem answer_free (r : ResultCode) (b : Body) : (answer r b s).free = s.free := rfl
@[simp] theorem answer_pins (r : ResultCode) (b : Body) : (answer r b s).pins = s.pins := rfl
@[simp] theorem answer_cfg (r : ResultCode) (b : Body) : (answer r b s).cfg = s.cfg := rfl
@[simp] theorem answer_book (r : ResultCode) (b : Body) : (answer r b s).book = s.book := rfl
@[simp] theorem answer_queue (r : ResultCode) (b : Body) : (answer r b s).queue = s.queue := rfl
@[simp] theorem answer_engine (r : ResultCode) (b : Body) : (answer r b s).engine = s.engine := rfl
@[simp] theorem answer_caverns (r : ResultCode) (b : Body) : (answer r b s).caverns = s.caverns := rfl
@[simp] theorem answer_store (r : ResultCode) (b : Body) : (answer r b s).store = s.store := rfl
@[simp] theorem answer_trains (r : ResultCode) (b : Body) : (answer r b s).trains = s.trains := rfl
@[simp] theorem answer_disp (r : ResultCode) (b : Body) : (answer r b s).disp = s.disp := rfl
@[simp] theorem answer_scan (r : ResultCode) (b : Body) : (answer r b s).scan = s.scan := rfl
@[simp] theorem answer_clock (r : ResultCode) (b : Body) : (answer r b s).clock = s.clock := rfl
@[simp] theorem answer_link (r : ResultCode) (b : Body) : (answer r b s).link = s.link := rfl
@[simp] theorem answer_notices (r : ResultCode) (b : Body) : (answer r b s).notices = s.notices := rfl
@[simp] theorem answer_nv (r : ResultCode) (b : Body) : (answer r b s).nv = s.nv := rfl
@[simp] theorem answer_pending (r : ResultCode) (b : Body) : (answer r b s).pending = s.pending := rfl

/-! An answer that carries nothing: `reply`. -/

@[simp] theorem reply_now (r : ResultCode) : (reply r s).now = s.now := rfl
@[simp] theorem reply_free (r : ResultCode) : (reply r s).free = s.free := rfl
@[simp] theorem reply_pins (r : ResultCode) : (reply r s).pins = s.pins := rfl
@[simp] theorem reply_cfg (r : ResultCode) : (reply r s).cfg = s.cfg := rfl
@[simp] theorem reply_book (r : ResultCode) : (reply r s).book = s.book := rfl
@[simp] theorem reply_queue (r : ResultCode) : (reply r s).queue = s.queue := rfl
@[simp] theorem reply_engine (r : ResultCode) : (reply r s).engine = s.engine := rfl
@[simp] theorem reply_caverns (r : ResultCode) : (reply r s).caverns = s.caverns := rfl
@[simp] theorem reply_store (r : ResultCode) : (reply r s).store = s.store := rfl
@[simp] theorem reply_trains (r : ResultCode) : (reply r s).trains = s.trains := rfl
@[simp] theorem reply_disp (r : ResultCode) : (reply r s).disp = s.disp := rfl
@[simp] theorem reply_scan (r : ResultCode) : (reply r s).scan = s.scan := rfl
@[simp] theorem reply_clock (r : ResultCode) : (reply r s).clock = s.clock := rfl
@[simp] theorem reply_link (r : ResultCode) : (reply r s).link = s.link := rfl
@[simp] theorem reply_notices (r : ResultCode) : (reply r s).notices = s.notices := rfl
@[simp] theorem reply_nv (r : ResultCode) : (reply r s).nv = s.nv := rfl
@[simp] theorem reply_pending (r : ResultCode) : (reply r s).pending = s.pending := rfl

/-! The loss of owed responses: `disownForwards`. -/

@[simp] theorem disownForwards_now : (disownForwards s).now = s.now := rfl
@[simp] theorem disownForwards_free : (disownForwards s).free = s.free := rfl
@[simp] theorem disownForwards_pins : (disownForwards s).pins = s.pins := rfl
@[simp] theorem disownForwards_cfg : (disownForwards s).cfg = s.cfg := rfl
@[simp] theorem disownForwards_book : (disownForwards s).book = s.book := rfl
@[simp] theorem disownForwards_queue : (disownForwards s).queue = s.queue := rfl
@[simp] theorem disownForwards_engine : (disownForwards s).engine = s.engine := rfl
@[simp] theorem disownForwards_caverns : (disownForwards s).caverns = s.caverns := rfl
@[simp] theorem disownForwards_store : (disownForwards s).store = s.store := rfl
@[simp] theorem disownForwards_trains : (disownForwards s).trains = s.trains := rfl
@[simp] theorem disownForwards_disp : (disownForwards s).disp = s.disp := rfl
@[simp] theorem disownForwards_scan : (disownForwards s).scan = s.scan := rfl
@[simp] theorem disownForwards_clock : (disownForwards s).clock = s.clock := rfl
@[simp] theorem disownForwards_notices : (disownForwards s).notices = s.notices := rfl
@[simp] theorem disownForwards_nv : (disownForwards s).nv = s.nv := rfl
@[simp] theorem disownForwards_port : (disownForwards s).port = s.port := rfl
@[simp] theorem disownForwards_pending : (disownForwards s).pending = s.pending := rfl

/-! A record written: `setRecord`. -/

@[simp] theorem setRecord_now (key : Nat) (r : Record) : (setRecord key r s).now = s.now := by unfold setRecord; split <;> rfl
@[simp] theorem setRecord_free (key : Nat) (r : Record) : (setRecord key r s).free = s.free := by unfold setRecord; split <;> rfl
@[simp] theorem setRecord_pins (key : Nat) (r : Record) : (setRecord key r s).pins = s.pins := by unfold setRecord; split <;> rfl
@[simp] theorem setRecord_cfg (key : Nat) (r : Record) : (setRecord key r s).cfg = s.cfg := by unfold setRecord; split <;> rfl
@[simp] theorem setRecord_queue (key : Nat) (r : Record) : (setRecord key r s).queue = s.queue := by unfold setRecord; split <;> rfl
@[simp] theorem setRecord_engine (key : Nat) (r : Record) : (setRecord key r s).engine = s.engine := by unfold setRecord; split <;> rfl
@[simp] theorem setRecord_caverns (key : Nat) (r : Record) : (setRecord key r s).caverns = s.caverns := by unfold setRecord; split <;> rfl
@[simp] theorem setRecord_store (key : Nat) (r : Record) : (setRecord key r s).store = s.store := by unfold setRecord; split <;> rfl
@[simp] theorem setRecord_trains (key : Nat) (r : Record) : (setRecord key r s).trains = s.trains := by unfold setRecord; split <;> rfl
@[simp] theorem setRecord_disp (key : Nat) (r : Record) : (setRecord key r s).disp = s.disp := by unfold setRecord; split <;> rfl
@[simp] theorem setRecord_scan (key : Nat) (r : Record) : (setRecord key r s).scan = s.scan := by unfold setRecord; split <;> rfl
@[simp] theorem setRecord_clock (key : Nat) (r : Record) : (setRecord key r s).clock = s.clock := by unfold setRecord; split <;> rfl
@[simp] theorem setRecord_link (key : Nat) (r : Record) : (setRecord key r s).link = s.link := by unfold setRecord; split <;> rfl
@[simp] theorem setRecord_notices (key : Nat) (r : Record) : (setRecord key r s).notices = s.notices := by unfold setRecord; split <;> rfl
@[simp] theorem setRecord_nv (key : Nat) (r : Record) : (setRecord key r s).nv = s.nv := by unfold setRecord; split <;> rfl
@[simp] theorem setRecord_port (key : Nat) (r : Record) : (setRecord key r s).port = s.port := by unfold setRecord; split <;> rfl
@[simp] theorem setRecord_pending (key : Nat) (r : Record) : (setRecord key r s).pending = s.pending := by unfold setRecord; split <;> rfl

/-! A record freed: `freeRecord`. -/

@[simp] theorem freeRecord_now (key : Nat) : (freeRecord key s).now = s.now := by unfold freeRecord; split <;> rfl
@[simp] theorem freeRecord_free (key : Nat) : (freeRecord key s).free = s.free := by unfold freeRecord; split <;> rfl
@[simp] theorem freeRecord_pins (key : Nat) : (freeRecord key s).pins = s.pins := by unfold freeRecord; split <;> rfl
@[simp] theorem freeRecord_cfg (key : Nat) : (freeRecord key s).cfg = s.cfg := by unfold freeRecord; split <;> rfl
@[simp] theorem freeRecord_queue (key : Nat) : (freeRecord key s).queue = s.queue := by unfold freeRecord; split <;> rfl
@[simp] theorem freeRecord_engine (key : Nat) : (freeRecord key s).engine = s.engine := by unfold freeRecord; split <;> rfl
@[simp] theorem freeRecord_caverns (key : Nat) : (freeRecord key s).caverns = s.caverns := by unfold freeRecord; split <;> rfl
@[simp] theorem freeRecord_store (key : Nat) : (freeRecord key s).store = s.store := by unfold freeRecord; split <;> rfl
@[simp] theorem freeRecord_trains (key : Nat) : (freeRecord key s).trains = s.trains := by unfold freeRecord; split <;> rfl
@[simp] theorem freeRecord_disp (key : Nat) : (freeRecord key s).disp = s.disp := by unfold freeRecord; split <;> rfl
@[simp] theorem freeRecord_scan (key : Nat) : (freeRecord key s).scan = s.scan := by unfold freeRecord; split <;> rfl
@[simp] theorem freeRecord_clock (key : Nat) : (freeRecord key s).clock = s.clock := by unfold freeRecord; split <;> rfl
@[simp] theorem freeRecord_link (key : Nat) : (freeRecord key s).link = s.link := by unfold freeRecord; split <;> rfl
@[simp] theorem freeRecord_notices (key : Nat) : (freeRecord key s).notices = s.notices := by unfold freeRecord; split <;> rfl
@[simp] theorem freeRecord_nv (key : Nat) : (freeRecord key s).nv = s.nv := by unfold freeRecord; split <;> rfl
@[simp] theorem freeRecord_port (key : Nat) : (freeRecord key s).port = s.port := by unfold freeRecord; split <;> rfl
@[simp] theorem freeRecord_pending (key : Nat) : (freeRecord key s).pending = s.pending := by unfold freeRecord; split <;> rfl

/-! An item dropped: `dropItem`. -/

@[simp] theorem dropItem_now (key : Nat) : (dropItem key s).now = s.now := rfl
@[simp] theorem dropItem_free (key : Nat) : (dropItem key s).free = s.free := rfl
@[simp] theorem dropItem_pins (key : Nat) : (dropItem key s).pins = s.pins := rfl
@[simp] theorem dropItem_cfg (key : Nat) : (dropItem key s).cfg = s.cfg := rfl
@[simp] theorem dropItem_book (key : Nat) : (dropItem key s).book = s.book := rfl
@[simp] theorem dropItem_caverns (key : Nat) : (dropItem key s).caverns = s.caverns := rfl
@[simp] theorem dropItem_store (key : Nat) : (dropItem key s).store = s.store := rfl
@[simp] theorem dropItem_trains (key : Nat) : (dropItem key s).trains = s.trains := rfl
@[simp] theorem dropItem_disp (key : Nat) : (dropItem key s).disp = s.disp := rfl
@[simp] theorem dropItem_scan (key : Nat) : (dropItem key s).scan = s.scan := rfl
@[simp] theorem dropItem_clock (key : Nat) : (dropItem key s).clock = s.clock := rfl
@[simp] theorem dropItem_link (key : Nat) : (dropItem key s).link = s.link := rfl
@[simp] theorem dropItem_notices (key : Nat) : (dropItem key s).notices = s.notices := rfl
@[simp] theorem dropItem_nv (key : Nat) : (dropItem key s).nv = s.nv := rfl
@[simp] theorem dropItem_port (key : Nat) : (dropItem key s).port = s.port := rfl
@[simp] theorem dropItem_pending (key : Nat) : (dropItem key s).pending = s.pending := rfl

/-! An item queued: `pushItem`. -/

@[simp] theorem pushItem_now (it : Item) : (pushItem it s).now = s.now := rfl
@[simp] theorem pushItem_free (it : Item) : (pushItem it s).free = s.free := rfl
@[simp] theorem pushItem_pins (it : Item) : (pushItem it s).pins = s.pins := rfl
@[simp] theorem pushItem_cfg (it : Item) : (pushItem it s).cfg = s.cfg := rfl
@[simp] theorem pushItem_book (it : Item) : (pushItem it s).book = s.book := rfl
@[simp] theorem pushItem_engine (it : Item) : (pushItem it s).engine = s.engine := rfl
@[simp] theorem pushItem_caverns (it : Item) : (pushItem it s).caverns = s.caverns := rfl
@[simp] theorem pushItem_store (it : Item) : (pushItem it s).store = s.store := rfl
@[simp] theorem pushItem_trains (it : Item) : (pushItem it s).trains = s.trains := rfl
@[simp] theorem pushItem_disp (it : Item) : (pushItem it s).disp = s.disp := rfl
@[simp] theorem pushItem_scan (it : Item) : (pushItem it s).scan = s.scan := rfl
@[simp] theorem pushItem_clock (it : Item) : (pushItem it s).clock = s.clock := rfl
@[simp] theorem pushItem_link (it : Item) : (pushItem it s).link = s.link := rfl
@[simp] theorem pushItem_notices (it : Item) : (pushItem it s).notices = s.notices := rfl
@[simp] theorem pushItem_nv (it : Item) : (pushItem it s).nv = s.nv := rfl
@[simp] theorem pushItem_port (it : Item) : (pushItem it s).port = s.port := rfl
@[simp] theorem pushItem_pending (it : Item) : (pushItem it s).pending = s.pending := rfl

/-! A command issued: `issue`. -/

@[simp] theorem issue_now (c : Cmd) : (issue c s).now = s.now := rfl
@[simp] theorem issue_free (c : Cmd) : (issue c s).free = s.free := rfl
@[simp] theorem issue_pins (c : Cmd) : (issue c s).pins = s.pins := rfl
@[simp] theorem issue_cfg (c : Cmd) : (issue c s).cfg = s.cfg := rfl
@[simp] theorem issue_book (c : Cmd) : (issue c s).book = s.book := rfl
@[simp] theorem issue_queue (c : Cmd) : (issue c s).queue = s.queue := rfl
@[simp] theorem issue_engine (c : Cmd) : (issue c s).engine = s.engine := rfl
@[simp] theorem issue_caverns (c : Cmd) : (issue c s).caverns = s.caverns := rfl
@[simp] theorem issue_store (c : Cmd) : (issue c s).store = s.store := rfl
@[simp] theorem issue_trains (c : Cmd) : (issue c s).trains = s.trains := rfl
@[simp] theorem issue_disp (c : Cmd) : (issue c s).disp = s.disp := rfl
@[simp] theorem issue_scan (c : Cmd) : (issue c s).scan = s.scan := rfl
@[simp] theorem issue_clock (c : Cmd) : (issue c s).clock = s.clock := rfl
@[simp] theorem issue_notices (c : Cmd) : (issue c s).notices = s.notices := rfl
@[simp] theorem issue_nv (c : Cmd) : (issue c s).nv = s.nv := rfl
@[simp] theorem issue_port (c : Cmd) : (issue c s).port = s.port := rfl
@[simp] theorem issue_pending (c : Cmd) : (issue c s).pending = s.pending := rfl

/-! An IDENT put in line: `putIdent`. -/

@[simp] theorem putIdent_now (i : Fin 8) : (putIdent i s).now = s.now := by unfold putIdent; split <;> rfl
@[simp] theorem putIdent_free (i : Fin 8) : (putIdent i s).free = s.free := by unfold putIdent; split <;> rfl
@[simp] theorem putIdent_pins (i : Fin 8) : (putIdent i s).pins = s.pins := by unfold putIdent; split <;> rfl
@[simp] theorem putIdent_cfg (i : Fin 8) : (putIdent i s).cfg = s.cfg := by unfold putIdent; split <;> rfl
@[simp] theorem putIdent_book (i : Fin 8) : (putIdent i s).book = s.book := by unfold putIdent; split <;> rfl
@[simp] theorem putIdent_queue (i : Fin 8) : (putIdent i s).queue = s.queue := by unfold putIdent; split <;> rfl
@[simp] theorem putIdent_engine (i : Fin 8) : (putIdent i s).engine = s.engine := by unfold putIdent; split <;> rfl
@[simp] theorem putIdent_caverns (i : Fin 8) : (putIdent i s).caverns = s.caverns := by unfold putIdent; split <;> rfl
@[simp] theorem putIdent_store (i : Fin 8) : (putIdent i s).store = s.store := by unfold putIdent; split <;> rfl
@[simp] theorem putIdent_trains (i : Fin 8) : (putIdent i s).trains = s.trains := by unfold putIdent; split <;> rfl
@[simp] theorem putIdent_disp (i : Fin 8) : (putIdent i s).disp = s.disp := by unfold putIdent; split <;> rfl
@[simp] theorem putIdent_scan (i : Fin 8) : (putIdent i s).scan = s.scan := by unfold putIdent; split <;> rfl
@[simp] theorem putIdent_clock (i : Fin 8) : (putIdent i s).clock = s.clock := by unfold putIdent; split <;> rfl
@[simp] theorem putIdent_notices (i : Fin 8) : (putIdent i s).notices = s.notices := by unfold putIdent; split <;> rfl
@[simp] theorem putIdent_nv (i : Fin 8) : (putIdent i s).nv = s.nv := by unfold putIdent; split <;> rfl
@[simp] theorem putIdent_port (i : Fin 8) : (putIdent i s).port = s.port := by unfold putIdent; split <;> rfl
@[simp] theorem putIdent_pending (i : Fin 8) : (putIdent i s).pending = s.pending := by unfold putIdent; split <;> rfl

/-! An IDENT put in line by SET_TRAIN: `putIdentAfter`. -/

@[simp] theorem putIdentAfter_now (i : Fin 8) : (putIdentAfter i s).now = s.now := by unfold putIdentAfter; split <;> simp
@[simp] theorem putIdentAfter_free (i : Fin 8) : (putIdentAfter i s).free = s.free := by unfold putIdentAfter; split <;> simp
@[simp] theorem putIdentAfter_pins (i : Fin 8) : (putIdentAfter i s).pins = s.pins := by unfold putIdentAfter; split <;> simp
@[simp] theorem putIdentAfter_cfg (i : Fin 8) : (putIdentAfter i s).cfg = s.cfg := by unfold putIdentAfter; split <;> simp
@[simp] theorem putIdentAfter_book (i : Fin 8) : (putIdentAfter i s).book = s.book := by unfold putIdentAfter; split <;> simp
@[simp] theorem putIdentAfter_queue (i : Fin 8) : (putIdentAfter i s).queue = s.queue := by unfold putIdentAfter; split <;> simp
@[simp] theorem putIdentAfter_engine (i : Fin 8) : (putIdentAfter i s).engine = s.engine := by unfold putIdentAfter; split <;> simp
@[simp] theorem putIdentAfter_caverns (i : Fin 8) : (putIdentAfter i s).caverns = s.caverns := by unfold putIdentAfter; split <;> simp
@[simp] theorem putIdentAfter_store (i : Fin 8) : (putIdentAfter i s).store = s.store := by unfold putIdentAfter; split <;> simp
@[simp] theorem putIdentAfter_trains (i : Fin 8) : (putIdentAfter i s).trains = s.trains := by unfold putIdentAfter; split <;> simp
@[simp] theorem putIdentAfter_disp (i : Fin 8) : (putIdentAfter i s).disp = s.disp := by unfold putIdentAfter; split <;> simp
@[simp] theorem putIdentAfter_scan (i : Fin 8) : (putIdentAfter i s).scan = s.scan := by unfold putIdentAfter; split <;> simp
@[simp] theorem putIdentAfter_clock (i : Fin 8) : (putIdentAfter i s).clock = s.clock := by unfold putIdentAfter; split <;> simp
@[simp] theorem putIdentAfter_notices (i : Fin 8) : (putIdentAfter i s).notices = s.notices := by unfold putIdentAfter; split <;> simp
@[simp] theorem putIdentAfter_nv (i : Fin 8) : (putIdentAfter i s).nv = s.nv := by unfold putIdentAfter; split <;> simp
@[simp] theorem putIdentAfter_port (i : Fin 8) : (putIdentAfter i s).port = s.port := by unfold putIdentAfter; split <;> simp
@[simp] theorem putIdentAfter_pending (i : Fin 8) : (putIdentAfter i s).pending = s.pending := by unfold putIdentAfter; split <;> simp

/-! An entry withdrawn from the line: `withdrawIdent`. -/

@[simp] theorem withdrawIdent_now (i : Fin 8) : (withdrawIdent i s).now = s.now := rfl
@[simp] theorem withdrawIdent_free (i : Fin 8) : (withdrawIdent i s).free = s.free := rfl
@[simp] theorem withdrawIdent_pins (i : Fin 8) : (withdrawIdent i s).pins = s.pins := rfl
@[simp] theorem withdrawIdent_cfg (i : Fin 8) : (withdrawIdent i s).cfg = s.cfg := rfl
@[simp] theorem withdrawIdent_book (i : Fin 8) : (withdrawIdent i s).book = s.book := rfl
@[simp] theorem withdrawIdent_queue (i : Fin 8) : (withdrawIdent i s).queue = s.queue := rfl
@[simp] theorem withdrawIdent_engine (i : Fin 8) : (withdrawIdent i s).engine = s.engine := rfl
@[simp] theorem withdrawIdent_caverns (i : Fin 8) : (withdrawIdent i s).caverns = s.caverns := rfl
@[simp] theorem withdrawIdent_store (i : Fin 8) : (withdrawIdent i s).store = s.store := rfl
@[simp] theorem withdrawIdent_trains (i : Fin 8) : (withdrawIdent i s).trains = s.trains := rfl
@[simp] theorem withdrawIdent_disp (i : Fin 8) : (withdrawIdent i s).disp = s.disp := rfl
@[simp] theorem withdrawIdent_scan (i : Fin 8) : (withdrawIdent i s).scan = s.scan := rfl
@[simp] theorem withdrawIdent_clock (i : Fin 8) : (withdrawIdent i s).clock = s.clock := rfl
@[simp] theorem withdrawIdent_notices (i : Fin 8) : (withdrawIdent i s).notices = s.notices := rfl
@[simp] theorem withdrawIdent_nv (i : Fin 8) : (withdrawIdent i s).nv = s.nv := rfl
@[simp] theorem withdrawIdent_port (i : Fin 8) : (withdrawIdent i s).port = s.port := rfl
@[simp] theorem withdrawIdent_pending (i : Fin 8) : (withdrawIdent i s).pending = s.pending := rfl

/-! Working fields of an entry written: `setTrain`. -/

@[simp] theorem setTrain_now (i : Fin 8) (w : TrainWork) : (setTrain i w s).now = s.now := rfl
@[simp] theorem setTrain_free (i : Fin 8) (w : TrainWork) : (setTrain i w s).free = s.free := rfl
@[simp] theorem setTrain_pins (i : Fin 8) (w : TrainWork) : (setTrain i w s).pins = s.pins := rfl
@[simp] theorem setTrain_cfg (i : Fin 8) (w : TrainWork) : (setTrain i w s).cfg = s.cfg := rfl
@[simp] theorem setTrain_book (i : Fin 8) (w : TrainWork) : (setTrain i w s).book = s.book := rfl
@[simp] theorem setTrain_queue (i : Fin 8) (w : TrainWork) : (setTrain i w s).queue = s.queue := rfl
@[simp] theorem setTrain_engine (i : Fin 8) (w : TrainWork) : (setTrain i w s).engine = s.engine := rfl
@[simp] theorem setTrain_caverns (i : Fin 8) (w : TrainWork) : (setTrain i w s).caverns = s.caverns := rfl
@[simp] theorem setTrain_store (i : Fin 8) (w : TrainWork) : (setTrain i w s).store = s.store := rfl
@[simp] theorem setTrain_disp (i : Fin 8) (w : TrainWork) : (setTrain i w s).disp = s.disp := rfl
@[simp] theorem setTrain_scan (i : Fin 8) (w : TrainWork) : (setTrain i w s).scan = s.scan := rfl
@[simp] theorem setTrain_clock (i : Fin 8) (w : TrainWork) : (setTrain i w s).clock = s.clock := rfl
@[simp] theorem setTrain_link (i : Fin 8) (w : TrainWork) : (setTrain i w s).link = s.link := rfl
@[simp] theorem setTrain_notices (i : Fin 8) (w : TrainWork) : (setTrain i w s).notices = s.notices := rfl
@[simp] theorem setTrain_nv (i : Fin 8) (w : TrainWork) : (setTrain i w s).nv = s.nv := rfl
@[simp] theorem setTrain_port (i : Fin 8) (w : TrainWork) : (setTrain i w s).port = s.port := rfl
@[simp] theorem setTrain_pending (i : Fin 8) (w : TrainWork) : (setTrain i w s).pending = s.pending := rfl

/-! The changeover record: `noteLeftRunning`. -/

@[simp] theorem noteLeftRunning_now (i : Fin 8) (old new : TrainState) : (noteLeftRunning i old new s).now = s.now := by unfold noteLeftRunning; split <;> rfl
@[simp] theorem noteLeftRunning_free (i : Fin 8) (old new : TrainState) : (noteLeftRunning i old new s).free = s.free := by unfold noteLeftRunning; split <;> rfl
@[simp] theorem noteLeftRunning_pins (i : Fin 8) (old new : TrainState) : (noteLeftRunning i old new s).pins = s.pins := by unfold noteLeftRunning; split <;> rfl
@[simp] theorem noteLeftRunning_cfg (i : Fin 8) (old new : TrainState) : (noteLeftRunning i old new s).cfg = s.cfg := by unfold noteLeftRunning; split <;> rfl
@[simp] theorem noteLeftRunning_book (i : Fin 8) (old new : TrainState) : (noteLeftRunning i old new s).book = s.book := by unfold noteLeftRunning; split <;> rfl
@[simp] theorem noteLeftRunning_queue (i : Fin 8) (old new : TrainState) : (noteLeftRunning i old new s).queue = s.queue := by unfold noteLeftRunning; split <;> rfl
@[simp] theorem noteLeftRunning_engine (i : Fin 8) (old new : TrainState) : (noteLeftRunning i old new s).engine = s.engine := by unfold noteLeftRunning; split <;> rfl
@[simp] theorem noteLeftRunning_caverns (i : Fin 8) (old new : TrainState) : (noteLeftRunning i old new s).caverns = s.caverns := by unfold noteLeftRunning; split <;> rfl
@[simp] theorem noteLeftRunning_store (i : Fin 8) (old new : TrainState) : (noteLeftRunning i old new s).store = s.store := by unfold noteLeftRunning; split <;> rfl
@[simp] theorem noteLeftRunning_trains (i : Fin 8) (old new : TrainState) : (noteLeftRunning i old new s).trains = s.trains := by unfold noteLeftRunning; split <;> rfl
@[simp] theorem noteLeftRunning_scan (i : Fin 8) (old new : TrainState) : (noteLeftRunning i old new s).scan = s.scan := by unfold noteLeftRunning; split <;> rfl
@[simp] theorem noteLeftRunning_clock (i : Fin 8) (old new : TrainState) : (noteLeftRunning i old new s).clock = s.clock := by unfold noteLeftRunning; split <;> rfl
@[simp] theorem noteLeftRunning_link (i : Fin 8) (old new : TrainState) : (noteLeftRunning i old new s).link = s.link := by unfold noteLeftRunning; split <;> rfl
@[simp] theorem noteLeftRunning_notices (i : Fin 8) (old new : TrainState) : (noteLeftRunning i old new s).notices = s.notices := by unfold noteLeftRunning; split <;> rfl
@[simp] theorem noteLeftRunning_nv (i : Fin 8) (old new : TrainState) : (noteLeftRunning i old new s).nv = s.nv := by unfold noteLeftRunning; split <;> rfl
@[simp] theorem noteLeftRunning_port (i : Fin 8) (old new : TrainState) : (noteLeftRunning i old new s).port = s.port := by unfold noteLeftRunning; split <;> rfl
@[simp] theorem noteLeftRunning_pending (i : Fin 8) (old new : TrainState) : (noteLeftRunning i old new s).pending = s.pending := by unfold noteLeftRunning; split <;> rfl

/-! A setpoint dropped: `dropSetpoint`. -/

@[simp] theorem dropSetpoint_now (i : Fin 8) (new : TrainState) : (dropSetpoint i new s).now = s.now := by unfold dropSetpoint; split <;> rfl
@[simp] theorem dropSetpoint_free (i : Fin 8) (new : TrainState) : (dropSetpoint i new s).free = s.free := by unfold dropSetpoint; split <;> rfl
@[simp] theorem dropSetpoint_pins (i : Fin 8) (new : TrainState) : (dropSetpoint i new s).pins = s.pins := by unfold dropSetpoint; split <;> rfl
@[simp] theorem dropSetpoint_cfg (i : Fin 8) (new : TrainState) : (dropSetpoint i new s).cfg = s.cfg := by unfold dropSetpoint; split <;> rfl
@[simp] theorem dropSetpoint_book (i : Fin 8) (new : TrainState) : (dropSetpoint i new s).book = s.book := by unfold dropSetpoint; split <;> rfl
@[simp] theorem dropSetpoint_queue (i : Fin 8) (new : TrainState) : (dropSetpoint i new s).queue = s.queue := by unfold dropSetpoint; split <;> rfl
@[simp] theorem dropSetpoint_engine (i : Fin 8) (new : TrainState) : (dropSetpoint i new s).engine = s.engine := by unfold dropSetpoint; split <;> rfl
@[simp] theorem dropSetpoint_caverns (i : Fin 8) (new : TrainState) : (dropSetpoint i new s).caverns = s.caverns := by unfold dropSetpoint; split <;> rfl
@[simp] theorem dropSetpoint_store (i : Fin 8) (new : TrainState) : (dropSetpoint i new s).store = s.store := by unfold dropSetpoint; split <;> rfl
@[simp] theorem dropSetpoint_trains (i : Fin 8) (new : TrainState) : (dropSetpoint i new s).trains = s.trains := by unfold dropSetpoint; split <;> rfl
@[simp] theorem dropSetpoint_scan (i : Fin 8) (new : TrainState) : (dropSetpoint i new s).scan = s.scan := by unfold dropSetpoint; split <;> rfl
@[simp] theorem dropSetpoint_clock (i : Fin 8) (new : TrainState) : (dropSetpoint i new s).clock = s.clock := by unfold dropSetpoint; split <;> rfl
@[simp] theorem dropSetpoint_link (i : Fin 8) (new : TrainState) : (dropSetpoint i new s).link = s.link := by unfold dropSetpoint; split <;> rfl
@[simp] theorem dropSetpoint_notices (i : Fin 8) (new : TrainState) : (dropSetpoint i new s).notices = s.notices := by unfold dropSetpoint; split <;> rfl
@[simp] theorem dropSetpoint_nv (i : Fin 8) (new : TrainState) : (dropSetpoint i new s).nv = s.nv := by unfold dropSetpoint; split <;> rfl
@[simp] theorem dropSetpoint_port (i : Fin 8) (new : TrainState) : (dropSetpoint i new s).port = s.port := by unfold dropSetpoint; split <;> rfl
@[simp] theorem dropSetpoint_pending (i : Fin 8) (new : TrainState) : (dropSetpoint i new s).pending = s.pending := by unfold dropSetpoint; split <;> rfl

/-! A poll mark kept: `notePollMark`. -/

@[simp] theorem notePollMark_now (i : Fin 8) (old new : TrainState) : (notePollMark i old new s).now = s.now := by unfold notePollMark; repeat (split <;> try rfl)
@[simp] theorem notePollMark_free (i : Fin 8) (old new : TrainState) : (notePollMark i old new s).free = s.free := by unfold notePollMark; repeat (split <;> try rfl)
@[simp] theorem notePollMark_pins (i : Fin 8) (old new : TrainState) : (notePollMark i old new s).pins = s.pins := by unfold notePollMark; repeat (split <;> try rfl)
@[simp] theorem notePollMark_cfg (i : Fin 8) (old new : TrainState) : (notePollMark i old new s).cfg = s.cfg := by unfold notePollMark; repeat (split <;> try rfl)
@[simp] theorem notePollMark_book (i : Fin 8) (old new : TrainState) : (notePollMark i old new s).book = s.book := by unfold notePollMark; repeat (split <;> try rfl)
@[simp] theorem notePollMark_queue (i : Fin 8) (old new : TrainState) : (notePollMark i old new s).queue = s.queue := by unfold notePollMark; repeat (split <;> try rfl)
@[simp] theorem notePollMark_engine (i : Fin 8) (old new : TrainState) : (notePollMark i old new s).engine = s.engine := by unfold notePollMark; repeat (split <;> try rfl)
@[simp] theorem notePollMark_caverns (i : Fin 8) (old new : TrainState) : (notePollMark i old new s).caverns = s.caverns := by unfold notePollMark; repeat (split <;> try rfl)
@[simp] theorem notePollMark_store (i : Fin 8) (old new : TrainState) : (notePollMark i old new s).store = s.store := by unfold notePollMark; repeat (split <;> try rfl)
@[simp] theorem notePollMark_trains (i : Fin 8) (old new : TrainState) : (notePollMark i old new s).trains = s.trains := by unfold notePollMark; repeat (split <;> try rfl)
@[simp] theorem notePollMark_disp (i : Fin 8) (old new : TrainState) : (notePollMark i old new s).disp = s.disp := by unfold notePollMark; repeat (split <;> try rfl)
@[simp] theorem notePollMark_scan (i : Fin 8) (old new : TrainState) : (notePollMark i old new s).scan = s.scan := by unfold notePollMark; repeat (split <;> try rfl)
@[simp] theorem notePollMark_clock (i : Fin 8) (old new : TrainState) : (notePollMark i old new s).clock = s.clock := by unfold notePollMark; repeat (split <;> try rfl)
@[simp] theorem notePollMark_notices (i : Fin 8) (old new : TrainState) : (notePollMark i old new s).notices = s.notices := by unfold notePollMark; repeat (split <;> try rfl)
@[simp] theorem notePollMark_nv (i : Fin 8) (old new : TrainState) : (notePollMark i old new s).nv = s.nv := by unfold notePollMark; repeat (split <;> try rfl)
@[simp] theorem notePollMark_port (i : Fin 8) (old new : TrainState) : (notePollMark i old new s).port = s.port := by unfold notePollMark; repeat (split <;> try rfl)
@[simp] theorem notePollMark_pending (i : Fin 8) (old new : TrainState) : (notePollMark i old new s).pending = s.pending := by unfold notePollMark; repeat (split <;> try rfl)

/-! A move of an entry: `moveTrain`. -/

@[simp] theorem moveTrain_now (i : Fin 8) (new : TrainState) (timer : Option Timer) : (moveTrain i new timer s).now = s.now := by simp [moveTrain]
@[simp] theorem moveTrain_free (i : Fin 8) (new : TrainState) (timer : Option Timer) : (moveTrain i new timer s).free = s.free := by simp [moveTrain]
@[simp] theorem moveTrain_pins (i : Fin 8) (new : TrainState) (timer : Option Timer) : (moveTrain i new timer s).pins = s.pins := by simp [moveTrain]
@[simp] theorem moveTrain_cfg (i : Fin 8) (new : TrainState) (timer : Option Timer) : (moveTrain i new timer s).cfg = s.cfg := by simp [moveTrain]
@[simp] theorem moveTrain_book (i : Fin 8) (new : TrainState) (timer : Option Timer) : (moveTrain i new timer s).book = s.book := by simp [moveTrain]
@[simp] theorem moveTrain_queue (i : Fin 8) (new : TrainState) (timer : Option Timer) : (moveTrain i new timer s).queue = s.queue := by simp [moveTrain]
@[simp] theorem moveTrain_caverns (i : Fin 8) (new : TrainState) (timer : Option Timer) : (moveTrain i new timer s).caverns = s.caverns := by simp [moveTrain]
@[simp] theorem moveTrain_store (i : Fin 8) (new : TrainState) (timer : Option Timer) : (moveTrain i new timer s).store = s.store := by simp [moveTrain]
@[simp] theorem moveTrain_scan (i : Fin 8) (new : TrainState) (timer : Option Timer) : (moveTrain i new timer s).scan = s.scan := by simp [moveTrain]
@[simp] theorem moveTrain_clock (i : Fin 8) (new : TrainState) (timer : Option Timer) : (moveTrain i new timer s).clock = s.clock := by simp [moveTrain]
@[simp] theorem moveTrain_notices (i : Fin 8) (new : TrainState) (timer : Option Timer) : (moveTrain i new timer s).notices = s.notices := by simp [moveTrain]
@[simp] theorem moveTrain_nv (i : Fin 8) (new : TrainState) (timer : Option Timer) : (moveTrain i new timer s).nv = s.nv := by simp [moveTrain]
@[simp] theorem moveTrain_port (i : Fin 8) (new : TrainState) (timer : Option Timer) : (moveTrain i new timer s).port = s.port := by simp [moveTrain]
@[simp] theorem moveTrain_pending (i : Fin 8) (new : TrainState) (timer : Option Timer) : (moveTrain i new timer s).pending = s.pending := by simp [moveTrain]

/-! Settings of an entry written: `setTrainCfg`. -/

@[simp] theorem setTrainCfg_now (i : Fin 8) (t : TrainCfg) : (setTrainCfg i t s).now = s.now := rfl
@[simp] theorem setTrainCfg_free (i : Fin 8) (t : TrainCfg) : (setTrainCfg i t s).free = s.free := rfl
@[simp] theorem setTrainCfg_pins (i : Fin 8) (t : TrainCfg) : (setTrainCfg i t s).pins = s.pins := rfl
@[simp] theorem setTrainCfg_book (i : Fin 8) (t : TrainCfg) : (setTrainCfg i t s).book = s.book := rfl
@[simp] theorem setTrainCfg_queue (i : Fin 8) (t : TrainCfg) : (setTrainCfg i t s).queue = s.queue := rfl
@[simp] theorem setTrainCfg_engine (i : Fin 8) (t : TrainCfg) : (setTrainCfg i t s).engine = s.engine := rfl
@[simp] theorem setTrainCfg_caverns (i : Fin 8) (t : TrainCfg) : (setTrainCfg i t s).caverns = s.caverns := rfl
@[simp] theorem setTrainCfg_store (i : Fin 8) (t : TrainCfg) : (setTrainCfg i t s).store = s.store := rfl
@[simp] theorem setTrainCfg_trains (i : Fin 8) (t : TrainCfg) : (setTrainCfg i t s).trains = s.trains := rfl
@[simp] theorem setTrainCfg_disp (i : Fin 8) (t : TrainCfg) : (setTrainCfg i t s).disp = s.disp := rfl
@[simp] theorem setTrainCfg_scan (i : Fin 8) (t : TrainCfg) : (setTrainCfg i t s).scan = s.scan := rfl
@[simp] theorem setTrainCfg_clock (i : Fin 8) (t : TrainCfg) : (setTrainCfg i t s).clock = s.clock := rfl
@[simp] theorem setTrainCfg_link (i : Fin 8) (t : TrainCfg) : (setTrainCfg i t s).link = s.link := rfl
@[simp] theorem setTrainCfg_notices (i : Fin 8) (t : TrainCfg) : (setTrainCfg i t s).notices = s.notices := rfl
@[simp] theorem setTrainCfg_nv (i : Fin 8) (t : TrainCfg) : (setTrainCfg i t s).nv = s.nv := rfl
@[simp] theorem setTrainCfg_port (i : Fin 8) (t : TrainCfg) : (setTrainCfg i t s).port = s.port := rfl
@[simp] theorem setTrainCfg_pending (i : Fin 8) (t : TrainCfg) : (setTrainCfg i t s).pending = s.pending := rfl

/-! Working fields of a cavern written: `setCavernWork`. -/

@[simp] theorem setCavernWork_now (i : Fin 4) (w : CavernWork) : (setCavernWork i w s).now = s.now := rfl
@[simp] theorem setCavernWork_free (i : Fin 4) (w : CavernWork) : (setCavernWork i w s).free = s.free := rfl
@[simp] theorem setCavernWork_pins (i : Fin 4) (w : CavernWork) : (setCavernWork i w s).pins = s.pins := rfl
@[simp] theorem setCavernWork_cfg (i : Fin 4) (w : CavernWork) : (setCavernWork i w s).cfg = s.cfg := rfl
@[simp] theorem setCavernWork_book (i : Fin 4) (w : CavernWork) : (setCavernWork i w s).book = s.book := rfl
@[simp] theorem setCavernWork_queue (i : Fin 4) (w : CavernWork) : (setCavernWork i w s).queue = s.queue := rfl
@[simp] theorem setCavernWork_engine (i : Fin 4) (w : CavernWork) : (setCavernWork i w s).engine = s.engine := rfl
@[simp] theorem setCavernWork_store (i : Fin 4) (w : CavernWork) : (setCavernWork i w s).store = s.store := rfl
@[simp] theorem setCavernWork_trains (i : Fin 4) (w : CavernWork) : (setCavernWork i w s).trains = s.trains := rfl
@[simp] theorem setCavernWork_disp (i : Fin 4) (w : CavernWork) : (setCavernWork i w s).disp = s.disp := rfl
@[simp] theorem setCavernWork_scan (i : Fin 4) (w : CavernWork) : (setCavernWork i w s).scan = s.scan := rfl
@[simp] theorem setCavernWork_clock (i : Fin 4) (w : CavernWork) : (setCavernWork i w s).clock = s.clock := rfl
@[simp] theorem setCavernWork_link (i : Fin 4) (w : CavernWork) : (setCavernWork i w s).link = s.link := rfl
@[simp] theorem setCavernWork_notices (i : Fin 4) (w : CavernWork) : (setCavernWork i w s).notices = s.notices := rfl
@[simp] theorem setCavernWork_nv (i : Fin 4) (w : CavernWork) : (setCavernWork i w s).nv = s.nv := rfl
@[simp] theorem setCavernWork_port (i : Fin 4) (w : CavernWork) : (setCavernWork i w s).port = s.port := rfl
@[simp] theorem setCavernWork_pending (i : Fin 4) (w : CavernWork) : (setCavernWork i w s).pending = s.pending := rfl

/-! Working fields of the store written: `setStoreWork`. -/

@[simp] theorem setStoreWork_now (w : StoreWork) : (setStoreWork w s).now = s.now := rfl
@[simp] theorem setStoreWork_free (w : StoreWork) : (setStoreWork w s).free = s.free := rfl
@[simp] theorem setStoreWork_pins (w : StoreWork) : (setStoreWork w s).pins = s.pins := rfl
@[simp] theorem setStoreWork_cfg (w : StoreWork) : (setStoreWork w s).cfg = s.cfg := rfl
@[simp] theorem setStoreWork_book (w : StoreWork) : (setStoreWork w s).book = s.book := rfl
@[simp] theorem setStoreWork_queue (w : StoreWork) : (setStoreWork w s).queue = s.queue := rfl
@[simp] theorem setStoreWork_engine (w : StoreWork) : (setStoreWork w s).engine = s.engine := rfl
@[simp] theorem setStoreWork_caverns (w : StoreWork) : (setStoreWork w s).caverns = s.caverns := rfl
@[simp] theorem setStoreWork_trains (w : StoreWork) : (setStoreWork w s).trains = s.trains := rfl
@[simp] theorem setStoreWork_disp (w : StoreWork) : (setStoreWork w s).disp = s.disp := rfl
@[simp] theorem setStoreWork_scan (w : StoreWork) : (setStoreWork w s).scan = s.scan := rfl
@[simp] theorem setStoreWork_clock (w : StoreWork) : (setStoreWork w s).clock = s.clock := rfl
@[simp] theorem setStoreWork_link (w : StoreWork) : (setStoreWork w s).link = s.link := rfl
@[simp] theorem setStoreWork_notices (w : StoreWork) : (setStoreWork w s).notices = s.notices := rfl
@[simp] theorem setStoreWork_nv (w : StoreWork) : (setStoreWork w s).nv = s.nv := rfl
@[simp] theorem setStoreWork_port (w : StoreWork) : (setStoreWork w s).port = s.port := rfl
@[simp] theorem setStoreWork_pending (w : StoreWork) : (setStoreWork w s).pending = s.pending := rfl

/-! The marks of R156 cleared: `clearHanded`. -/

@[simp] theorem clearHanded_now : (clearHanded s).now = s.now := rfl
@[simp] theorem clearHanded_free : (clearHanded s).free = s.free := rfl
@[simp] theorem clearHanded_pins : (clearHanded s).pins = s.pins := rfl
@[simp] theorem clearHanded_cfg : (clearHanded s).cfg = s.cfg := rfl
@[simp] theorem clearHanded_book : (clearHanded s).book = s.book := rfl
@[simp] theorem clearHanded_queue : (clearHanded s).queue = s.queue := rfl
@[simp] theorem clearHanded_engine : (clearHanded s).engine = s.engine := rfl
@[simp] theorem clearHanded_caverns : (clearHanded s).caverns = s.caverns := rfl
@[simp] theorem clearHanded_store : (clearHanded s).store = s.store := rfl
@[simp] theorem clearHanded_trains : (clearHanded s).trains = s.trains := rfl
@[simp] theorem clearHanded_disp : (clearHanded s).disp = s.disp := rfl
@[simp] theorem clearHanded_clock : (clearHanded s).clock = s.clock := rfl
@[simp] theorem clearHanded_link : (clearHanded s).link = s.link := rfl
@[simp] theorem clearHanded_notices : (clearHanded s).notices = s.notices := rfl
@[simp] theorem clearHanded_nv : (clearHanded s).nv = s.nv := rfl
@[simp] theorem clearHanded_port : (clearHanded s).port = s.port := rfl
@[simp] theorem clearHanded_pending : (clearHanded s).pending = s.pending := rfl

/-! A pass restarted: `restartPass`. -/

@[simp] theorem restartPass_now : (restartPass s).now = s.now := rfl
@[simp] theorem restartPass_free : (restartPass s).free = s.free := rfl
@[simp] theorem restartPass_pins : (restartPass s).pins = s.pins := rfl
@[simp] theorem restartPass_cfg : (restartPass s).cfg = s.cfg := rfl
@[simp] theorem restartPass_book : (restartPass s).book = s.book := rfl
@[simp] theorem restartPass_queue : (restartPass s).queue = s.queue := rfl
@[simp] theorem restartPass_engine : (restartPass s).engine = s.engine := rfl
@[simp] theorem restartPass_caverns : (restartPass s).caverns = s.caverns := rfl
@[simp] theorem restartPass_store : (restartPass s).store = s.store := rfl
@[simp] theorem restartPass_trains : (restartPass s).trains = s.trains := rfl
@[simp] theorem restartPass_disp : (restartPass s).disp = s.disp := rfl
@[simp] theorem restartPass_clock : (restartPass s).clock = s.clock := rfl
@[simp] theorem restartPass_link : (restartPass s).link = s.link := rfl
@[simp] theorem restartPass_notices : (restartPass s).notices = s.notices := rfl
@[simp] theorem restartPass_nv : (restartPass s).nv = s.nv := rfl
@[simp] theorem restartPass_port : (restartPass s).port = s.port := rfl
@[simp] theorem restartPass_pending : (restartPass s).pending = s.pending := rfl

/-! A reply mark set: `markReply`. -/

@[simp] theorem markReply_now (i : Fin 8) : (markReply i s).now = s.now := rfl
@[simp] theorem markReply_free (i : Fin 8) : (markReply i s).free = s.free := rfl
@[simp] theorem markReply_pins (i : Fin 8) : (markReply i s).pins = s.pins := rfl
@[simp] theorem markReply_cfg (i : Fin 8) : (markReply i s).cfg = s.cfg := rfl
@[simp] theorem markReply_book (i : Fin 8) : (markReply i s).book = s.book := rfl
@[simp] theorem markReply_queue (i : Fin 8) : (markReply i s).queue = s.queue := rfl
@[simp] theorem markReply_engine (i : Fin 8) : (markReply i s).engine = s.engine := rfl
@[simp] theorem markReply_caverns (i : Fin 8) : (markReply i s).caverns = s.caverns := rfl
@[simp] theorem markReply_store (i : Fin 8) : (markReply i s).store = s.store := rfl
@[simp] theorem markReply_trains (i : Fin 8) : (markReply i s).trains = s.trains := rfl
@[simp] theorem markReply_scan (i : Fin 8) : (markReply i s).scan = s.scan := rfl
@[simp] theorem markReply_clock (i : Fin 8) : (markReply i s).clock = s.clock := rfl
@[simp] theorem markReply_link (i : Fin 8) : (markReply i s).link = s.link := rfl
@[simp] theorem markReply_notices (i : Fin 8) : (markReply i s).notices = s.notices := rfl
@[simp] theorem markReply_nv (i : Fin 8) : (markReply i s).nv = s.nv := rfl
@[simp] theorem markReply_port (i : Fin 8) : (markReply i s).port = s.port := rfl
@[simp] theorem markReply_pending (i : Fin 8) : (markReply i s).pending = s.pending := rfl

end Sys2Proof.Machine
end

