-- ==== Sys2Proof/Laws/Port.lean ====
section
/-! SUPPORT. What the station port's shared operations do, each said once (R189 to R193, R198). -/

namespace Sys2Proof.Machine

/-- A request taken in IDLE acts on the state that the transfer leaves (R189). -/
theorem station_idle {s : State} (h : s.port.state = .idle) (act : State → State) : station act s = act s.taken := by
  simp [station, h, State.taken]

/-- A request taken in OWED or HOLDING is not decoded (R191). -/
theorem station_busy {s : State} (h : s.port.state ≠ .idle) (act : State → State) : station act s = sequenceError s := by
  unfold station
  split
  · contradiction
  · rfl

/-- A settings-class write acts where no save is in flight (R198). -/
theorem settingsWrite_idle {s : State} (h : s.nv.saving = none) (act : State → State) : settingsWrite act s = act s := by
  simp [settingsWrite, h]

/-- A settings-class write is refused BUSY while a save is in flight (R198). -/
theorem settingsWrite_busy {s : State} (h : s.nv.saving ≠ none) (act : State → State) :
    settingsWrite act s = reply .busy s := by
  cases hs : s.nv.saving <;> simp_all [settingsWrite]

/-- What an answer to a request taken in IDLE leaves (R189, R202). -/
theorem answer_taken (r : ResultCode) (b : Body) (s : State) : answer r b s.taken = s.answered r b := rfl

/-- What an empty answer to a request taken in IDLE leaves (R190). -/
theorem reply_taken (r : ResultCode) (s : State) : reply r s.taken = s.answered r .empty := rfl

@[simp] theorem taken_book (s : State) : s.taken.book = s.book := rfl
@[simp] theorem taken_cfg (s : State) : s.taken.cfg = s.cfg := rfl
@[simp] theorem taken_clock (s : State) : s.taken.clock = s.clock := rfl
@[simp] theorem taken_queue (s : State) : s.taken.queue = s.queue := rfl
@[simp] theorem taken_engine (s : State) : s.taken.engine = s.engine := rfl
@[simp] theorem taken_trains (s : State) : s.taken.trains = s.trains := rfl
@[simp] theorem taken_disp (s : State) : s.taken.disp = s.disp := rfl
@[simp] theorem taken_link (s : State) : s.taken.link = s.link := rfl
@[simp] theorem taken_scan (s : State) : s.taken.scan = s.scan := rfl
@[simp] theorem taken_nv (s : State) : s.taken.nv = s.nv := rfl
@[simp] theorem taken_notices (s : State) : s.taken.notices = s.notices := rfl
@[simp] theorem taken_caverns (s : State) : s.taken.caverns = s.caverns := rfl
@[simp] theorem taken_store (s : State) : s.taken.store = s.store := rfl
@[simp] theorem taken_now (s : State) : s.taken.now = s.now := rfl
@[simp] theorem taken_free (s : State) : s.taken.free = s.free := rfl
@[simp] theorem taken_pins (s : State) : s.taken.pins = s.pins := rfl
@[simp] theorem taken_pending (s : State) : s.taken.pending = s.pending := rfl
@[simp] theorem taken_lookup (s : State) (key : Nat) : s.taken.lookup key = s.lookup key := rfl

/-- A raise that finds its flag standing and unreported changes nothing (R192). -/
theorem raise_twice (n : Notice) (s : State) : raise n (raise n s) = raise n s := by
  simp [raise, BitVec.or_assoc, BitVec.and_assoc]

end Sys2Proof.Machine
end

