-- ==== Sys2Proof/Laws/Book.lean ====
section
/-! SUPPORT. Keys, records and the admission queue: what a read finds after a write (R3 to R5, R28). -/

namespace Sys2Proof.Machine

/-- The slot of a key made from a slot and a generation (R3). -/
@[simp] theorem slotOfKey_keyOf (i : Fin 128) (gen : Nat) : slotOfKey (keyOf i gen) = i := by
  apply Fin.ext
  simp only [slotOfKey, keyOf]
  omega

/-- The generation of a key made from a slot and a generation (R3). -/
@[simp] theorem keyOf_div (i : Fin 128) (gen : Nat) : keyOf i gen / 128 = gen := by
  have := i.isLt
  simp only [keyOf]
  omega

/-- The key of a slot's generation finds the slot's record (R5). -/
theorem lookup_keyOf (s : State) (i : Fin 128) : s.lookup (keyOf i s.book[i].gen) = s.book[i].record := by
  simp [State.lookup]

/-- A key that finds a record is the key of its slot's generation (R3, R5). -/
theorem key_of_lookup {s : State} {key : Nat} {r : Record} (h : s.lookup key = some r) :
    key = keyOf (slotOfKey key) s.book[slotOfKey key].gen ∧ s.book[slotOfKey key].record = some r := by
  simp only [State.lookup] at h
  split at h
  · rename_i hg
    refine ⟨?_, h⟩
    have hs : (slotOfKey key).val = key % 128 := rfl
    unfold keyOf
    omega
  · simp at h

/-- A record written for a key that finds one (R5). -/
theorem setRecord_of_lookup {s : State} {key : Nat} {r r' : Record} (h : s.lookup key = some r) :
    setRecord key r' s = s.withRecord key r' := by
  simp [setRecord, h, State.withRecord]

/-- A record freed for a key that finds one (R4, R5). -/
theorem freeRecord_of_lookup {s : State} {key : Nat} {r : Record} (h : s.lookup key = some r) :
    freeRecord key s = s.withFreed key := by
  simp [freeRecord, h, State.withFreed]

/-- What a write of a record leaves in the written slot (R3). -/
theorem book_withRecord_self (s : State) (key : Nat) (r : Record) :
    (s.withRecord key r).book[slotOfKey key] = ⟨s.book[slotOfKey key].gen, some r⟩ := by
  simp [State.withRecord]

/-- What a write of a record leaves in any other slot (R3). -/
theorem book_withRecord_other (s : State) {key : Nat} (r : Record) {i : Fin 128} (h : i ≠ slotOfKey key) :
    (s.withRecord key r).book[i] = s.book[i] := by
  have : (slotOfKey key).val ≠ i.val := fun e => h (Fin.ext e.symm)
  simp [State.withRecord, Vector.getElem_set_ne, this]

/-- A read of the written key gives the record written (R5). -/
theorem lookup_withRecord_self {s : State} {key : Nat} {r r' : Record} (h : s.lookup key = some r) :
    (s.withRecord key r').lookup key = some r' := by
  have hk := key_of_lookup h
  have hg : s.book[slotOfKey key].gen = key / 128 := by
    have := congrArg (· / 128) hk.1
    simpa using this.symm
  simp only [State.lookup, book_withRecord_self]
  rw [if_pos hg]

/-- A read of a key of another slot is left as it was (R5). -/
theorem lookup_withRecord_other (s : State) {key k : Nat} (r : Record) (h : slotOfKey k ≠ slotOfKey key) :
    (s.withRecord key r).lookup k = s.lookup k := by
  simp only [State.lookup, book_withRecord_other s r h]

/-- No item of a dropped key waits (R29). -/
theorem key_ne_of_mem_dropItem {key : Nat} {s : State} {it : Item} (h : it ∈ (dropItem key s).queue) : it.key ≠ key := by
  have h' : it ∈ s.queue.filter fun it => it.key != key := h
  simpa using (List.mem_filter.1 h').2

/-- An item of another key that waited still waits (R29). -/
theorem mem_dropItem {key : Nat} {s : State} {it : Item} (h : it ∈ s.queue) (hk : it.key ≠ key) :
    it ∈ (dropItem key s).queue := by
  change it ∈ s.queue.filter fun it => it.key != key
  simp [h, hk]

/-- The record that leaves the book's served states keeps no pending amendment (R17). -/
@[simp] theorem amendDropped_pending (r : Record) (c : Nat) : (r.amendDropped c).pendingAmend = none := by
  unfold Record.amendDropped
  split <;> simp_all

/-- Dropping an amendment leaves the state as it was (R17). -/
@[simp] theorem amendDropped_state (r : Record) (c : Nat) : (r.amendDropped c).state = r.state := by
  unfold Record.amendDropped
  split <;> rfl

end Sys2Proof.Machine
end

