-- ==== Sys2Proof/Laws/Folds.lean ====
section
/-! SUPPORT. What a fold over entries keeps: anything that each of its parts keeps. Every block's boundary and the dispatch
unit's passes over the roster are such folds. -/

namespace Sys2Proof.Machine

/-- A fold keeps what each of its steps keeps. -/
theorem foldl_keeps {α β : Type} (g : State → β) (f : State → α → State) (h : ∀ s a, g (f s a) = g s) (l : List α)
    (s : State) : g (l.foldl f s) = g s := by
  induction l generalizing s with
  | nil => rfl
  | cons a l ih => simp only [List.foldl_cons, ih, h]

/-- A fold keeps a predicate that each of its steps keeps. -/
theorem foldl_invariant {α : Type} (P : State → Prop) (f : State → α → State) (h : ∀ s a, P s → P (f s a)) (l : List α)
    (s : State) (hs : P s) : P (l.foldl f s) := by
  induction l generalizing s with
  | nil => exact hs
  | cons a l ih => exact ih _ (h s a hs)

/-- A pass in merit order keeps what each of its steps keeps. -/
theorem inMerit_keeps {β : Type} (g : State → β) (f : Fin 8 → State → State) (h : ∀ i s, g (f i s) = g s) (s : State) :
    g (inMerit f s) = g s :=
  foldl_keeps g (fun s i => f i s) (fun s i => h i s) _ s

/-- A pass in merit order keeps a predicate that each of its steps keeps. -/
theorem inMerit_invariant (P : State → Prop) (f : Fin 8 → State → State) (h : ∀ i s, P s → P (f i s)) (s : State)
    (hs : P s) : P (inMerit f s) :=
  foldl_invariant P (fun s i => f i s) (fun s i hs => h i s hs) _ s hs

/-- Recomputes keep what one recompute keeps (log entry 11). -/
theorem recompute_keeps {β : Type} (g : State → β) (h : ∀ s, g (recomputeOnce s) = g s) (s : State) :
    g (recompute s) = g s := by
  have key : ∀ n s, g (recomputeUpTo n s) = g s := by
    intro n
    induction n with
    | zero => intro s; rfl
    | succ n ih =>
      intro s
      simp only [recomputeUpTo]
      split
      · exact h s
      · rw [ih, h]
  exact key 9 s

/-- Recomputes keep a predicate that one recompute keeps (log entry 11). -/
theorem recompute_invariant (P : State → Prop) (h : ∀ s, P s → P (recomputeOnce s)) (s : State) (hs : P s) :
    P (recompute s) := by
  have key : ∀ n s, P s → P (recomputeUpTo n s) := by
    intro n
    induction n with
    | zero => intro s hs; exact hs
    | succ n ih =>
      intro s hs
      simp only [recomputeUpTo]
      split
      · exact h s hs
      · exact ih _ (h s hs)
  exact key 9 s hs

/-- One recompute is the composition of its passes: what each keeps, it keeps (R123 to R134). -/
theorem recomputeOnce_keeps {β : Type} (g : State → β) (h1 : ∀ s, g (formTarget s) = g s)
    (h2 : ∀ k s, g (cutLost k s) = g s) (h3 : ∀ l s, g (holdValues l s) = g s)
    (h4 : ∀ l i s, g (stopIfIdle l i s) = g s) (h5 : ∀ i s, g (setIfChanged i s) = g s)
    (h6 : ∀ b i s, g (startIfNeeded b i s) = g s) (s : State) : g (recomputeOnce s) = g s := by
  simp only [recomputeOnce]
  rw [inMerit_keeps g _ (h6 _), inMerit_keeps g _ h5, inMerit_keeps g _ (h4 _), h3, h2, h2, h1]

/-- The blocks of a boundary keep what each block keeps (R163). -/
theorem takeBoundaryIn_keeps {β : Type} (g : State → β) (ended n : Nat)
    (h : ∀ b s, g (takeBoundary ended n b s) = g s) (order : List Block) (s : State) :
    g (takeBoundaryIn order ended n s) = g s :=
  foldl_keeps g (fun s b => takeBoundary ended n b s) (fun s b => h b s) order s

end Sys2Proof.Machine
end

