-- ==== Sys2Proof/Laws/Roster.lean ====
section
/-! SUPPORT. What the moves of a roster entry and the issue of a command do, each said once (R105, R106, R131, R177). -/

namespace Sys2Proof.Machine

variable (s : State)

/-- A move writes the entry's state and timer and no other entry (R105). -/
theorem moveTrain_trains (i : Fin 8) (new : TrainState) (timer : Option Timer) :
    (moveTrain i new timer s).trains = s.trains.set i { s.trains[i] with state := new, timer := timer } := by
  simp [moveTrain, setTrain]

/-- A move drops the setpoint as its entry enters a state that keeps none (R129). -/
theorem moveTrain_setpoints (i : Fin 8) (new : TrainState) (timer : Option Timer) :
    (moveTrain i new timer s).disp.setpoints =
      if new.keepsSetpoint then s.disp.setpoints else s.disp.setpoints.set i none := by
  simp only [moveTrain, setVerifyIf_disp, notePollMark_disp]
  unfold dropSetpoint noteLeftRunning
  split <;> split <;> rfl

/-- A move out of RUNNING gives the changeover record the entry's kind with a count of 0, and no other move touches it
(R131). -/
theorem moveTrain_changeover (i : Fin 8) (new : TrainState) (timer : Option Timer) :
    ((moveTrain i new timer s).disp.changeKind, (moveTrain i new timer s).disp.changeCount) =
      if s.trains[i].state = .running ∧ new ≠ .running then (some s.cfg.trains[i].kind, 0)
      else (s.disp.changeKind, s.disp.changeCount) := by
  simp only [moveTrain, setVerifyIf_disp, notePollMark_disp]
  unfold dropSetpoint noteLeftRunning
  split <;> split <;> rfl

/-- An entry sent to STOPPING stands there with a fresh stop timer (R105). -/
theorem stopTrain_trains (i : Fin 8) :
    (stopTrain i s).trains = s.trains.set i { s.trains[i] with state := .stopping, timer := stopTimer i s } := by
  simp [stopTrain, enterStopping, moveTrain_trains]

/-- An entry locked out stands in LOCKED_OUT with its cause and no timer (R106, R107). -/
theorem lockOut_trains (i : Fin 8) (cause : LockoutCause) :
    (lockOut i cause s).trains =
      s.trains.set i { s.trains[i] with state := .lockedOut, timer := none, lockout := some cause } := by
  simp [lockOut, setTrain, moveTrain_trains]

/-- An entry that rests stands in RESTING with `rest_count = min_rest` (R102, R106, R110). -/
theorem enterResting_trains (i : Fin 8) :
    (enterResting i s).trains =
      s.trains.set i { s.trains[i] with state := .resting, timer := none, restCount := s.cfg.trains[i].minRest } := by
  simp [enterResting, setTrain, moveTrain_trains]

/-- An issued command waits in the queue (R177). -/
theorem mem_enqueue_self (c : Cmd) (q : List Cmd) : c ∈ enqueue c q := by
  unfold enqueue
  split
  · split
    · rename_i h
      obtain ⟨d, hd, hs⟩ := List.any_eq_true.mp h
      exact List.mem_map.mpr ⟨d, hd, by simp [hs]⟩
    · simp
  · simp only
    split <;> simp_all
  · split <;> simp_all

/-- Nothing waits after an issue but what waited before and the issued command (R177). -/
theorem mem_of_mem_enqueue {c d : Cmd} {q : List Cmd} (h : d ∈ enqueue c q) : d ∈ q ∨ d = c := by
  unfold enqueue at h
  split at h
  · split at h
    · obtain ⟨e, he, hd⟩ := List.mem_map.mp h
      split at hd
      · exact .inr hd.symm
      · exact .inl (hd ▸ he)
    · simpa using h
  · simp only at h
    split at h
    · exact .inl (List.mem_of_mem_filter h)
    · rcases List.mem_append.mp h with h | h
      · exact .inl (List.mem_of_mem_filter h)
      · exact .inr (by simpa using h)
  · split at h
    · exact .inl h
    · simpa using h

/-- A STOP that is issued leaves no SET of its entry waiting (R177). -/
theorem not_set_after_stop (i : Fin 8) (q : List Cmd) (p : Nat) : (⟨i, .set p⟩ : Cmd) ∉ enqueue ⟨i, .stop⟩ q := by
  intro h
  simp only [enqueue] at h
  split at h <;> simp [Cmd.isSetFor] at h

end Sys2Proof.Machine
end

