-- ==== Sys2Proof/Tests/Slice0.lean ====
section
/-! SUPPORT. The model's own tests: ill-formed terms that WellFormed refuses, transfers spelled out from R202 and R203, the
manual's worked figures, and for each statement with hypotheses a state and operands that meet them, clause by clause
and at the ends of their ranges. -/

namespace Sys2Proof.Tests

set_option Elab.async false

open Sys2Proof Sys2Proof.Machine

/-! ### Well-formed commands: each check refuses an ill-formed term -/

theorem test_wf_book : (Instr.book ⟨2 ^ 32, 0, 0, 0, 0, 0, none, none⟩).wellFormed = false := by decide
theorem test_wf_key : (Instr.confirm 65536).wellFormed = false ∧ (Instr.retire 65536).wellFormed = false
    ∧ (Instr.readCommitment 65536).wellFormed = false ∧ (Instr.amend ⟨0, none, some 256, none⟩).wellFormed = false := by
  decide
theorem test_wf_page : (Instr.listCommitments 256).wellFormed = false ∧ (Instr.readProjection 256).wellFormed = false := by
  decide
theorem test_wf_cavern : (Instr.setCavern ⟨1, none, none, some 65536, none, none, none⟩).wellFormed = false
    ∧ (Instr.loadCavernTable ⟨256, 0, 0, Vector.replicate 17 0⟩).wellFormed = false
    ∧ (Instr.readCavern 256).wellFormed = false := by decide
theorem test_wf_store :
    (Instr.setStore ⟨none, none, none, none, none, none, none, some 32768, none⟩).wellFormed = false
    ∧ (Instr.loadStoreTable ⟨Vector.replicate 9 (-32769), Vector.replicate 9 0⟩).wellFormed = false := by decide
theorem test_wf_train : (Instr.setTrain ⟨1, none, none, none, none, none, none, none, some 256, none, none, none, none,
    none⟩).wellFormed = false ∧ (Instr.setOutage ⟨1, List.replicate 5 ⟨0, 0⟩⟩).wellFormed = false
    ∧ (Instr.withdraw 256).wellFormed = false ∧ (Instr.restore 256).wellFormed = false
    ∧ (Instr.release 256).wellFormed = false ∧ (Instr.rebind 256).wellFormed = false
    ∧ (Instr.readTrain 256).wellFormed = false := by decide
theorem test_wf_site : (Instr.setSite ⟨none, none, none, none, some 65536, none, none, none⟩).wellFormed = false := by
  decide
theorem test_wf_channel : (Instr.setChannel ⟨0, some ⟨256, 0, 0⟩, none, none, none, none, none, none⟩).wellFormed = false
    ∧ (Instr.setScanList (List.replicate 33 0)).wellFormed = false ∧ (Instr.readChannel 256).wellFormed = false := by
  decide
theorem test_wf_clock : (Instr.setInterval (2 ^ 32) 0).wellFormed = false := by decide
theorem test_wf_link : (Instr.setAlias ⟨0, 1, ⟨256, 1, 0⟩⟩).wellFormed = false
    ∧ (Instr.forward ⟨0, 0, List.replicate 17 0#8⟩).wellFormed = false ∧ (Instr.linkSpeed 256).wellFormed = false := by
  decide
theorem test_wf_port : (Instr.setNoticeMask (2 ^ 24)).wellFormed = false ∧ (Instr.fetch 0).wellFormed = false
    ∧ (Instr.unknownCommand (.unknownCode 38)).wellFormed = false ∧ (Instr.unknownCommand (.misfit 0)).wellFormed = false := by
  decide
theorem test_wf_events : (Instr.entryComplete [1, 2, 3]).wellFormed = false ∧ (Instr.entryComplete [4096]).wellFormed = false
    ∧ (Instr.replyReceived []).wellFormed = false ∧ (Instr.startTimerExpiry 0).wellFormed = false
    ∧ (Instr.stopTimerExpiry 9).wellFormed = false ∧ (Instr.pollDue 0).wellFormed = false
    ∧ (Instr.periodicIdent 9).wellFormed = false := by decide

/-! ### Transfers, byte by byte from R190, R202 and R203 -/

/-- BOOK is code 1 with 22 parameter bytes: trade_ref, class FIRM, DISCHARGE, start 20,006, length 2, 61,000 kW, the tolerance
absent and hold_expiry absent. -/
theorem test_transfer_book : decodeTransfer [1, 22, 0, 0, 0, 7, 1, 1, 0, 0, 0x4E, 0x26, 2, 0, 0, 0xEE, 0x48, 0, 0, 0, 0, 0, 0, 0]
    = some (.book ⟨7, 1, 1, 20006, 2, 61000, none, none⟩) := by decide +kernel
/-- CONFIRM is code 2 with a two-byte key; bytes beyond the announced length are discarded. -/
theorem test_transfer_confirm : decodeTransfer [2, 2, 1, 5, 99] = some (.confirm 261) := by decide
/-- SET_STORE sends a signed temperature in two's complement: t_min_discharge −400 is FE70H. -/
theorem test_transfer_setStore : decodeTransfer ([12, 31] ++ List.replicate 28 0 ++ [1, 0xFE, 0x70])
    = some (.setStore ⟨none, none, none, none, none, none, none, none, some (-400)⟩) := by decide +kernel
theorem test_transfer_linkSpeed : decodeTransfer [32, 1, 1] = some (.linkSpeed 1) := by decide
theorem test_transfer_setInterval : decodeTransfer [28, 5, 0, 0, 0x4E, 0x20, 1] = some (.setInterval 20000 1) := by decide
theorem test_transfer_verify : decodeTransfer [8, 0] = some .verify := by decide
theorem test_transfer_readChannel : decodeTransfer [26, 1, 23] = some (.readChannel 23) := by decide
theorem test_transfer_withdraw : decodeTransfer [17, 1, 8] = some (.withdraw 8) := by decide
theorem test_transfer_readCavern : decodeTransfer [11, 1, 4] = some (.readCavern 4) := by decide
/-- SET_ALIAS is code 30 with an index, an alternative and three bytes; any alternative of that length fits (R186, R203). -/
theorem test_transfer_setAlias : decodeTransfer [30, 5, 7, 1, 254, 8, 1] = some (.setAlias ⟨7, 1, ⟨254, 8, 1⟩⟩)
    ∧ decodeTransfer [30, 5, 7, 2, 0, 0, 0] = some (.setAlias ⟨7, 2, ⟨0, 0, 0⟩⟩) := by decide
theorem test_transfer_fetch : decodeTransfer [0, 0, 0, 0] = some (.fetch 4) := by decide
/-- The cases of R190: no byte is no request; a short frame; an unknown code; a length that does not fit. -/
theorem test_transfer_refused : decodeTransfer [] = none ∧ decodeTransfer [2] = some (.unknownCommand .shortFrame)
    ∧ decodeTransfer [99, 3, 0] = some (.unknownCommand .shortFrame)
    ∧ decodeTransfer [39, 0] = some (.unknownCommand (.unknownCode 39))
    ∧ decodeTransfer [8, 1, 0] = some (.unknownCommand (.misfit 8)) := by decide
theorem test_tableWord : decodeTableWord 8 1 = none := rfl

/-! ### The manual's worked figures -/

/-- A table whose segments are those of the worked slot computation (chapter 2): segment 5 runs 5,200 to 5,560. -/
def table1 : MassTable :=
  ⟨20000000, 1500000, ⟨#[4000, 4200, 4400, 4600, 4800, 5200, 5560, 5700, 5800, 5900, 6000, 6100, 6200, 6300, 6400, 6500, 6600],
    rfl⟩⟩

def table2 : MassTable :=
  ⟨15000000, 1000000, ⟨#[4000, 4200, 4400, 4600, 4900, 5150, 5560, 5700, 5800, 5900, 6000, 6100, 6200, 6300, 6400, 6500, 6600],
    rfl⟩⟩

/-- Chapter 2, worked slot: P(28,000,000) = 5,320 and P(28,033,251) = 5,327; for cavern 2, 5,025 and 5,030. -/
theorem test_pressure_worked : table1.pressure 28000000 = 5320 ∧ table1.pressure 28033251 = 5327
    ∧ table2.pressure 19500000 = 5025 ∧ table2.pressure 19522166 = 5030 := by decide +kernel

def input (weight : Nat) (t : MassTable) (m : Nat) : CavernInput := ⟨true, weight, .good, m, t, 4000, 7000, 12⟩

/-- The copy of chapter 2's worked slot: one CHARGE record at 95,000 kW. -/
def workedCopy : RunCopy :=
  { interval := 20003
    counted := [⟨0, .charge, 95000, none, 20003, 2, .span⟩]
    caverns := ⟨#[input 3 table1 28000000, input 2 table2 19500000, ⟨false, 0, .held, 0, table1, 0, 0, 12⟩,
      ⟨false, 0, .held, 0, table1, 0, 0, 12⟩], rfl⟩
    startContent := 800000, capacity := 1200000, heatFloor := 100000, capturePermille := 600, drawPermille := 550
    lossPpm := 20, storeStatus := .good, chargeCaps := [120000], dischargeCaps := [0]
    importLimit := 400000, exportLimit := 400000, changeoverGap := 1, trip := false, direction := some .charge
    yieldG := 7000, useG := 6500 }

/-- Chapter 2, worked slot: the shares +33,251 and +22,166 of dM = +55,417, and H′ = 804,734 without DUMP. -/
theorem test_slot_worked : massChange workedCopy 95000 = 55417 ∧ signedShare workedCopy.caverns 55417 0 = 33251
    ∧ signedShare workedCopy.caverns 55417 1 = 22166 ∧ heatStage workedCopy 800000 95000 = (804734, false, false) := by
  decide +kernel

/-- Chapter 2, worked slot: the slot is OK, carries +95,000 kW, and cavern 1 ends at 28,033,251 kg and 5,327 cbar. -/
theorem test_slot_recorded :
    let sl := (runSlot workedCopy 0 (Carry.start workedCopy)).1
    sl.status = .ok ∧ sl.net = 95000 ∧ sl.caverns[0] = some ⟨28033251, 5327⟩ ∧ sl.caverns[2] = none := by decide +kernel

/-- Chapter 2, worked slot sequence: changeover with gap 1, and slot 2 with gap 2. -/
theorem test_changeover_worked : changeoverFails 1 (some .charge) 1 (-30000) = false
    ∧ changeoverFails 1 (some .discharge) 0 20000 = true ∧ changeoverFails 2 (some .charge) 1 (-30000) = true
    ∧ changeoverFails 1 (some .charge) 0 20000 = false := by decide

/-- Chapter 11: over both compressors 95,000 kW gives 54,286 and 40,714 kW. -/
theorem test_merit_worked : meritShares 95000 400000 [(80000, 20000), (60000, 15000)] = [54286, 40714] := by decide +kernel

/-- Chapter 11: the due of 95,000 kW is 7,916,666 Wh; key 0 closes HONOURED on its sums. -/
theorem test_credit_worked : dueOf 95000 = 7916666 ∧ isShort ⟨15833332, 15825000⟩ 20 = false := by decide

/-- Chapter 11: a lone member takes the whole pool of 7,900,000 Wh. -/
theorem test_pool_worked :
    (closedTallyOf ⟨20003, [⟨0, .charge, 95000⟩], 7900000 * 3600, 0⟩).credits
      = [⟨⟨0, .charge, 95000⟩, 7916666, 7900000⟩] := by decide +kernel

/-- R204: code 12 in the upper four bits of a compressor's address, 13 for an expander (R98: 192 to 199 and 208 to 215). -/
theorem test_address : ({ TrainCfg.factory 0 with index := 7 } : TrainCfg).busAddress = 199
    ∧ ({ TrainCfg.factory 0 with kind := .expander } : TrainCfg).busAddress = 208 := by decide

/-- The published check value of this CRC (register all ones, not inverted) over the characters 1 to 9 is 29B1H; the value is
from outside the manual. -/
theorem test_crc : crcOf [0x31, 0x32, 0x33, 0x34, 0x35, 0x36, 0x37, 0x38, 0x39] = 0x29B1#16 := by decide +kernel

/-- R205: the record's body is 73 bytes, and a projection page 858 (42 + 16 × 51). -/
theorem test_body_sizes :
    (Record.bytes 0 ⟨0, .firm, .charge, 0, 1, 1, none, 20, none, .proposed, none, none, none, none, none, none⟩).length = 73
    ∧ (Body.projection ⟨0, 0, false, none, false, []⟩ none []).bytes.length = 858 := by decide +kernel

/-- R203 and R205, byte by byte: a CLOSED record with a refused amendment, a mark, sums and an outcome; a full page with eight
items, its last slot a failing one of net power −1; and the notice set with AT_RISK and SITE_TRIP. -/
theorem test_body_bytes :
    let r : Record := ⟨7, .firm, .charge, 1003, 2, 95000, none, 20, none, .closed, none, none,
      some (.refused ⟨.rate, 1004, some 3⟩), some 1004, some ⟨83, 256⟩, some .short⟩
    let sl : ProjSlot := ⟨1000, -1, 0, 0, Vector.replicate 4 none, 0, false, .fail .late, 4⟩
    let page := (Body.projection ⟨0, 0, false, none, false, List.replicate 8 ⟨1, .amend⟩⟩ (some 985) (List.replicate 16 sl)).bytes
    (Body.commitment 384 r).bytes = [1, 0x80, 0, 0, 0, 7, 1, 0, 0, 0, 3, 0xEB, 2, 0, 1, 0x73, 0x18]
      ++ List.replicate 9 0 ++ [20] ++ List.replicate 5 0 ++ [6] ++ List.replicate 17 0 ++ [1, 9, 0, 0, 3, 0xEC, 3]
      ++ [1, 0, 0, 3, 0xEC] ++ [1, 0, 0, 0, 83, 0, 0, 1, 0] ++ [1, 1]
    ∧ page.length = 858 ∧ (page.drop 39).take 3 = [0, 1, 1]
    ∧ (page.drop 807).take 8 = [0, 0, 3, 0xE8, 255, 255, 255, 255] ∧ page.drop 856 = [10, 4]
    ∧ (Body.notices 0x400002 0x7FFFFF).bytes = [0x40, 0, 2, 0x7F, 255, 255] := by decide +kernel

/-! ### Small states for the witnesses -/

/-- The clock LOCKED in interval 1,000 with origin 0. -/
def base : State :=
  { State.reset with
    clock := { State.reset.clock with mode := .locked, interval := 1000 }
    notices := .cleared }

/-- A FIRM CHARGE record of 95,000 kW over 1,003 and 1,004, in a state. -/
def recIn (st : RecordState) : Record :=
  ⟨7, .firm, .charge, 1003, 2, 95000, none, 20, none, st, none, none, none, none, none, none⟩

/-- The base with a record under key 0. -/
def withRec (r : Record) : State := base.withRecord 0 r

/-- The base with a record in a state under key 0. -/
def holding (st : RecordState) : State := withRec (recIn st)

/-- Entry 1 configured as a compressor, in a state. -/
def entryIn (st : TrainState) : State :=
  { base with
    cfg := { base.cfg with trains := base.cfg.trains.set 0 { TrainCfg.factory 0 with configured := true } }
    trains := base.trains.set 0 { TrainWork.cleared with state := st } }

/-- The base with a save in flight. -/
def saving : State := { base with nv := { base.nv with saving := some base.cfg } }

/-- The result code that a command leaves in the port. -/
def resultOf (r : Result) : Option ResultCode :=
  match r with
  | .next t => match t.port.state with | .holding x => some x.result | _ => none
  | _ => none

/-- The result code of a command. -/
def res (c : Instr) (s : State) : Option ResultCode := resultOf (exec c s)

/-- The state after a command. -/
def after (c : Instr) (s : State) : State := match exec c s with | .next t => t | _ => s

/-- A BOOK of class FIRM, or TENTATIVE with a hold_expiry. -/
def booking (start length power : Nat) (hold : Option Nat) : Instr :=
  .book ⟨7, if hold.isSome then 0 else 1, 0, start, length, power, none, hold⟩

/-! ### Witnesses: the step and the book -/

theorem witness_StepRunsFrontCommand :
    ({ base with pending := [.verify] } : State).pending = .verify :: [] ∧ base.pending = [] := ⟨rfl, rfl⟩

theorem witness_RequestOutOfTurn : isRequest .verify = true ∧ isRequest (.unknownCommand .shortFrame) = true
    ∧ (after .identify base).port.state ≠ .idle ∧ res .verify (after .identify base) = some .sequenceError := by
  decide +kernel

/-- At the ends of the ranges: the last slot of the horizon is 1,287 and the earliest start 1,003. -/
theorem witness_BookGatesAndRecord : base.port.state = .idle ∧ res (booking 1003 2 1 none) State.reset = some .clockUnset
    ∧ res (booking 1003 49 1 none) base = some .badValue ∧ res (booking 1003 1 400001 none) base = some .badValue
    ∧ res (booking 1240 48 400000 none) base = some .queued ∧ res (booking 1241 48 400000 none) base = some .horizon
    ∧ res (booking 1002 1 1 none) base = some .late ∧ res (booking 1003 1 1 (some 1001)) base = some .queued
    ∧ res (booking 1003 1 1 (some 1000)) base = some .badValue := by decide +kernel

theorem witness_BookFullAndQueueFull :
    res (booking 1003 1 1 none) { base with book := Vector.replicate 128 ⟨0, some (recIn .firm)⟩ } = some .full
    ∧ res (booking 1003 1 1 none) { base with queue := List.replicate 8 ⟨5, .admitting⟩ } = some .queueFull := by decide +kernel

theorem witness_ConfirmTakesHold : base.lookup 0 = none ∧ (holding .tentative).lookup 0 = some (recIn .tentative)
    ∧ res (.confirm 0) (holding .tentative) = some .done ∧ res (.confirm 0) (holding .firm) = some .wrongState
    ∧ res (.confirm 128) (holding .tentative) = some .noRecord := by decide +kernel

/-- A FIRM record is amended at the ends of its gates; an ACTIVE one from 998 on must keep intervals 998 to 1,001. -/
theorem witness_AmendGatesAndQueue : res (.amend ⟨0, none, none, none⟩) base = some .noRecord
    ∧ res (.amend ⟨0, none, none, none⟩) (holding .closed) = some .wrongState
    ∧ res (.amend ⟨0, none, none, none⟩) (withRec { recIn .firm with pendingAmend := some ⟨1, 1, 1⟩ }) = some .busy
    ∧ res (.amend ⟨0, none, some 48, some 1240⟩) (holding .firm) = some .queued
    ∧ res (.amend ⟨0, none, some 48, some 1241⟩) (holding .firm) = some .horizon
    ∧ res (.amend ⟨0, none, none, some 1002⟩) (holding .firm) = some .late
    ∧ res (.amend ⟨0, some 0, none, none⟩) (holding .firm) = some .badValue
    ∧ res (.amend ⟨0, none, none, some 1003⟩) (withRec { recIn .tentative with holdExpiry := some 1004 }) = some .badValue
    ∧ res (.amend ⟨0, none, none, none⟩) { holding .firm with queue := List.replicate 8 ⟨5, .admitting⟩ } = some .queueFull := by
  decide +kernel

theorem witness_AmendActive :
    let r := { recIn .active with start := 998, length := 5 }
    res (.amend ⟨0, none, some 4, none⟩) (withRec r) = some .queued
    ∧ res (.amend ⟨0, none, some 3, none⟩) (withRec r) = some .late
    ∧ res (.amend ⟨0, none, none, some 999⟩) (withRec r) = some .badValue
    ∧ res (.amend ⟨0, none, some 48, none⟩) (withRec { r with start := 1240 }) = some .queued
    ∧ res (.amend ⟨0, none, some 48, none⟩) (withRec { r with start := 1241 }) = some .horizon
    ∧ res (.amend ⟨0, none, none, none⟩) { withRec r with queue := List.replicate 8 ⟨5, .admitting⟩ } = some .queueFull := by
  decide +kernel

theorem witness_RetireByState : res (.retire 0) base = some .noRecord ∧ res (.retire 0) (holding .proposed) = some .done
    ∧ res (.retire 0) (holding .refused) = some .done ∧ res (.retire 0) (holding .tentative) = some .done
    ∧ res (.retire 0) (holding .active) = some .done ∧ res (.retire 0) (holding .ending) = some .wrongState
    ∧ (after (.retire 0) (holding .closed)).book[0].gen = 1 := by decide +kernel

/-- R4: the generation after 511 is 0. -/
theorem test_generation_wraps :
    (({ base with book := base.book.set 0 ⟨511, some (recIn .closed)⟩ } : State).withFreed (511 * 128)).book[0].gen = 0 := by
  decide +kernel

theorem witness_BookReads : res (.readCommitment 0) base = some .noRecord ∧ res (.readCommitment 0) (holding .firm) = some .done
    ∧ res (.listCommitments 7) base = some .done ∧ res (.listCommitments 8) base = some .badValue := by decide +kernel

theorem witness_BookTakesBoundary : (bookBoundary 1003 (holding .firm)).book[0].record = some (recIn .active)
    ∧ ((bookBoundary 1003 (holding .tentative)).book[0].record.map Record.state) = some .closed
    ∧ (bookBoundary 1002 (holding .firm)).book[0].record = some (recIn .firm)
    ∧ (bookBoundary 1003 (holding .tentative)).noticeSet .holdLapsed = true
    ∧ (bookBoundary 1002 (holding .tentative)).noticeSet .holdLapsed = false := by decide +kernel

theorem witness_CreditClosesRecord :
    ((creditRecord 0 1003 10 10 (holding .active)).lookup 0).map Record.state = some .active
    ∧ ((creditRecord 0 1004 10 10 (holding .active)).lookup 0).map Record.outcome = some (some .honoured)
    ∧ ((creditRecord 0 1003 10 10 (holding .ending)).lookup 0).map Record.outcome = some (some .curtailed)
    ∧ ((creditRecord 0 1004 1000 979 (holding .active)).lookup 0).map Record.outcome = some (some .short)
    ∧ creditRecord 5 1003 10 10 (holding .active) = holding .active := by decide +kernel

/-- The cases of R16 at completion interval 1,003: no change, one in force, and one that takes effect next. -/
theorem witness_ActivePowerAmendment :
    ((recIn .active).withPower 1 1003).change = some ⟨1, 1004⟩
    ∧ (({ recIn .active with change := some ⟨2, 1003⟩ } : Record).withPower 1 1003).power = 2
    ∧ (({ recIn .active with change := some ⟨2, 1004⟩ } : Record).withPower 1 1003).change = some ⟨1, 1004⟩
    ∧ (recIn .active).withPower 95000 1003 = recIn .active := by decide

/-! ### Witnesses: projection and admission -/

/-- A slot of a table, OK or failing. -/
def slotAt (n : Nat) (st : SlotStatus) : ProjSlot := ⟨n, 0, 0, 0, Vector.replicate 4 none, 0, false, st, 0⟩

/-- The base with a live table of two slots. -/
def withLive : State := { base with engine := { base.engine with live := some [slotAt 1000 .ok, slotAt 1001 .ok] } }

/-- The base with a run in flight that has the least of inputs. -/
def running (kind : RunKind) (subject : Option Nat) (s : State) : State :=
  { s with engine := { s.engine with run := some ⟨kind, subject, false, workedCopy⟩ } }

/-- R21 and R52, whichever of the engine and the book takes the boundary first: an admission run that is started afresh while the
hold still stands leaves the flag for the next run, which takes the lapse into account. -/
theorem test_lapse_and_restart :
    ((bookBoundary 1003 (running .admitting (some 128) (holding .tentative))).engine.run.map Run.stale) = some true
    ∧ (bookBoundary 1003 (running .admitting (some 128) (holding .tentative))).engine.flag = true
    ∧ ((bookBoundary 1003 (running .admitting (some 128) (holding .firm))).engine.run.map Run.stale) = some false := by
  decide +kernel

theorem witness_ProjectionPagesAndPin : res (.readProjection 18) base = some .badValue
    ∧ res (.readProjection 0) withLive = some .done ∧ res (.readProjection 17) base = some .noSnapshot
    ∧ res (.readProjection 1) { base with engine := { base.engine with snap := ⟨none, 0, false, some 0⟩ } } = some .done
    ∧ (after (.readProjection 17) { base with engine := { base.engine with snap := ⟨none, 0, false, some 0⟩ } }).engine.snap.pin
      = none
    ∧ (after .pinTimeout { base with now := 10000, engine := { base.engine with snap := ⟨none, 0, false, some 0⟩ } }).engine.snap.pin
      = none := by decide +kernel

theorem witness_VerifyAndRunStart : res .verify State.reset = some .clockUnset ∧ res .verify base = some .queued
    ∧ State.reset.clock.running = false ∧ base.engine.run = none ∧ base.clock.running = true ∧ base.queue = []
    ∧ base.engine.flag = false
    ∧ ((after .runStart { base with queue := [⟨0, .admitting⟩] }).engine.run.map Run.kind) = some .admitting
    ∧ ((after .runStart { base with queue := [⟨0, .amend⟩] }).engine.run.map Run.kind) = some .amend
    ∧ ((after .runStart { base with engine := { base.engine with flag := true } }).engine.run.map Run.kind)
      = some .verification := by decide +kernel

/-- A READY compressor with start lead 3 counts from slot 3 on; the FIRM record is in slots 3 and 4 of the copy, and the
candidate of an amendment at its own power. -/
theorem witness_RunCopy :
    let s := { withRec { recIn .firm with pendingAmend := some ⟨5, 1, 1003⟩ } with
      cfg := { base.cfg with trains := base.cfg.trains.set 0 { TrainCfg.factory 0 with configured := true, startLead := 3 } }
      trains := base.trains.set 0 { TrainWork.cleared with state := .ready } }
    let copy := copyInputs s none
    (copy.chargeCaps[2]?, copy.chargeCaps[3]?) = (some 0, some (TrainCfg.factory 0).ratedKw)
    ∧ copy.direction = none ∧ (copyInputs (entryIn .stopping) none).direction = some .charge
    ∧ [2, 3, 4, 5].map (netPower copy) = [0, 95000, 95000, 0]
    ∧ [2, 3, 4, 5].map (netPower (copyInputs s (some ⟨0, .amend⟩))) = [0, 5, 0, 0] := by decide +kernel

theorem witness_VerificationRunCompletes : (running .verification none base).engine.run.isSome = true := rfl

/-- A booking with start at 1,002 is LATE at completion; one at 1,003 is not, and fails or passes by its table. -/
theorem witness_AdmissionRunCompletes :
    let s := running .admitting (some 0) (holding .proposed)
    ((running .admitting none base).engine.run.bind Run.subject) = none
    ∧ s.lookup 0 = some (recIn .proposed) ∧ (recIn .proposed).start = s.clock.interval + 1 + s.cfg.site.minNotice
    ∧ ((after .admissionRunComplete (running .admitting (some 0)
        (withRec { recIn .proposed with start := 1002 }))).lookup 0).map Record.state = some .refused
    ∧ ((after .admissionRunComplete (running .admitting (some 0)
        (withRec { recIn .proposed with cls := .tentative, start := 1002, holdExpiry := some 1000 }))).lookup 0).bind
          Record.refusal = some ⟨.late, 1002, none⟩
    ∧ (withRec { recIn .firm with pendingAmend := some ⟨1, 1, 1003⟩ }).lookup 0
      = some { recIn .firm with pendingAmend := some ⟨1, 1, 1003⟩ }
    ∧ blockingSlot [slotAt 1000 (.fail .grid)] none = some (slotAt 1000 (.fail .grid))
    ∧ blockingSlot [slotAt 1000 .ok] none = none := by decide +kernel

theorem witness_BlockingSlotIsLowest :
    blockingSlot [slotAt 0 (.fail .grid), slotAt 1 (.fail .rate)] (some [slotAt 0 (.fail .grid), slotAt 1 .noStatus])
      = some (slotAt 1 (.fail .rate)) := by decide +kernel

theorem witness_MarksFollowRun : (workedCopy.counted.map Counted.key).Nodup
    ∧ ((writeMarks workedCopy [slotAt 20003 (.fail .grid)] (holding .firm)).lookup 0).map Record.atRisk = some (some 20003)
    ∧ (writeMarks workedCopy [slotAt 20003 (.fail .grid)] (holding .firm)).noticeSet .atRisk = true
    ∧ (writeMarks workedCopy [slotAt 20003 .ok] (holding .firm)).noticeSet .atRisk = false
    ∧ ((writeMarks workedCopy [slotAt 20003 (.fail .grid)] (holding .closed)).lookup 0).map Record.atRisk = some none := by
  decide +kernel

theorem witness_SharesSumToMassChange : totalWeight workedCopy.caverns = 5 ∧ workedCopy.caverns[0].eligible = true
    ∧ workedCopy.caverns[1].eligible = true ∧ workedCopy.caverns[2].eligible = false := by decide

/-- Stage 8 at its boundaries (R44): the rate limit of 12 cbar, the pressure limits, and a mass one beyond the table. -/
theorem test_cavern_failures :
    let c := input 3 table1 28000000
    cavernFailures c 28000000 28033251 = [] ∧ cavernFailures { c with rateLimit := 6 } 28000000 28033251 = [.rate]
    ∧ cavernFailures { c with rateLimit := 7, pMax := 5326 } 28000000 28033251 = [.massHigh]
    ∧ cavernFailures { c with rateLimit := 6, pMin := 5328 } 28000000 28033251 = [.massLow, .rate]
    ∧ cavernFailures c 44000000 44000001 = [.tableRange] ∧ cavernFailures { c with rateLimit := 0 } 44000000 44000000 = [] := by
  decide +kernel

/-- The content at the floor is no failure, and one below it is. -/
theorem witness_HeatAndMassByDirection : heatStage workedCopy 100550 (-12000) = (99998, true, false)
    ∧ heatStage workedCopy 100552 (-12000) = (100000, false, false) ∧ heatStage workedCopy 800000 0 = (799984, false, false) := by
  decide +kernel

/-- A charging slot of a store of capacity 0 is marked DUMP, with a heat in that rounds to 0 too (R83, log entry 38). -/
theorem test_dump_of_defaulted_store : heatStage { workedCopy with capacity := 0 } 0 9 = (0, false, true)
    ∧ heatStage { workedCopy with capacity := 0 } 0 0 = (0, false, false) := by decide +kernel

theorem witness_EngineTakesBoundary : base.engine.live = none ∧ base.engine.run = none
    ∧ withLive.engine.live = some (slotAt 1000 .ok :: ([] ++ [slotAt 1001 .ok]))
    ∧ ((engineBoundary 1001 (running .admitting (some 0) base)).engine.run.bind Run.subject) = some 0
    ∧ ((engineBoundary 1001 (running .amend (some 0) base)).engine.run.map Run.kind) = some .amend
    ∧ (engineBoundary 1001 (running .verification none base)).engine.run = none
    ∧ (engineBoundary 1001 withLive).engine.closed = some (slotAt 1000 .ok) := by decide +kernel

/-! ### Witnesses: caverns and heat store -/

/-- A table for LOAD_CAVERN_TABLE at the end of its ranges: m0 + 16 × 250,000,000 = 4,000,000,000. -/
def loadTable (n m0 : Nat) : Instr := .loadCavernTable ⟨n, m0, 250000000, Vector.replicate 17 30000⟩

theorem witness_CavernSettings : res (.setCavern ⟨0, none, none, none, none, none, none⟩) base = some .badValue
    ∧ res (.setCavern ⟨5, none, none, none, none, none, none⟩) base = some .badValue
    ∧ res (.setCavern ⟨4, some 1, some 15, some 29999, some 30000, some 500, some 50000000⟩) base = some .done
    ∧ res (.setCavern ⟨1, none, none, some 30000, none, none, none⟩) base = some .badValue
    ∧ res (.setCavern ⟨1, none, none, none, none, some 0, none⟩) base = some .badValue
    ∧ res (loadTable 1 0) base = some .done ∧ res (loadTable 1 1) base = some .badValue
    ∧ res (loadTable 5 0) base = some .badValue
    ∧ base.caverns[0].votedP = none ∧ base.caverns[0].measured = none := by decide +kernel

/-- A ban that changes: cavern 1 in service with weight 1 and a voted pressure above the new p_max. -/
theorem witness_CavernBanChanges :
    (let c := { CavernCfg.factory with inService := true, weight := 1, pMin := 4000, pMax := 5000 }
    cavernInhibitOf c (some 5001) = .noCharge ∧ cavernInhibitOf c (some 5000) = .noBan ∧ cavernInhibitOf c (some 4000) = .noBan
    ∧ cavernInhibitOf c (some 3999) = .noDischarge ∧ cavernInhibitOf c none = .noBan
    ∧ cavernInhibitOf { c with weight := 0 } (some 3999) = .noBan
    ∧ cavernInhibitOf { c with inService := false } (some 5001) = .noBan) := by decide

/-- The base with cavern 1 in a trust at a hold age, its mass measured at 28,000,000 kg. -/
def cavernAt (st : Trust) (age : Nat) : State :=
  { base with
    cfg := { base.cfg with caverns := base.cfg.caverns.set 0 { base.cfg.caverns[0] with table := table1 } }
    caverns := base.caverns.set 0 { base.caverns[0] with status := st, holdAge := age, measured := some 28000000 }
    engine := { base.engine with closed := some { slotAt 999 .ok with
      caverns := (Vector.replicate 4 none).set 0 (some ⟨27999000, 5320⟩) } } }

/-- R71 to R74 and R156: a vote of each outcome, the drift, the last boundary in HELD and the one into UNKNOWN. -/
theorem witness_CavernTakesVotesAndBoundaries :
    (cavernBoundary 999 0 (cavernAt .good 0)).caverns[0].drift = some 1000
    ∧ (cavernBoundary 998 0 (cavernAt .good 0)).caverns[0].drift = none
    ∧ (cavernBoundary 999 0 (cavernAt .held (base.cfg.site.holdLimit - 2))).caverns[0].status = .held
    ∧ (cavernBoundary 999 0 (cavernAt .held (base.cfg.site.holdLimit - 1))).caverns[0].status = .unknown
    ∧ (cavernBoundary 999 0 (cavernAt .held (base.cfg.site.holdLimit - 1))).noticeSet .cavernUnknown = true
    ∧ (cavernBoundary 999 0 (cavernAt .unknown 65535)).caverns[0].holdAge = 65535
    ∧ (takeVote 0 (.good 5320) ⟨false, false, true⟩ (cavernAt .unknown 9)).caverns[0].startMass = 28000000
    ∧ (takeVote 0 .noMajority ⟨false, false, false⟩ (cavernAt .good 0)).caverns[0].status = .held
    ∧ (scannerBoundary (cavernAt .good 0)).caverns[0].status = .held
    ∧ (scannerBoundary { cavernAt .good 0 with scan := { base.scan with handed := Vector.replicate 4 true } }).caverns[0].status
      = .good := by decide +kernel

theorem witness_ForwardMapFollowsTable : 1 ≤ table1.step ∧ (∀ k : Fin 16, table1.p[k.castSucc] ≤ table1.p[k.succ])
    ∧ table1.pressure 44000000 = 6600 ∧ table1.recordedPressure 19999999 = 4000
    ∧ table1.recordedPressure 44000001 = 6600 := by decide +kernel

theorem witness_InverseMapNeverAbove : table1.mass 3999 = (20000000, .belowTable) ∧ table1.mass 4000 = (20000000, .inTable)
    ∧ table1.mass 6599 = (43985000, .inTable) ∧ table1.mass 6600 = (44000000, .aboveTable) := by decide +kernel

theorem witness_StoreSettings :
    res (.setStore ⟨some 4000000, some 4000000, some 1000, some 1000, some 1000, some 20000, some 1000, some 7000,
      some 6999⟩) base = some .done
    ∧ res (.setStore ⟨some 4000001, none, none, none, none, none, none, none, none⟩) base = some .badValue
    ∧ res (.setStore ⟨none, some 1, none, none, none, none, none, none, none⟩) base = some .badValue
    ∧ res (.loadStoreTable ⟨StoreCfg.factory.temps, Vector.replicate 9 4000000⟩) base = some .done
    ∧ res (.loadStoreTable ⟨Vector.replicate 9 0, Vector.replicate 9 0⟩) base = some .badValue
    ∧ base.store.meanT = none ∧ base.store.content = none
    ∧ storeInhibitOf { StoreCfg.factory with tMaxCharge := 500 } (some 501) = .noCharge := by decide +kernel

theorem witness_StoreFollowsTemperatures :
    (∀ k : Fin 8, StoreCfg.factory.temps[k.castSucc] < StoreCfg.factory.temps[k.succ])
    ∧ ({ StoreCfg.factory with contents := ⟨#[0, 9, 9, 9, 9, 9, 9, 9, 90], rfl⟩ } : StoreCfg).contentOf 499 = 8
    ∧ ({ StoreCfg.factory with contents := ⟨#[0, 9, 9, 9, 9, 9, 9, 9, 90], rfl⟩ } : StoreCfg).contentOf (-401) = 0
    ∧ ({ StoreCfg.factory with contents := ⟨#[0, 9, 9, 9, 9, 9, 9, 9, 90], rfl⟩ } : StoreCfg).contentOf 6800 = 90 := by
  decide +kernel

/-- The base with a store in a trust at a hold age, with an outcome heard or not. -/
def storeAt (st : Trust) (age : Nat) (heard : Bool) : State :=
  { base with store := { base.store with status := st, holdAge := age, heard := heard, content := some 5 } }

/-- R88 to R91: the ends of the counted range, the floored mean, silence, and the hold limit of 1 and of 6. -/
theorem test_store_trust :
    (takeTemperatures [⟨0, some (-400), .clear⟩, ⟨0, some (-401), .clear⟩, ⟨0, some 7001, .clear⟩] base).store.validCount = 1
    ∧ (takeTemperatures [⟨0, some (-2), .clear⟩, ⟨0, some (-1), .clear⟩] base).store.meanT = some (-2)
    ∧ (takeTemperatures [⟨0, none, .noState⟩] (storeAt .good 0 true)).store.status = .held
    ∧ (storeBoundary (storeAt .good 0 true)).store.startContent = 5
    ∧ (storeBoundary (storeAt .good 0 false)).store.holdAge = 1
    ∧ (storeBoundary (storeAt .held (base.cfg.site.holdLimit - 2) true)).store.status = .held
    ∧ (storeBoundary (storeAt .held (base.cfg.site.holdLimit - 1) true)).store.status = .unknown := by decide +kernel

theorem witness_ReadsAndRefusals : res (.readCavern 4) base = some .done ∧ res (.readCavern 5) base = some .badValue
    ∧ res (.readTrain 8) base = some .done ∧ res (.readTrain 9) base = some .badValue
    ∧ res (.readChannel 23) base = some .done ∧ res (.readChannel 24) base = some .badValue
    ∧ res (.unknownCommand (.unknownCode 39)) base = some .unknownCommand := by decide +kernel

/-- The first interval from which a READY entry counts, as READ_TRAIN carries it: absent while the clock is ARMED (R118, R159). -/
theorem test_first_interval :
    let first := fun s : State => match (after (.readTrain 1) s).port.state with
      | .holding ⟨_, .train _ _ _ _ n _⟩ => n
      | _ => none
    first (entryIn .ready) = some 1000
    ∧ first { entryIn .ready with clock := { base.clock with mode := .armed } } = none := by decide +kernel

/-! ### Witnesses: roster and dispatch -/

/-- A SET_TRAIN that names an entry and its configured flag and ratings. -/
def setTrainOf (entry : Nat) (configured rated minStable : Option Nat) : Instr :=
  .setTrain ⟨entry, configured, none, none, none, none, rated, minStable, none, none, none, none, none, none⟩

theorem witness_SetTrainGatesAndEffects : res (setTrainOf 0 none none none) base = some .badValue
    ∧ res (setTrainOf 9 none none none) base = some .badValue
    ∧ res (setTrainOf 8 (some 1) (some 1000) (some 1000)) base = some .done
    ∧ res (setTrainOf 8 (some 1) (some 1000) (some 1001)) base = some .badValue
    ∧ res (setTrainOf 1 (some 0) none none) (entryIn .ready) = some .wrongState
    ∧ res (setTrainOf 1 (some 0) none none) (entryIn .withdrawn) = some .done
    ∧ (after (setTrainOf 2 (some 1) none none) base).link.idents = [1] := by decide +kernel

/-- Entry 1 LOST, holding 50,000 kW. -/
def lostHolding : State :=
  { entryIn .lost with disp := { base.disp with setpoints := base.disp.setpoints.set 0 (some ⟨50000, some 50000⟩) } }

/-- R100 and R125: a rating below the held value of a LOST entry cuts it, a least stable power above it brings it to 0; a
cleared entry has no bind_fault; a new index of an ABSENT entry drops the fault and disowns the IDENT in flight. -/
theorem test_set_train_effects :
    (after (setTrainOf 1 none (some 40000) (some 1000)) lostHolding).disp.setpoints[0] = some ⟨40000, some 50000⟩
    ∧ (after (setTrainOf 1 none (some 90000) (some 50001)) lostHolding).disp.setpoints[0] = some ⟨0, some 50000⟩
    ∧ (after (setTrainOf 1 none (some 90000) (some 50000)) lostHolding).disp.setpoints[0] = some ⟨50000, some 50000⟩
    ∧ (let s := entryIn .absent
       let f := { s with
         trains := s.trains.set 0 { TrainWork.cleared with bindFault := some .kind }
         link := { s.link with slot := some ⟨⟨192, 0, .ident, []⟩, [.base], some 0, .ident, false, false⟩ } }
       let t := after (.setTrain ⟨1, none, none, some 5, none, none, none, none, none, none, none, none, none, none⟩) f
       (after (setTrainOf 1 (some 0) none none) f).trains[0].bindFault = none ∧ t.trains[0].bindFault = none
       ∧ t.link.slot = some ⟨⟨192, 0, .ident, []⟩, [.base], some 0, .ident, true, true⟩) := by decide +kernel

theorem witness_EntryCommands : res (.withdraw 0) base = some .badValue ∧ res (.withdraw 9) base = some .badValue
    ∧ res (.setOutage ⟨1, List.replicate 5 ⟨0, 0⟩⟩) base = some .badValue
    ∧ res (.setOutage ⟨1, [⟨1, 0⟩]⟩) base = some .badValue
    ∧ res (.setOutage ⟨1, [⟨1, 0⟩]⟩) (entryIn .ready) = some .badValue ∧ res (.setOutage ⟨1, []⟩) base = some .noRecord
    ∧ res (.setOutage ⟨1, List.replicate 4 ⟨0, 0⟩⟩) (entryIn .ready) = some .done
    ∧ res (.withdraw 1) (entryIn .running) = some .wrongState ∧ res (.withdraw 1) (entryIn .lost) = some .done
    ∧ res (.restore 1) (entryIn .ready) = some .wrongState ∧ res (.restore 1) (entryIn .withdrawn) = some .done
    ∧ res (.release 1) (entryIn .ready) = some .wrongState ∧ res (.release 1) (entryIn .lockedOut) = some .done
    ∧ res (.rebind 1) (entryIn .lost) = some .wrongState ∧ res (.rebind 1) (entryIn .absent) = some .done
    ∧ res (.rebind 1) (entryIn .ready) = some .done := by decide +kernel

/-- A timer that runs out at this moment has run out. -/
def timed (st : TrainState) (k : TimerKind) : State :=
  { entryIn st with trains := (entryIn st).trains.set 0 { TrainWork.cleared with state := st, timer := some ⟨k, 0⟩ } }

theorem witness_TimersAndBoundaryCounts :
    (after (.startTimerExpiry 1) (timed .starting .start)).trains[0].lockout = some .startFail
    ∧ (after (.stopTimerExpiry 1) (timed .stopping .stop)).trains[0].lockout = some .stopFail
    ∧ (entryIn .starting).trains[0].timer = none
    ∧ (after (.periodicIdent 1) { entryIn .absent with
        trains := base.trains.set 0 { TrainWork.cleared with identDue := some 0 } }).link.idents = [0]
    ∧ (entryIn .absent).trains[0].identDue = none ∧ base.link.polls[0] = none
    ∧ (after (.pollDue 1) { base with link := { base.link with
        polls := base.link.polls.set 0 (some ⟨false, some 0⟩) } }).link.polls[0] = some ⟨true, none⟩ := by decide +kernel

/-- R111: the last boundary of a rest, one before it, a run_count held at 255, and a window that ends at the new interval. -/
theorem test_roster_boundary :
    let resting := fun k : Nat => ({ entryIn .resting with
      trains := base.trains.set 0 { TrainWork.cleared with state := .resting, restCount := k } } : State)
    (takeBoundary 1000 1001 .roster (resting 1)).trains[0].state = .ready
    ∧ (takeBoundary 1000 1001 .roster (resting 2)).trains[0].state = .resting
    ∧ (rosterCount 0 { entryIn .running with
        trains := base.trains.set 0 { TrainWork.cleared with state := .running, runCount := 255 } }).trains[0].runCount = 255
    ∧ (takeBoundary 1000 1001 .roster { entryIn .lockedOut with
        trains := base.trains.set 0 { TrainWork.cleared with
          state := .lockedOut, outages := [⟨990, 1000⟩, ⟨990, 1001⟩] } }).trains[0].outages = [⟨990, 1001⟩] := by decide +kernel

theorem witness_RepliesMoveEntries : (takeStatus 0 ⟨.running, 5, 0⟩ (entryIn .starting)).trains[0].state = .running
    ∧ (takeStatus 0 ⟨.stopped, 0, 0⟩ (entryIn .starting)).trains[0].state = .starting
    ∧ (takeStatus 0 ⟨.running, 5, 0⟩ (entryIn .lost)).trains[0].state = .stopping
    ∧ (takeStatus 0 ⟨.fault, 0, 9⟩ (entryIn .resting)).trains[0].lockout = some .reported
    ∧ (takeStatus 0 ⟨.running, 5, 0⟩ (entryIn .ready)).link.cmds = [⟨0, .stop⟩]
    ∧ (takeStatus 0 ⟨.stopping, 5, 0⟩ (entryIn .ready)).link.cmds = []
    ∧ (takeStatus 0 ⟨.running, 5, 0⟩ lostHolding).trains[0].state = .running
    ∧ (takeStatus 0 ⟨.starting, 5, 0⟩ lostHolding).disp.setpoints[0] = some ⟨0, some 50000⟩ := by decide +kernel

/-- R102 and R103: an ABSENT compressor named like entry 1 binds, with its ratings brought into range; one of the other kind
gives KIND, one of another name IDENTITY. -/
theorem test_announce_binds :
    let a : Announce := ⟨(TrainCfg.factory 0).name, .compressor, 160000, 200000, .stopped⟩
    (takeAnnounce 0 a (entryIn .absent)).trains[0].state = .ready
    ∧ ((takeAnnounce 0 a (entryIn .absent)).cfg.trains[0].ratedKw, (takeAnnounce 0 a (entryIn .absent)).cfg.trains[0].minStableKw)
      = (150000, 150000)
    ∧ (takeAnnounce 0 { a with kind := .expander } (entryIn .absent)).trains[0].bindFault = some .kind
    ∧ (takeAnnounce 0 { a with name := [40] } (entryIn .absent)).trains[0].bindFault = some .identity
    ∧ (takeAnnounce 0 { a with name := [40] } (entryIn .absent)).noticeSet .identity = true
    ∧ (takeAnnounce 0 { a with state := .running } (entryIn .absent)).link.cmds = [⟨0, .stop⟩]
    ∧ (takeAnnounce 0 { a with state := .fault } (entryIn .absent)).trains[0].lockout = some .reported
    ∧ (takeAnnounce 0 a (entryIn .ready)).cfg = (entryIn .ready).cfg := by decide +kernel

/-- A READY compressor that is needed at its start lead: 95,000 kW in the current slot of a live table. -/
def neededNow : State :=
  { entryIn .ready with
    engine := { base.engine with live := some [{ slotAt 1000 .ok with net := 95000 }] } }

theorem witness_StartsOnlyWhenAllowed : neededNow.trains[0].state = .ready
    ∧ (recompute neededNow).trains[0].state = .starting ∧ (recompute neededNow).link.cmds = [⟨0, .start⟩]
    ∧ (recomputeOnce neededNow).trains[0].state = .starting := by decide +kernel

/-- R133 with two compressors, the second at 10,000 kW after the first at 80,000: the second is needed for 80,001 kW and not for
80,000. -/
theorem test_need_ahead :
    let c := (entryIn .ready).cfg.trains[0]
    let s := fun net : Int => { entryIn .ready with
      cfg := { base.cfg with
        trains := (base.cfg.trains.set 0 { c with ratedKw := 80000 }).set 1 { c with index := 1, ratedKw := 10000 } }
      trains := (entryIn .ready).trains.set 1 { TrainWork.cleared with state := .ready }
      engine := { base.engine with live := some [{ slotAt 1000 .ok with net := net }] } }
    (recomputeOnce (s 80001)).trains[1].state = .starting ∧ (recomputeOnce (s 80000)).trains[1].state = .ready
    ∧ (recomputeOnce (s 80000)).trains[0].state = .starting ∧ (recomputeOnce (s (-80001))).trains[0].state = .ready := by
  decide +kernel

theorem witness_MeritSharesInBand : (∀ q ∈ [(80000, 20000), (60000, 15000)], q.2 ≤ q.1)
    ∧ meritShares 80000 400000 [(80000, 20000), (60000, 15000)] = [80000]
    ∧ meritShares 10000 400000 [(80000, 20000)] = [20000] ∧ meritShares 9999 400000 [(80000, 20000)] = [0]
    ∧ meritShares 10000 19999 [(80000, 20000)] = [0]
    ∧ meritShares 80001 400000 [(80000, 20000), (60000, 50000)] = [80000]
    ∧ meritShares 200000 400000 [(80000, 20000), (60000, 15000)] = [80000, 60000] ∧ meritShares 7 7 [] = [] := by
  decide +kernel

/-- R128 on two RUNNING compressors of 80,000 kW, the first below its minimum run with a least stable power of 20,000 kW: of
95,000 kW it takes its forced load and the second 75,000; with the import limit below the forced load it is exposed. -/
theorem test_allocation :
    let c := { (entryIn .running).cfg.trains[0] with ratedKw := 80000, minStableKw := 20000, minRun := 0 }
    let s := fun limit : Nat => { entryIn .running with
      cfg := { base.cfg with
        site := { base.cfg.site with importLimit := limit }
        trains := (base.cfg.trains.set 0 { c with minRun := 2 }).set 1 { c with index := 1 } }
      trains := ((entryIn .running).trains.set 0 { TrainWork.cleared with state := .running }).set 1
        { TrainWork.cleared with state := .running }
      disp := { base.disp with openTally := some ⟨1000, [⟨0, .charge, 95000⟩], 0, 0⟩ } }
    (recomputeOnce (s 400000)).disp.setpoints[0] = some ⟨20000, some 20000⟩
    ∧ (recomputeOnce (s 400000)).disp.setpoints[1] = some ⟨75000, some 75000⟩
    ∧ (recomputeOnce (s 19999)).disp.setpoints[0] = none ∧ (recomputeOnce (s 19999)).disp.setpoints[1] = none := by
  decide +kernel

theorem witness_TallyCreditsAndBoundary :
    let t : OpenTally := ⟨1000, [⟨0, .charge, 60000⟩, ⟨1, .charge, 30000⟩, ⟨2, .discharge, 30000⟩], 5000007 * 3600, 0⟩
    (t.members.map Member.key).Pairwise (· < ·)
    ∧ ((closedTallyOf t).credits.map Credit.delivered) = [5000005, 2500002, 2500000]
    ∧ (closedTallyOf ⟨1000, [⟨0, .charge, 5⟩, ⟨1, .discharge, 5⟩], 3600, 0⟩).ePhys = none
    ∧ (closedTallyOf ⟨1000, [⟨1, .discharge, 12⟩], 0, 3600⟩).ePhys = some 1 := by decide +kernel

/-- R121 and R131: the tally that the boundary into 1,003 opens holds the FIRM record of that interval, and the changeover
record counts to 3 and no further. -/
theorem test_dispatch_boundary :
    (takeBoundary 1002 1003 .dispatch (holding .firm)).disp.openTally = some ⟨1003, [⟨0, .charge, 95000⟩], 0, 0⟩
    ∧ (takeBoundary 1001 1002 .dispatch (holding .firm)).disp.openTally = some ⟨1002, [], 0, 0⟩
    ∧ (takeBoundary 1002 1003 .dispatch base).disp.changeCount = 3
    ∧ (takeBoundary 1002 1003 .dispatch { base with disp := { base.disp with changeCount := 0 } }).disp.changeCount = 1 := by
  decide +kernel

/-- A SET_SITE of every value at the ends of its range. -/
theorem witness_SiteValuesAndTrip :
    res (.setSite ⟨some 800000, some 0, some 3, some 12, some 2000, some 24, some 500, some 255⟩) base = some .done
    ∧ res (.setSite ⟨none, none, none, some 0, some 200, some 1, some 1, some 1⟩) base = some .done
    ∧ res (.setSite ⟨none, none, none, none, some 199, none, none, none⟩) base = some .badValue
    ∧ base.pins.trip = false ∧ (after .siteTripAssert base).disp.trip = true
    ∧ (after .siteTripRelease (after .siteTripAssert base)).disp.trip = false
    ∧ (after .siteTripAssert (entryIn .running)).link.cmds = [⟨0, .stop⟩] := by decide +kernel

/-! ### Witnesses: scanner and clock -/

/-- The value saturates at the end of the signed 32-bit range, and a negative quotient is floored (R147). -/
theorem witness_ResultFormedAndJudged :
    formResult ChannelCfg.factory [1, 4094] = ⟨2047, some 2047, .clear⟩
    ∧ formResult ChannelCfg.factory [0, 100] = ⟨50, none, .noState⟩
    ∧ formResult ChannelCfg.factory [4095] = ⟨4095, none, .noState⟩
    ∧ (formResult { ChannelCfg.factory with gain := -1 } [1]).value = some (-1)
    ∧ (formResult { ChannelCfg.factory with offset := 2147483647 } [1]).value = some 2147483647
    ∧ (formResult { ChannelCfg.factory with windowHigh := 99 } [100]).window = .alarm
    ∧ (formResult { ChannelCfg.factory with windowHigh := 100, windowMode := .alarmInside } [100]).window = .alarm := by
  decide +kernel

/-- R154 with Tol 25: a chain of three, an outvoted extreme, no pair, and two values at and beyond Tol. -/
theorem witness_VoteFollowsTable :
    voteOutcome 25 (sortedCounts (some 150) (some 100) (some 125)) = (.good 125, none)
    ∧ voteOutcome 25 (sortedCounts (some 100) (some 151) (some 125)) = (.good 112, some .b)
    ∧ voteOutcome 25 (sortedCounts (some 100) (some 151) (some 126)) = (.good 138, some .a)
    ∧ voteOutcome 25 (sortedCounts (some 100) (some 152) (some 126)) = (.noMajority, none)
    ∧ voteOutcome 25 (sortedCounts (some 100) none (some 125)) = (.good 112, none)
    ∧ voteOutcome 25 (sortedCounts (some 100) none (some 126)) = (.noMajority, none)
    ∧ voteOutcome 25 (sortedCounts none none (some 126)) = (.noMajority, none)
    ∧ sortedCounts (some 126) (some 100) (some 126) = [(100, .b), (126, .a), (126, .c)]
    ∧ sortedCounts (some 7) (some 7) (some 7) = [(7, .a), (7, .b), (7, .c)] := by decide +kernel

/-- The base with channel 23 alone on the scan list, its conversion begun at 0. -/
def scanning : State := { base with cfg := { base.cfg with scanList := [23] } }

theorem witness_ScannerCommands : res (.setChannel ⟨24, none, none, none, none, none, none, none⟩) base = some .badValue
    ∧ res (.setChannel ⟨23, some ⟨1, 2, 4⟩, some (-32768), none, some 8, some 4095, some 4095, some 1⟩) base = some .done
    ∧ res (.setChannel ⟨23, some ⟨1, 3, 4⟩, none, none, none, none, none, none⟩) base = some .badValue
    ∧ res (.setChannel ⟨23, none, none, none, none, some 4096, none, none⟩) base = some .badValue
    ∧ res (.setScanList (List.replicate 33 0)) base = some .badValue ∧ res (.setScanList [24]) base = some .badValue
    ∧ res (.setScanList (List.replicate 32 23)) base = some .done ∧ res .snapshot base = some .wrongState
    ∧ res .snapshot scanning = some .queued
    ∧ res (.setChannel ⟨23, some ⟨0, 4, 2⟩, some 32767, some 2147483647, none, none, none, none⟩) base = some .done
    ∧ res (.setChannel ⟨23, some ⟨0, 5, 2⟩, none, none, none, none, none, none⟩) base = some .badValue
    ∧ res (.setChannel ⟨23, none, some 32768, none, none, none, none, none⟩) base = some .badValue
    ∧ res (.setChannel ⟨23, none, none, none, some 3, none, none, none⟩) base = some .badValue
    ∧ (after (.setChannel ⟨23, none, none, none, none, none, some 4, none⟩) { base with scan := { base.scan with
        results := base.scan.results.set 23 (some ⟨5, some 5, .clear⟩) } }).noticeSet .window = true
    ∧ (after (.setChannel ⟨23, none, none, none, none, none, some 5, none⟩) { base with scan := { base.scan with
        results := base.scan.results.set 23 (some ⟨5, some 5, .clear⟩) } }).noticeSet .window = false := by decide +kernel

theorem witness_EntryCompletes : scanning.cfg.scanList[scanning.scan.pos]? = some 23
    ∧ (after (.entryComplete [100]) scanning).scan.results[23] = none
    ∧ (after (.entryComplete [100]) { scanning with now := 1 }).scan.results[23] = some ⟨100, some 100, .clear⟩
    ∧ (after (.entryComplete [100]) { scanning with now := 1 }).scan.passCount = 1
    ∧ (after (.entryComplete [100]) { scanning with now := 1, cfg := { scanning.cfg with scanList := [23, 22] } }).scan.pos = 1
    ∧ base.cfg.scanList[base.scan.pos]? = none := by decide +kernel

/-- A pass of one cavern's three transducers at 5,320, 5,330 and 5,400 cbar, the last converted now: the vote is GOOD at 5,325, C is
outvoted, and the record, the mark and the snapshot follow; with C not in the list the cavern is handed NO_MAJORITY. -/
theorem test_pass_votes :
    let s := fun c : Role => ({ base with
      now := 1
      cfg := { base.cfg with
        site := { base.cfg.site with tol := 50 }, scanList := [2]
        channels := ((base.cfg.channels.set 0 { base.cfg.channels[0] with role := .cavernPressure 0 .a }).set 1
          { base.cfg.channels[1] with role := .cavernPressure 0 .b }).set 2
          { base.cfg.channels[2] with role := c, offset := 5400, gain := 0 } }
      scan := { base.scan with
        snapPending := true, marks := (base.scan.marks.set 0 true).set 1 true
        results := (base.scan.results.set 0 (some ⟨1, some 5320, .clear⟩)).set 1 (some ⟨1, some 5330, .clear⟩) } } : State)
    let t := after (.entryComplete [1]) (s (.cavernPressure 0 .c))
    let u := after (.entryComplete [1]) (s .spare)
    t.caverns[0].votedP = some 5325 ∧ t.caverns[0].disagree = ⟨false, false, true⟩ ∧ t.scan.handed[0] = true
    ∧ (t.scan.votes[0].map VoteRecord.outcome) = some (.good 5325) ∧ t.scan.snapPending = false
    ∧ (t.scan.copy.map SnapCopy.interval) = some (some 1000)
    ∧ u.caverns[0].votedP = none ∧ u.scan.handed[0] = true ∧ u.scan.votes[0] = none := by decide +kernel

theorem witness_SetIntervalBeginsOrArms : res (.setInterval 4000000000 0) base = some .done
    ∧ res (.setInterval 4000000001 0) base = some .badValue ∧ res (.setInterval 1 2) base = some .badValue
    ∧ res (.setInterval 1 0) (holding .closed) = some .wrongState
    ∧ (after (.setInterval 7 0) base).clock.mode = .free ∧ (after (.setInterval 7 1) base).clock.mode = .armed
    ∧ ((after (.setInterval 7 0) base).engine.run.map fun r => (r.kind, r.copy.interval)) = some (.verification, 7)
    ∧ (after (.setInterval 7 1) base).engine.run = none
    ∧ (after .pulse (after (.setInterval 7 1) base)).engine.run = none := by decide +kernel

/-- A clock in a mode at a phase, with its absorb window open or not. -/
def clockAt (mode : ClockMode) (phase : Nat) (absorb : Bool) : State :=
  { base with now := phase, clock := { base.clock with mode := mode, absorbOpen := absorb } }

/-- Pulses that take no boundary, and the ends of the windows: 298,000 ms and 2,000 ms. -/
theorem witness_PulsesAndExpiries : (after .pulse (clockAt .locked 297999 false)).clock.earlyCount = 1
    ∧ (after .pulse (clockAt .free 2000 true)).clock.mode = .locked
    ∧ (after .pulse (clockAt .free 2001 true)).clock.earlyCount = 1
    ∧ (after .pulse (clockAt .holdover 297999 false)).clock.earlyCount = 1
    ∧ after .pulse (clockAt .unset 0 false) = clockAt .unset 0 false
    ∧ (after .pulse { clockAt .armed 5 false with clock := { base.clock with mode := .armed, armed := some 9 } }).clock.interval
      = 9
    ∧ (after .absorbWindowClose (clockAt .free 2000 true)).clock.absorbOpen = false
    ∧ after .ownTimerExpiry (clockAt .unset 0 false) = clockAt .unset 0 false := by decide +kernel

/-- The windows in which a boundary is taken, in the order of the list for every free order (R164 to R166). -/
theorem witness_BoundaryWindows : (clockAt .locked 298000 false).clock.expiry = some 302000
    ∧ 298000 ≤ (clockAt .locked 302000 false).now - base.clock.origin
    ∧ (clockAt .free 300000 false).clock.expiry = some 300000 ∧ base.clock.running = true
    ∧ base.clock.interval < 4294967295 := by decide

/-- A whole boundary through the seven blocks in the order of `Config.allBlocks` leaves the clock as it stands. -/
theorem test_boundary_clock : (takeBoundaryIn Config.allBlocks 1000 1001 withLive).clock = withLive.clock := by decide +kernel

/-! ### Witnesses: the unit link -/

theorem witness_AliasesSpeedAndReadLink : res (.setAlias ⟨8, 0, ⟨0, 0, 0⟩⟩) base = some .badValue
    ∧ res (.setAlias ⟨7, 1, ⟨254, 8, 1⟩⟩) base = some .done ∧ res (.setAlias ⟨7, 1, ⟨255, 8, 1⟩⟩) base = some .badValue
    ∧ res (.setAlias ⟨7, 1, ⟨1, 9, 1⟩⟩) base = some .badValue ∧ res (.setAlias ⟨7, 0, ⟨0, 0, 0⟩⟩) base = some .done
    ∧ res (.setAlias ⟨7, 1, ⟨192, 1, 0⟩⟩) (entryIn .ready) = some .badValue
    ∧ res (.setAlias ⟨7, 2, ⟨0, 0, 0⟩⟩) base = some .badValue ∧ res (.setAlias ⟨7, 2, ⟨0, 0, 0⟩⟩) saving = some .busy
    ∧ res (.linkSpeed 0) base = some .done ∧ res (.linkSpeed 1) saving = some .done ∧ res (.linkSpeed 2) base = some .badValue
    ∧ res .readLink base = some .done := by decide +kernel

/-- Entry 1 in a state, under the alias address 10. -/
def aliased (st : TrainState) (quiet : Bool) : State :=
  let s := entryIn st
  { s with cfg := { s.cfg with aliases := s.cfg.aliases.set 3 (some ⟨10, 0, quiet⟩) } }

/-- FORWARD of a kind to the alias. -/
def forwardOf (kind : Nat) (payload : List Byte) : Instr := .forward ⟨10, kind, payload⟩

theorem witness_ForwardGatesAndQueue : res (forwardOf 8 []) (aliased .ready false) = some .badValue
    ∧ res (forwardOf 5 (List.replicate 17 0)) (aliased .ready false) = some .badValue
    ∧ res (forwardOf 0 [1]) (aliased .ready false) = some .badValue ∧ res (forwardOf 0 []) base = some .noRecord
    ∧ res (forwardOf 0 []) { base with cfg := { base.cfg with
        aliases := base.cfg.aliases.set 0 (some ⟨10, 0, false⟩) } } = some .noRecord
    ∧ res (forwardOf 7 [0]) (aliased .ready false) = some .owned ∧ res (forwardOf 6 []) (aliased .ready true) = some .owned
    ∧ res (forwardOf 6 []) (aliased .lockedOut true) = some .done
    ∧ (after (forwardOf 6 []) (aliased .lockedOut false)).port.state = .owed
    ∧ (after (forwardOf 5 (List.replicate 16 0)) (aliased .ready false)).port.state = .owed
    ∧ (after (forwardOf 0 []) (aliased .ready false)).link.pass = [⟨0, .poll, [], false, true⟩]
    ∧ res (forwardOf 4 []) { aliased .ready false with link := { base.link with
        pass := List.replicate 2 ⟨0, .poll, [], false, false⟩ } } = some .busy := by decide +kernel

/-- Entry 1 in a state, with a link that has nothing waiting but what is given. -/
def linked (st : TrainState) (cmds : List Cmd) (reissue : Option Cmd) : State :=
  { entryIn st with link := { base.link with speedPending := none, cmds := cmds, reissue := reissue } }

/-- The kind and the tag of the frame in flight. -/
def sent (s : State) : Option (MsgKind × Nat) := s.link.slot.map fun t => (t.frame.kind, t.frame.tag)

theorem witness_GrantByClass : sent (after .grant base) = some (.speed, 0)
    ∧ sent (after .grant (linked .running [] (some ⟨0, .set 5⟩))) = some (.set, 0)
    ∧ sent (after .grant (linked .running [⟨0, .set 6⟩] (some ⟨0, .set 5⟩))) = some (.set, 0)
    ∧ sent (after .grant (linked .lost [⟨0, .set 6⟩] (some ⟨0, .start⟩))) = none
    ∧ sent (after .grant (linked .lost [⟨0, .stop⟩] none)) = some (.stop, 0)
    ∧ sent (after .grant { linked .ready [] none with link := { base.link with
        speedPending := none, pass := [⟨1, .poll, [], false, true⟩, ⟨0, .diagRead, [], false, false⟩] } }) = some (.diagRead, 0)
    ∧ sent (after .grant { linked .ready [] none with link := { base.link with
        speedPending := none, pass := [⟨0, .diagWrite, [], false, true⟩] } }) = none
    ∧ sent (after .grant { linked .absent [] none with link := { base.link with
        speedPending := none, idents := [1, 0] } }) = some (.ident, 0)
    ∧ after .grant (linked .ready [] none) = linked .ready [] none := by decide +kernel

/-- R185: a broadcast's frame is sent at FAST and then at BASE; any other frame once, at the present speed. -/
theorem test_speeds_of_sending :
    ((after .grant base).link.slot.map Txn.speeds) = some [.fast, .base]
    ∧ ((after .grant (linked .lost [⟨0, .stop⟩] none)).link.slot.map Txn.speeds) = some [.base] := by decide +kernel

/-- R177: a SET takes a waiting SET's place, a STOP takes it out, and a START that waits is not added again. -/
theorem test_enqueue : enqueue ⟨0, .set 7⟩ [⟨0, .set 6⟩, ⟨1, .set 6⟩] = [⟨0, .set 7⟩, ⟨1, .set 6⟩]
    ∧ enqueue ⟨0, .stop⟩ [⟨0, .set 6⟩, ⟨1, .set 6⟩] = [⟨1, .set 6⟩, ⟨0, .stop⟩]
    ∧ enqueue ⟨0, .start⟩ [⟨0, .start⟩] = [⟨0, .start⟩] := by decide

/-- The poll that is chosen is the first due above last polled, counting round from 8 to 1. -/
theorem witness_GrantPoll :
    let due := fun last : Nat => ({ base with link := { base.link with
      speedPending := none, lastPolled := last
      polls := (base.link.polls.set 0 (some ⟨true, none⟩)).set 7 (some ⟨true, none⟩) } } : State)
    (after .grant (due 0)).link.lastPolled = 1 ∧ (after .grant (due 1)).link.lastPolled = 8
    ∧ (after .grant (due 8)).link.lastPolled = 1 := by decide +kernel

/-- A transaction of entry 1 in flight. -/
def inFlight (st : TrainState) (kind : MsgKind) (origin : Origin) (failures : Nat) : State :=
  let s := linked st [] none
  { s with link := { s.link with
      slot := some ⟨⟨192, 2, kind, []⟩, [.base], some 0, origin, false, false⟩
      counters := s.link.counters.set 0 ⟨0, 0, 0, 0, failures⟩ } }

/-- A STATUS of a RUNNING train at 500 kW. -/
def statusBytes (tag : Nat) : List Byte := Frame.bytes ⟨192, tag, .status, [2, 0, 1, 0xF4, 0, 0]⟩

theorem witness_TransactionEnds :
    judgeReply ⟨192, 2, .poll, []⟩ (statusBytes 2) = .good (.status ⟨.running, 500, 0⟩) [2, 0, 1, 0xF4, 0, 0]
    ∧ (after (.replyReceived (statusBytes 2)) (inFlight .running .poll .poll 2)).link.counters[0].consecutive = 0
    ∧ (after .replyTimeout (inFlight .running .poll .poll 0)).link.counters[0] = ⟨0, 0, 1, 0, 1⟩
    ∧ (after .replyTimeout (inFlight .running .poll .poll 2)).trains[0].state = .lost
    ∧ (after .replyTimeout (inFlight .lockedOut .poll .poll 2)).trains[0].state = .lockedOut
    ∧ (after .replyTimeout (inFlight .ready .start (.command ⟨0, .start⟩ false) 1)).link.reissue = some ⟨0, .start⟩
    ∧ (after .replyTimeout (inFlight .running .set (.command ⟨0, .set 5⟩ true) 1)).link.reissue = none
    ∧ judgeReply ⟨192, 2, .diagRead, []⟩ (Frame.bytes ⟨192, 2, .reject, [7]⟩) = .rejected [7]
    ∧ (after (.replyReceived (Frame.bytes ⟨192, 2, .reject, [7]⟩)) { inFlight .ready .diagRead
        (.passThrough ⟨0, .diagRead, [], false, true⟩) 0 with port := ⟨.owed, []⟩ }).port.state
      = .holding ⟨.done, .reply .reject [7]⟩ := by decide +kernel

/-- Commands, a forwarded message and IDENTs that end in CRC ([0]), SEQUENCE (a wrong tag) and REJECTED: the reissue of a SET, the
drop of a reissued one, TIMEOUT, NO_ANSWER and the third failure; and what a disowned reply and a waiting IDENT leave. -/
theorem test_transaction_origins :
    let told := { inFlight .ready .diagRead (.passThrough ⟨0, .diagRead, [], false, true⟩) 2 with port := ⟨.owed, []⟩ }
    let mark := fun (f : Txn → Txn) (s : State) => { s with link := { s.link with slot := s.link.slot.map f } }
    let noReply := Frame.bytes ⟨192, 2, .reject, [7]⟩
    let set := fun again : Bool => { inFlight .running .set (.command ⟨0, .set 5⟩ again) 2 with
      disp := { base.disp with setpoints := base.disp.setpoints.set 0 (some ⟨5, some 5⟩) } }
    (after (.replyReceived [0]) (set false)).link.reissue = some ⟨0, .set 5⟩
    ∧ (after (.replyReceived [0]) (set false)).trains[0].state = .lost
    ∧ (after (.replyReceived noReply) (set true)).disp.setpoints[0].bind Setpoint.issued = none
    ∧ (after (.replyReceived (statusBytes 3)) told).port.state = .holding ⟨.timeout, .empty⟩
    ∧ (after (.replyReceived (statusBytes 3)) told).trains[0].state = .lost
    ∧ (after (.replyReceived noReply) (inFlight .absent .ident .ident 2)).trains[0].bindFault = some .noAnswer
    ∧ (after .replyTimeout (inFlight .ready .ident .ident 2)).trains[0].state = .lost
    ∧ (after (.replyReceived (statusBytes 2)) (mark (fun x => { x with disowned := true }) told)).trains[0].report = none
    ∧ (after (.replyReceived (statusBytes 2)) (mark (fun x => { x with disowned := true }) told)).port.state
      = .holding ⟨.done, .reply .status [2, 0, 1, 0xF4, 0, 0]⟩
    ∧ (after .replyTimeout (mark (fun x => { x with identAfter := true }) (inFlight .absent .ident .ident 0))).link.idents
      = [0] := by decide +kernel

/-- A CRC outcome and a SEQUENCE outcome each count, and the one that crosses the threshold raises LINK_ERRORS (R181). -/
theorem test_errors_counted :
    let k := base.cfg.site.errorThreshold
    let s := fun n : Nat => ({ inFlight .running .poll .poll 0 with link := { (inFlight .running .poll .poll 0).link with
      counters := base.link.counters.set 0 ⟨n, 0, 0, 0, 0⟩ } } : State)
    (after (.replyReceived [0]) (s 1)).link.counters[0] = ⟨2, 0, 0, 0, 1⟩
    ∧ (after (.replyReceived (statusBytes 3)) (s 1)).link.counters[0] = ⟨1, 1, 0, 0, 1⟩
    ∧ (after (.replyReceived [0]) (s k)).noticeSet .linkErrors = true
    ∧ (after (.replyReceived [0]) (s (k - 1))).noticeSet .linkErrors = false
    ∧ (after (.replyReceived [0]) (s (k + 1))).noticeSet .linkErrors = false := by decide +kernel

/-- R101: an IDENT that times out gives NO_ANSWER and the period to the next; a disowned one gives the period alone. R178: a
reissued START that fails is dropped. -/
theorem test_ident_and_start_fail :
    let s := inFlight .absent .ident .ident 0
    let d := { s with link := { s.link with slot := s.link.slot.map fun x => { x with disowned := true } } }
    (after .replyTimeout s).trains[0].bindFault = some .noAnswer
    ∧ (after .replyTimeout s).trains[0].identDue = some s.cfg.site.pollPeriod
    ∧ (after .replyTimeout d).trains[0].bindFault = none
    ∧ (after .replyTimeout d).trains[0].identDue = some s.cfg.site.pollPeriod
    ∧ (after .replyTimeout (inFlight .ready .start (.command ⟨0, .start⟩ true) 1)).link.reissue = none := by decide +kernel

theorem witness_LinkEvents :
    (after .broadcastSent (after .grant base)).link.speed = .base
    ∧ (after .broadcastSent { base with link := { base.link with
        slot := some ⟨⟨255, 0, .speed, [1]⟩, [.fast, .base], none, .broadcast .fast, false, false⟩ } }).link.speed = .fast
    ∧ base.awaiting = none ∧ (after .unsolicitedFrame base).link.unsolicited = 1
    ∧ (after (.replyReceived [0]) base).link.unsolicited = 1
    ∧ (inFlight .ready .poll .poll 0).awaiting.isSome = true
    ∧ (after .unsolicitedFrame (inFlight .ready .poll .poll 0)).link.unsolicited = 1
    ∧ (after .linkReset (inFlight .ready .poll .poll 1)).link.counters[0].consecutive = 2
    ∧ (after .linkReset (inFlight .ready .start (.command ⟨0, .start⟩ false) 0)).link.reissue = some ⟨0, .start⟩
    ∧ (after .linkReset { base with
        port := ⟨.owed, []⟩, link := { base.link with pass := [⟨0, .poll, [], false, true⟩] } }).port.state
      = .holding ⟨.timeout, .empty⟩ := by decide +kernel

/-- R184: a link reset drops a reissued SET, answers the forwarded message in flight, gives an ABSENT entry whose IDENT is in
flight NO_ANSWER, and declares the train lost as the count reaches 3; the error counters stay. -/
theorem test_link_reset_in_flight :
    let told := { inFlight .ready .diagRead (.passThrough ⟨0, .diagRead, [], false, true⟩) 2 with port := ⟨.owed, []⟩ }
    let set := { inFlight .running .set (.command ⟨0, .set 5⟩ true) 0 with
      disp := { base.disp with setpoints := base.disp.setpoints.set 0 (some ⟨5, some 5⟩) } }
    (after .linkReset set).disp.setpoints[0] = some ⟨5, none⟩ ∧ (after .linkReset set).link.reissue = none
    ∧ (after .linkReset told).port.state = .holding ⟨.timeout, .empty⟩
    ∧ (after .linkReset told).trains[0].state = .lost ∧ (after .linkReset told).noticeSet .trainLost = true
    ∧ (after .linkReset told).link.counters[0] = ⟨0, 0, 0, 0, 3⟩
    ∧ (after .linkReset (inFlight .absent .ident .ident 0)).trains[0].bindFault = some .noAnswer
    ∧ (after .linkReset (inFlight .absent .ident .ident 0)).trains[0].identDue = some base.cfg.site.pollPeriod := by
  decide +kernel

/-- One reply for each outcome of R174. -/
theorem witness_ReplyJudgedInOrder :
    judgeReply ⟨192, 2, .poll, []⟩ [192] = .crc ∧ judgeReply ⟨192, 1, .poll, []⟩ (statusBytes 2) = .sequence
    ∧ judgeReply ⟨193, 2, .poll, []⟩ (statusBytes 2) = .sequence ∧ judgeReply ⟨192, 2, .ident, []⟩ (statusBytes 2) = .sequence
    ∧ judgeReply ⟨192, 2, .poll, []⟩ (Frame.bytes ⟨192, 2, .status, [5, 0, 0, 0, 0, 0]⟩) = .crc
    ∧ judgeReply ⟨192, 2, .poll, []⟩ (Frame.bytes ⟨192, 2, .status, [2, 2, 0x49, 0xF1, 0, 0]⟩) = .crc
    ∧ judgeReply ⟨192, 2, .poll, []⟩ (Frame.bytes ⟨192, 2, .poll, []⟩) = .sequence
    ∧ splitFrame (Frame.bytes ⟨192, 2, .status, [2, 0, 0, 0, 0, 0]⟩) = some (192, 2, 9, [2, 0, 0, 0, 0, 0])
    ∧ splitFrame (Frame.bytes ⟨255, 3, .diagWrite, List.replicate 16 255⟩) = some (255, 3, 7, List.replicate 16 255) := by
  decide +kernel

/-- An ANNOUNCE of a STOPPED expander named A, rated 90,000 kW with a least stable power of 20,000 kW. -/
theorem test_announce :
    parseAnnounce [0x10, 1, 0x5F, 0x90, 0, 0x4E, 0x20, 4, 0, 0, 0, 0, 0, 0, 0, 0]
      = some ⟨[1], .expander, 90000, 20000, .stopped⟩
    ∧ parseAnnounce [0x10, 1, 0x5F, 0x90, 0, 0x4E, 0x20, 0, 0, 0, 0, 0, 0, 0, 0, 1] = none
    ∧ parseAnnounce [0x14, 1, 0x5F, 0x90, 0, 0x4E, 0x20, 0xA2, 0x8A, 0x28, 0xA2, 0x8A, 0x28, 0xA2, 0x8A, 0x28]
      = some ⟨List.replicate 12 40, .expander, 90000, 20000, .fault⟩
    ∧ parseAnnounce [0x20, 1, 0x5F, 0x90, 0, 0x4E, 0x20, 4, 0, 0, 0, 0, 0, 0, 0, 0] = none
    ∧ parseAnnounce [0x15, 1, 0x5F, 0x90, 0, 0x4E, 0x20, 4, 0, 0, 0, 0, 0, 0, 0, 0] = none
    ∧ parseAnnounce [0x10, 1, 0x5F, 0x90, 0, 0x4E, 0x20, 0xA4, 0, 0, 0, 0, 0, 0, 0, 0] = none := by decide +kernel

/-! ### Witnesses: the port, the settings and the resets -/

theorem witness_NoticesMaskAndFetch : res .readNotices base = some .done ∧ res (.setNoticeMask 0x7FFFFF) base = some .done
    ∧ res (.setNoticeMask 0x800000) base = some .badValue ∧ State.reset.attn = true
    ∧ (after (.fetch 4) (after (.setNoticeMask 0) base)).port = ⟨.idle, [2, 0, 0, 0]⟩
    ∧ (after (.fetch 3) (after (.setNoticeMask 0) base)).port = ⟨.holding ⟨.done, .empty⟩, [2, 0, 0]⟩
    ∧ (after (.fetch 4) base).port = ⟨.idle, [0, 14, 0, 0]⟩
    ∧ (after (.fetch 1) { base with port := ⟨.owed, []⟩ }).port = ⟨.owed, [1]⟩
    ∧ (after (.fetch 10) (after .readNotices State.reset)).notices.flags = 0 := by decide +kernel

theorem witness_SettingsSaved : res .saveSettings base = some .queued ∧ res .saveSettings saving = some .busy
    ∧ isSettingsWrite (setTrainOf 1 none none none) = true ∧ res (setTrainOf 1 none none none) saving = some .busy
    ∧ (after .saveComplete saving).nv.lastSave = .completed ∧ base.nv.saving = none := by decide +kernel

theorem witness_ResetsLeave : res .resetStation saving = some .done ∧ base.port.state = .idle
    ∧ (after .resetStation saving).nv.lastSave = .abandoned
    ∧ (after .resetStation { holding .firm with pins := ⟨true⟩ }).disp.trip = true
    ∧ (after .powerOnReset saving).nv.source = .defaults
    ∧ (after .resetStation saving).clock = ⟨.unset, 1000, 0, false, 0, none, 0, 0, none⟩
    ∧ (after .powerOnReset (after .saveComplete { saving with nv := { saving.nv with
        saving := some (entryIn .ready).cfg } })).link.idents = [0] := by decide +kernel

/-! ### Witnesses: transfers and invariants -/

theorem witness_TransferRoundTrip : (booking 1003 2 95000 (some 1002)).wellFormed = true
    ∧ (encodeTransfer (booking 1003 2 95000 (some 1002))).bind decodeTransfer = some (booking 1003 2 95000 (some 1002))
    ∧ (encodeTransfer (forwardOf 5 [1, 2])).bind decodeTransfer = some (forwardOf 5 [1, 2]) := by decide +kernel

theorem base_lookup (key : Nat) : base.lookup key = none := by
  have h : base.book = Vector.replicate 128 ⟨0, none⟩ := rfl
  simp [State.lookup, h]

/-- A state that meets the invariant of the queue. -/
theorem witness_StepKeepsQueueSound : QueueSound base where
  bounded := by decide
  distinct := by decide
  subject := by simp [base, State.reset, Engine.cleared]
  exact := by
    intro key kind
    rw [base_lookup]
    simp [itemsHeld, base, State.reset, Engine.cleared]
  amendable := by simp [base_lookup]

/-- A state that meets the invariant of directions, with a compressor RUNNING. -/
theorem witness_StepKeepsDirectionsSound : DirectionsSound (entryIn .running) where
  unopposed := by unfold isUp; decide +kernel
  unconfigured := by decide +kernel
  polled := by decide +kernel
  inFlight := by intro t i h; simp [entryIn, base, State.reset, Link.cleared] at h

/-- A state that meets the invariant of setpoints. -/
theorem witness_StepKeepsSetpointsSound : SetpointsSound (entryIn .running) where
  placed := by decide +kernel
  starting := by decide +kernel
  inBand := by decide +kernel
  withinGrid := by intro kind; cases kind <;> decide +kernel
  unconfigured := by decide +kernel
  polled := by decide +kernel
  inFlight := by intro t i h; simp [entryIn, base, State.reset, Link.cleared] at h
  ratings := by unfold ratingsSound; decide +kernel
  saving := by intro c h; simp [entryIn, base, State.reset] at h
  image := by intro c h; simp [entryIn, base, State.reset] at h

/-- A state that meets the invariant of the live table, with the clock LOCKED. -/
theorem witness_StepKeepsTableSound : TableSound base where
  live := by intro t h; simp [base, State.reset, Engine.cleared] at h
  closed := by intro t h; simp [base, State.reset, Engine.cleared] at h
  run := by intro t h; simp [base, State.reset, Engine.cleared] at h
  stopped := by intro h; exact absurd h (by decide)

/-- The four ways in which the interval changes (R163): a reset, SET_INTERVAL, an armed pulse; the fourth is a boundary. -/
theorem witness_BoundariesStandApart : (after .powerOnReset base).clock.interval ≠ base.clock.interval
    ∧ (after (.setInterval 7 0) base).clock.interval ≠ base.clock.interval
    ∧ (takeBoundaryIn [.book] 1000 1001 base).clock = base.clock := by decide +kernel

/-- The first two slots of the worked copy's table. -/
theorem witness_RunRecordsEverySlot : ((runTable workedCopy)[1]?.map ProjSlot.interval) = some 20004
    ∧ ((runTable workedCopy)[0]?.map ProjSlot.status) = some .ok := by decide +kernel

/-- The first reason marked in a slot names its status and, where it is a cavern's, the cavern (R36, R43, R44): a record that
draws more heat than is there, no eligible cavern, and a rate limit that cavern 2 alone exceeds. -/
theorem test_slot_first_reason :
    let first := fun c : RunCopy => (runTable c)[0]?.map fun sl => (sl.status, sl.failCavern)
    first { workedCopy with startContent := 0, direction := none, dischargeCaps := [120000]
                            counted := [⟨0, .discharge, 95000, none, 20003, 2, .span⟩] } = some (.fail .heatShort, 0)
    ∧ first { workedCopy with caverns := workedCopy.caverns.map fun c => { c with weight := 0 } } = some (.fail .noCavern, 0)
    ∧ first { workedCopy with caverns := workedCopy.caverns.set 1 { input 2 table2 19500000 with rateLimit := 4 } }
      = some (.fail .rate, 2) := by decide +kernel

/-- Targets on both sides of 0, under a trip and under a ban (R124). -/
theorem witness_RecomputeClampsAndActs :
    let s := fun (d : Direction) (trip : Bool) => ({ entryIn .running with
      disp := { base.disp with trip := trip, openTally := some ⟨1000, [⟨0, d, 700⟩], 0, 0⟩ } } : State)
    (recompute (s .charge false)).disp.clamped = 700 ∧ (recompute (s .discharge false)).disp.clamped = 0
    ∧ (recompute (s .discharge false)).disp.target = -700 ∧ (recompute (s .charge true)).disp.clamped = 0
    ∧ banAgainst { base with store := { base.store with status := .unknown } } .expander = true := by decide +kernel

/-- R124 and R129: a RUNNING compressor follows the target with a SET and no shortfall; a target of 0 stops it; a target above
its rating leaves a shortfall. -/
theorem test_recompute_acts :
    let s := fun power : Nat => ({ entryIn .running with
      disp := { base.disp with
        setpoints := base.disp.setpoints.set 0 (some ⟨0, none⟩)
        openTally := some ⟨1000, [⟨0, .charge, power⟩], 0, 0⟩ }
      trains := base.trains.set 0 { TrainWork.cleared with state := .running, runCount := 255 } } : State)
    let top := (TrainCfg.factory 0).ratedKw
    (recompute (s top)).link.cmds = [⟨0, .set top⟩] ∧ (recompute (s top)).disp.setpoints[0] = some ⟨top, some top⟩
    ∧ (recompute (s top)).noticeSet .shortfall = false ∧ (recompute (s (top + 1))).noticeSet .shortfall = true
    ∧ (recompute (s 0)).trains[0].state = .stopping ∧ (recompute (s 0)).link.cmds = [⟨0, .stop⟩] := by decide +kernel

/-- A step that a state meeting the invariants can take: the reset state lets 1 ms pass, and runs a command in front. -/
theorem witness_StepKeeps : step State.reset = .next { State.reset with now := 1 }
    ∧ State.reset.clock.interval < 4294967295
    ∧ step { State.reset with pending := [.fetch 0] } = .next State.reset := by
  refine ⟨rfl, by decide, rfl⟩

end Sys2Proof.Tests
end

section
/-! SUPPORT. The station commands of the commitment book (chapter 1): what each gate of BOOK and AMEND asks, and what a taken
BOOK, CONFIRM, AMEND, RETIRE, READ_COMMITMENT or LIST_COMMITMENTS leaves. -/

namespace Sys2Proof.Machine

/-! ### The book's commands taken in IDLE -/

section Taken
variable {s : State} (h : s.port.state = .idle)
include h

theorem exec_book_idle (p : BookParams) : exec (.book p) s = .next (bookAct p s.taken) :=
  congrArg Host.Outcome.next (station_idle h _)

theorem exec_confirm_idle (key : Nat) : exec (.confirm key) s = .next (confirmAct key s.taken) :=
  congrArg Host.Outcome.next (station_idle h _)

theorem exec_amend_idle (p : AmendParams) : exec (.amend p) s = .next (amendAct p s.taken) :=
  congrArg Host.Outcome.next (station_idle h _)

theorem exec_retire_idle (key : Nat) : exec (.retire key) s = .next (retireAct key s.taken) :=
  congrArg Host.Outcome.next (station_idle h _)

theorem exec_readCommitment_idle (key : Nat) :
    exec (.readCommitment key) s = .next (readCommitmentAct key s.taken) :=
  congrArg Host.Outcome.next (station_idle h _)

theorem exec_listCommitments_idle (page : Nat) :
    exec (.listCommitments page) s = .next (listCommitmentsAct page s.taken) :=
  congrArg Host.Outcome.next (station_idle h _)

end Taken

/-! ### The gates of BOOK and AMEND -/

theorem running_iff (c : Clock) : c.running = true ↔ c.mode = .locked ∨ c.mode = .free ∨ c.mode = .holdover := by
  cases hm : c.mode <;> simp [Clock.running, hm]

theorem lengthOk_iff (l : Nat) : lengthOk l = true ↔ 1 ≤ l ∧ l ≤ 48 := by simp [lengthOk]

theorem powerOk_iff (p : Nat) : powerOk p = true ↔ 1 ≤ p ∧ p ≤ 400000 := by simp [powerOk]

theorem classOf_of_le {n : Nat} (h : n ≤ 1) : classOf n = some (if n = 0 then .tentative else .firm) := by
  interval_cases n <;> rfl

theorem directionOf_of_le {n : Nat} (h : n ≤ 1) : directionOf n = some (if n = 0 then .charge else .discharge) := by
  interval_cases n <;> rfl

theorem le_one_of_classOf {n : Nat} {c : TradeClass} (h : classOf n = some c) : n ≤ 1 := by
  unfold classOf at h
  split at h <;> simp_all

theorem le_one_of_directionOf {n : Nat} {d : Direction} (h : directionOf n = some d) : n ≤ 1 := by
  unfold directionOf at h
  split at h <;> simp_all

/-- The values of a BOOK lie in their ranges, and its hold_expiry suits its class and its start (R8). -/
def bookValuesOk (p : BookParams) (c : Nat) : Prop :=
  p.cls ≤ 1 ∧ p.dir ≤ 1 ∧ 1 ≤ p.length ∧ p.length ≤ 48 ∧ 1 ≤ p.power ∧ p.power ≤ 400000
    ∧ (∀ t, p.tolerance = some t → t ≤ 200)
    ∧ (∀ h, p.holdExpiry = some h → p.cls = 0 ∧ h ≤ p.start ∧ c + 1 ≤ h)

/-- The value gate of BOOK refuses exactly the values that R8 does not allow, class and direction standing. -/
theorem bookBad_eq_false_iff {p : BookParams} (hc : p.cls ≤ 1) (hd : p.dir ≤ 1) (c : Nat) :
    bookBad p (if p.cls = 0 then .tentative else .firm) c = false ↔ bookValuesOk p c := by
  have htol : within 0 200 p.tolerance = true ↔ ∀ t, p.tolerance = some t → t ≤ 200 := by
    cases p.tolerance <;> simp [within]
  have hhold : ((p.holdExpiry.isSome && decide ((if p.cls = 0 then TradeClass.tentative else .firm) = .firm))
        || p.holdExpiry.any fun h => decide (p.start < h) || decide (h < c + 1)) = false
      ↔ ∀ h, p.holdExpiry = some h → p.cls = 0 ∧ h ≤ p.start ∧ c + 1 ≤ h := by
    cases p.holdExpiry with
    | none => simp
    | some h => by_cases h0 : p.cls = 0 <;> simp [h0]
  rw [bookBad, Bool.or_assoc, Bool.or_eq_false_iff, hhold]
  simp only [Bool.or_eq_false_iff, Bool.not_eq_false', lengthOk_iff, powerOk_iff, htol, bookValuesOk, hc, hd,
    true_and, and_assoc]

theorem beyondHorizon_iff (s : State) (start length : Nat) :
    beyondHorizon s start length = true ↔ s.clock.interval + 287 < start + length - 1 := by simp [beyondHorizon]

theorem lowestFree_eq_none {s : State} (h : ∀ i : Fin 128, s.book[i].record ≠ none) : s.lowestFree = none := by
  simpa [State.lowestFree] using h

theorem lowestFree_eq_some {s : State} {i : Fin 128} (hi : s.book[i].record = none)
    (hlow : ∀ j : Fin 128, j < i → s.book[j].record ≠ none) : s.lowestFree = some i := by
  unfold State.lowestFree
  rw [List.find?_eq_some_iff_getElem]
  refine ⟨by simpa using hi, i.val, by simp, by simp, fun j hj => ?_⟩
  have := hlow ⟨j, by omega⟩ hj
  simpa [Option.isSome_iff_ne_none] using this

/-! ### BOOK -/

/-- BOOK whose clock and values pass goes on to the horizon, the notice, the free slot and the queue (R8, R9). -/
theorem bookAct_of_bookValuesOk {p : BookParams} {s : State} (hr : s.clock.running = true)
    (hp : bookValuesOk p s.clock.interval) :
    bookAct p s =
      if beyondHorizon s p.start p.length then reply .horizon s
      else if p.start < earliestStart s then reply .late s
      else
        match s.lowestFree with
        | none => reply .full s
        | some i =>
          if 8 ≤ s.queue.length then reply .queueFull s
          else makeRecord i (bookedRecord p (if p.cls = 0 then .tentative else .firm)
            (if p.dir = 0 then .charge else .discharge)) s := by
  obtain ⟨hc, hd, -⟩ := id hp
  simp only [bookAct, hr, classOf_of_le hc, directionOf_of_le hd, (bookBad_eq_false_iff hc hd _).2 hp]
  rfl

/-- BOOK with the clock running refuses values that R8 does not allow. -/
theorem bookAct_badValue {p : BookParams} {s : State} (hr : s.clock.running = true)
    (hp : ¬bookValuesOk p s.clock.interval) : bookAct p s = reply .badValue s := by
  simp only [bookAct, hr]
  cases hc : classOf p.cls with
  | none => rfl
  | some cls =>
    cases hd : directionOf p.dir with
    | none => rfl
    | some dir =>
      have hc' := le_one_of_classOf hc
      have hd' := le_one_of_directionOf hd
      obtain rfl : (if p.cls = 0 then TradeClass.tentative else .firm) = cls :=
        Option.some.inj ((classOf_of_le hc').symm.trans hc)
      have hbad : bookBad p (if p.cls = 0 then .tentative else .firm) s.clock.interval = true := by
        rw [← Bool.not_eq_false, bookBad_eq_false_iff hc' hd']
        exact hp
      simp [hbad]

/-- Settles O4: the gates are taken one after another, each by its own lemma. -/
theorem bookGatesAndRecord : Obligations.BookGatesAndRecord := by
  unfold Obligations.BookGatesAndRecord
  intro p s hidle c running good inHorizon inTime
  rw [exec_book_idle hidle]
  have hrun : running → s.taken.clock.running = true := (running_iff s.clock).2
  have hhor : inHorizon → beyondHorizon s.taken p.start p.length = false := fun hh => by
    rw [← Bool.not_eq_true, beyondHorizon_iff]
    exact Nat.not_lt.2 hh
  have htime : inTime → ¬p.start < earliestStart s.taken := Nat.not_lt.2
  refine ⟨fun hr => ?_, fun hr hg => ?_, fun hr hg hh => ?_, fun hr hg hh ht => ?_, fun hr hg hh ht hfull => ?_,
    fun i hr hg hh ht hi hlow => ⟨fun hq => ?_, fun hq => ?_⟩⟩
  · have : s.taken.clock.running = false := by
      rw [← Bool.not_eq_true]
      exact fun h => hr ((running_iff s.clock).1 h)
    simp only [bookAct, this]
    rfl
  · rw [bookAct_badValue (hrun hr) hg, reply_taken]
  · have : beyondHorizon s.taken p.start p.length = true := (beyondHorizon_iff _ _ _).2 (Nat.not_le.1 hh)
    rw [bookAct_of_bookValuesOk (hrun hr) hg, if_pos this, reply_taken]
  · have : p.start < earliestStart s.taken := Nat.not_le.1 ht
    rw [bookAct_of_bookValuesOk (hrun hr) hg, hhor hh]
    simp only [if_pos this, reply_taken]
    rfl
  · rw [bookAct_of_bookValuesOk (hrun hr) hg, hhor hh]
    simp only [if_neg (htime ht), lowestFree_eq_none (s := s.taken) hfull, reply_taken]
    rfl
  · rw [bookAct_of_bookValuesOk (hrun hr) hg, hhor hh]
    have : 8 ≤ s.taken.queue.length := hq
    simp only [if_neg (htime ht), lowestFree_eq_some (s := s.taken) hi hlow, if_pos this, reply_taken]
    rfl
  · rw [bookAct_of_bookValuesOk (hrun hr) hg, hhor hh]
    have : ¬8 ≤ s.taken.queue.length := Nat.not_le.2 hq
    simp only [if_neg (htime ht), lowestFree_eq_some (s := s.taken) hi hlow, if_neg this]
    rfl

/-! ### CONFIRM -/

theorem confirmAct_tentative {key : Nat} {s : State} {r : Record} (hl : s.lookup key = some r) (hr : r.state = .tentative) :
    confirmAct key s = reply .done (s.withRecord key { r with state := .firm, holdExpiry := none }) := by
  simp [confirmAct, hl, hr, setRecord_of_lookup hl]

theorem confirmAct_wrongState {key : Nat} {s : State} {r : Record} (hl : s.lookup key = some r) (hr : r.state ≠ .tentative) :
    confirmAct key s = reply .wrongState s := by
  simp [confirmAct, hl, hr]

/-- Settles O5. -/
theorem confirmTakesHold : Obligations.ConfirmTakesHold := by
  unfold Obligations.ConfirmTakesHold
  intro key s hidle
  rw [exec_confirm_idle hidle]
  refine ⟨fun hl => ?_, fun r hl hr => ?_, fun r hl hr => ?_⟩
  · have hl' : s.taken.lookup key = none := hl
    simp only [confirmAct, hl', reply_taken]
  · rw [confirmAct_tentative (s := s.taken) hl hr]
    rfl
  · rw [confirmAct_wrongState (s := s.taken) hl hr, reply_taken]

/-! ### AMEND -/

theorem amendable_iff (st : RecordState) : st.amendable = true ↔ st = .tentative ∨ st = .firm ∨ st = .active := by
  cases st <;> simp [RecordState.amendable]

/-- The length and power of an amendment lie in their ranges (R12). -/
abbrev amendInRange (a : Amendment) : Prop := 1 ≤ a.length ∧ a.length ≤ 48 ∧ 1 ≤ a.power ∧ a.power ≤ 400000

theorem badRange_iff (a : Amendment) : (!lengthOk a.length || !powerOk a.power) = true ↔ ¬amendInRange a := by
  rw [← Bool.not_and, Bool.not_eq_true', ← Bool.not_eq_true, Bool.and_eq_true, lengthOk_iff, powerOk_iff, and_assoc]

/-- The gates of AMEND on a record that waits for its start, as tests of numbers (R13). -/
theorem amendGateWaiting_eq (a : Amendment) (r : Record) (s : State) :
    amendGateWaiting a r s =
      if ¬amendInRange a then some .badValue
      else if r.state = .tentative ∧ r.holdExpiry.any (fun h => decide (a.start < h)) = true then some .badValue
      else if s.clock.interval + 287 < a.start + a.length - 1 then some .horizon
      else if a.start < s.clock.interval + 1 + s.cfg.site.minNotice then some .late
      else none := by
  have hhold : (r.state = .tentative && r.holdExpiry.any fun h => decide (a.start < h)) = true
      ↔ r.state = .tentative ∧ r.holdExpiry.any (fun h => decide (a.start < h)) = true := by
    rw [Bool.and_eq_true, decide_eq_true_eq]
  exact if_congr (badRange_iff a) rfl (if_congr hhold rfl (if_congr (beyondHorizon_iff _ _ _) rfl rfl))

/-- The gates of AMEND on an ACTIVE record, as tests of numbers (R14). -/
theorem amendGateActive_eq (a : Amendment) (r : Record) (s : State) :
    amendGateActive a r s =
      if a.start ≠ r.start ∨ ¬amendInRange a then some .badValue
      else if a.length < (s.clock.interval - r.start + 1) + 1 then some .late
      else if s.clock.interval + 287 < r.start + a.length - 1 then some .horizon
      else none := by
  have hbad : (decide (a.start ≠ r.start) || !powerOk a.power || !lengthOk a.length) = true
      ↔ a.start ≠ r.start ∨ ¬amendInRange a := by
    rw [Bool.or_assoc, Bool.or_comm (!powerOk a.power), Bool.or_eq_true, badRange_iff, decide_eq_true_eq]
  exact if_congr hbad rfl (if_congr Iff.rfl rfl (if_congr (beyondHorizon_iff _ _ _) rfl rfl))

/-- The answer of a gate that is a choice of two gates is the choice of their answers. -/
theorem gate_elim_ite (c : Prop) [Decidable c] (g g' : Option ResultCode) (passed : State) (refused : ResultCode → State) :
    (if c then g else g').elim passed refused = if c then g.elim passed refused else g'.elim passed refused :=
  apply_ite (fun g : Option ResultCode => g.elim passed refused) c g g'

/-- AMEND on a record that may be amended and has no amendment pending answers its gates, and then the queue (R12). -/
theorem amendAct_of_amendable {p : AmendParams} {s : State} {r : Record} (hl : s.lookup p.key = some r)
    (hst : r.state = .tentative ∨ r.state = .firm ∨ r.state = .active) (hp : r.pendingAmend = none) :
    let a := filledAmendment p r s.clock.interval
    amendAct p s = (amendGate a r s).elim
      (if 8 ≤ s.queue.length then reply .queueFull s
        else reply .queued (pushItem ⟨p.key, .amend⟩ (s.withRecord p.key { r with pendingAmend := some a })))
      fun code => reply code s := by
  simp only [amendAct, hl, (amendable_iff _).2 hst, hp, setRecord_of_lookup hl]
  cases amendGate (filledAmendment p r s.clock.interval) r s <;> rfl

theorem amendAct_wrongState {p : AmendParams} {s : State} {r : Record} (hl : s.lookup p.key = some r)
    (hst : ¬(r.state = .tentative ∨ r.state = .firm ∨ r.state = .active)) : amendAct p s = reply .wrongState s := by
  rw [← amendable_iff] at hst
  simp [amendAct, hl, hst]

theorem amendAct_busy {p : AmendParams} {s : State} {r : Record} (hl : s.lookup p.key = some r)
    (hst : r.state = .tentative ∨ r.state = .firm ∨ r.state = .active) (hp : r.pendingAmend ≠ none) :
    amendAct p s = reply .busy s := by
  rw [← amendable_iff] at hst
  simp [amendAct, hl, hst, Option.isSome_iff_ne_none.2 hp]

/-- Settles O6: AMEND's checks of state come first, and then the gates of the record's state, whose tests are those of the
statement in the statement's order. -/
theorem amendGatesAndQueue : Obligations.AmendGatesAndQueue := by
  unfold Obligations.AmendGatesAndQueue
  intro p s hidle
  rw [exec_amend_idle hidle]
  refine ⟨fun hl => ?_, fun r hl => ?_⟩
  · have hl' : s.taken.lookup p.key = none := hl
    simp only [amendAct, hl', reply_taken]
  intro c a inRange queued
  refine ⟨fun ht hf ha => ?_, fun hst hp => ?_, fun hst hp => ?_, fun hst hp => ?_⟩
  · rw [amendAct_wrongState (s := s.taken) hl (by simp [ht, hf, ha]), reply_taken]
  · rw [amendAct_busy (s := s.taken) hl hst hp, reply_taken]
  · have hna : r.state ≠ .active := by rcases hst with h | h <;> simp [h]
    rw [amendAct_of_amendable (s := s.taken) hl (by tauto) hp, amendGate, if_neg hna, amendGateWaiting_eq]
    simp only [gate_elim_ite, Option.elim_some, Option.elim_none]
    rfl
  · rw [amendAct_of_amendable (s := s.taken) hl (by tauto) hp, amendGate, if_pos hst, amendGateActive_eq]
    simp only [gate_elim_ite, Option.elim_some, Option.elim_none]
    rfl

/-! ### RETIRE -/

theorem dropItem_lookup (key k : Nat) (s : State) : (dropItem key s).lookup k = s.lookup k := rfl

/-- A record that has left the book's served states is written without its amendment (R17). -/
theorem leaveBook_of_lookup {s : State} {key : Nat} {r r' : Record} (h : s.lookup key = some r) :
    leaveBook key r' s = dropItem key (s.withRecord key (r'.amendDropped s.clock.interval)) := by
  rw [leaveBook, setRecord_of_lookup h]

/-- What the fall of an amendment leaves of a record (R17). -/
theorem amendDropped_eq (r : Record) (c : Nat) :
    r.amendDropped c = { r with
      pendingAmend := none
      lastAmend := if r.pendingAmend = none then r.lastAmend else some (.refused ⟨.late, c, none⟩) } := by
  cases r with
  | mk => rename_i pendingAmend _ _ _ _; cases pendingAmend <;> rfl

/-- The fall of an item, written out (R17, R18, R29). -/
theorem dropItem_eq (key : Nat) (s : State) :
    dropItem key s = { s with
      queue := s.queue.filter fun it => it.key ≠ key
      engine := { s.engine with
        run := s.engine.run.map fun r => if r.subject = some key then { r with subject := none } else r } } := by
  have hq : (fun it : Item => it.key != key) = fun it => decide (it.key ≠ key) := by
    funext it
    rw [bne_eq, decide_not, beq_eq_decide]
  rw [dropItem, hq]
  rfl

/-- RETIRE on a record that is present, by the record's state (R18). -/
theorem retireAct_of_lookup {s : State} {key : Nat} {r : Record} (h : s.lookup key = some r) :
    retireAct key s = match r.state with
      | .proposed => reply .done ((dropItem key s).withFreed key)
      | .refused | .closed => reply .done (s.withFreed key)
      | .tentative | .firm => reply .done (setVerify ((dropItem key s).withFreed key))
      | .active => reply .done (setVerify (dropItem key
          (s.withRecord key (Record.amendDropped { r with state := .ending } s.clock.interval))))
      | .ending => reply .wrongState s := by
  have hd : (dropItem key s).lookup key = some r := h
  simp only [retireAct, h, retireRecord, freeRecord_of_lookup h, freeRecord_of_lookup hd, leaveBook_of_lookup h]
  cases r.state <;> rfl

/-- Settles O7, by the state of the record. -/
theorem retireByState : Obligations.RetireByState := by
  unfold Obligations.RetireByState
  intro key s hidle dropped
  have hdrop : ∀ t : State, dropItem key t = dropped t := dropItem_eq key
  rw [exec_retire_idle hidle]
  refine ⟨fun hl => ?_, fun r hl => ?_⟩
  · have hl' : s.taken.lookup key = none := hl
    simp only [retireAct, hl', reply_taken]
  · rw [retireAct_of_lookup (s := s.taken) hl]
    refine ⟨fun hr => ?_, fun hr => ?_, fun hr => ?_, fun hr => ?_, fun hr => ?_⟩
    · simp only [hr, hdrop]
      rfl
    · rcases hr with hr | hr <;> simp only [hr] <;> rfl
    · rcases hr with hr | hr <;> simp only [hr, hdrop] <;> rfl
    · simp only [hr, hdrop, amendDropped_eq]
      rfl
    · simp only [hr, reply_taken]

/-! ### READ_COMMITMENT and LIST_COMMITMENTS -/

theorem pageEntries_length (s : State) {page : Nat} (h : page ≤ 7) : (pageEntries s page).length = 16 := by
  simp only [pageEntries, List.length_take, List.length_drop, List.length_map, List.length_finRange]
  omega

/-- Entry `j` of a page is that of slot 16 × page + j (R26). -/
theorem pageEntries_getElem? (s : State) {page j : Nat} (hj : j < 16) {i : Fin 128} (hi : i.val = 16 * page + j) :
    (pageEntries s page)[j]? = some (listEntry i s.book[i]) := by
  have hlt : 16 * page + j < 128 := hi ▸ i.isLt
  have hfin : (⟨16 * page + j, hlt⟩ : Fin 128) = i := Fin.ext hi.symm
  simp [pageEntries, hj, hlt, hfin]

/-- Settles O8. -/
theorem bookReads : Obligations.BookReads := by
  unfold Obligations.BookReads
  intro s hidle
  refine ⟨fun key hl => ?_, fun key r hl => ?_, fun page hpage => ?_, fun page hpage => ⟨pageEntries s page, ?_, ?_, ?_⟩⟩
  · have hl' : s.taken.lookup key = none := hl
    simp only [exec_readCommitment_idle hidle, readCommitmentAct, hl', reply_taken]
  · have hl' : s.taken.lookup key = some r := hl
    simp only [exec_readCommitment_idle hidle, readCommitmentAct, hl', answer_taken]
  · rw [exec_listCommitments_idle hidle, listCommitmentsAct, if_pos hpage, reply_taken]
  · rw [exec_listCommitments_idle hidle, listCommitmentsAct, if_neg (Nat.not_lt.2 hpage), answer_taken]
    rfl
  · exact pageEntries_length s hpage
  · intro j i hj hi
    exact pageEntries_getElem? s hj hi

end Sys2Proof.Machine
end

section
/-! SUPPORT. A new power on an ACTIVE record (R16). -/

namespace Sys2Proof.Machine

theorem powerAt_of_none {r : Record} (h : r.change = none) (n : Nat) : r.powerAt n = r.power := by
  simp [Record.powerAt, powerInForce, h]

theorem powerAt_of_le {r : Record} {ch : PowerChange} (h : r.change = some ch) {n : Nat} (hn : ch.since ≤ n) :
    r.powerAt n = ch.power := by
  simp [Record.powerAt, powerInForce, h, hn]

theorem powerAt_of_lt {r : Record} {ch : PowerChange} (h : r.change = some ch) {n : Nat} (hn : n < ch.since) :
    r.powerAt n = r.power := by
  simp [Record.powerAt, powerInForce, h, Nat.not_le.2 hn]

section Change
variable {r : Record} {power c : Nat}

theorem withPower_same (h : power = r.powerAt (c + 1)) : r.withPower power c = r := if_pos h

theorem withPower_of_none (h : power ≠ r.powerAt (c + 1)) (hch : r.change = none) :
    r.withPower power c = { r with change := some ⟨power, c + 1⟩ } := by
  simp [Record.withPower, h, hch]

theorem withPower_of_inForce (h : power ≠ r.powerAt (c + 1)) {ch : PowerChange} (hch : r.change = some ch)
    (hs : ch.since ≤ c) : r.withPower power c = { r with power := ch.power, change := some ⟨power, c + 1⟩ } := by
  simp [Record.withPower, h, hch, hs]

theorem withPower_of_next (h : power ≠ r.powerAt (c + 1)) {ch : PowerChange} (hch : r.change = some ch)
    (hs : ch.since = c + 1) : r.withPower power c = { r with change := some ⟨power, c + 1⟩ } := by
  simp [Record.withPower, h, hch, hs]

/-- A record whose change takes effect no later than the next interval keeps its power from there on (R16). -/
theorem powerAt_after (hr : ∀ ch, r.change = some ch → ch.since ≤ c + 1) {n : Nat} (hn : c < n) :
    r.powerAt n = r.powerAt (c + 1) := by
  cases hch : r.change with
  | none => rw [powerAt_of_none hch, powerAt_of_none hch]
  | some ch =>
    have := hr ch hch
    rw [powerAt_of_le hch (by omega), powerAt_of_le hch this]

/-- The power in force in the current interval is never changed by an amendment (R16). -/
theorem withPower_powerAt_now (hr : ∀ ch, r.change = some ch → ch.since ≤ c + 1) :
    (r.withPower power c).powerAt c = r.powerAt c := by
  by_cases h : power = r.powerAt (c + 1)
  · rw [withPower_same h]
  cases hch : r.change with
  | none => rw [withPower_of_none h hch, powerAt_of_lt rfl (Nat.lt_succ_self c), powerAt_of_none hch]
  | some ch =>
    by_cases hs : ch.since ≤ c
    · rw [withPower_of_inForce h hch hs, powerAt_of_lt rfl (Nat.lt_succ_self c), powerAt_of_le hch hs]
    · have hnext : ch.since = c + 1 := by have := hr ch hch; omega
      rw [withPower_of_next h hch hnext, powerAt_of_lt rfl (Nat.lt_succ_self c), powerAt_of_lt hch (by omega)]

/-- From the interval after the current one on, the new power is in force (R16). -/
theorem withPower_powerAt_later (hr : ∀ ch, r.change = some ch → ch.since ≤ c + 1) {n : Nat} (hn : c < n) :
    (r.withPower power c).powerAt n = power := by
  by_cases h : power = r.powerAt (c + 1)
  · rw [withPower_same h, powerAt_after hr hn, h]
  have hnew : (r.withPower power c).change = some ⟨power, c + 1⟩ := by
    cases hch : r.change with
    | none => rw [withPower_of_none h hch]
    | some ch =>
      by_cases hs : ch.since ≤ c
      · rw [withPower_of_inForce h hch hs]
      · have hnext : ch.since = c + 1 := by have := hr ch hch; omega
        rw [withPower_of_next h hch hnext]
  exact powerAt_of_le hnew hn

end Change

/-- Settles O11, by the power_change that the record holds. -/
theorem activePowerAmendment : Obligations.ActivePowerAmendment := by
  unfold Obligations.ActivePowerAmendment
  intro r power c hr
  exact ⟨withPower_same, withPower_of_none, fun _ h hch hs => withPower_of_inForce h hch hs,
    fun _ h hch hs => withPower_of_next h hch hs, withPower_powerAt_now hr, fun _ => withPower_powerAt_later hr⟩

end Sys2Proof.Machine
end

section
/-! SUPPORT. The commitment book at a boundary (R20 to R22): what one slot's turn leaves in the book, and what a lapse leaves of
the notices and the engine; the whole boundary is the fold of these turns. -/

namespace Sys2Proof.Machine

/-! ### One slot's turn -/

/-- A record after the boundary into `n`, the clock standing at `c` (R20 to R22). -/
def Record.atBoundary (n c : Nat) (r : Record) : Record :=
  if r.state = .firm ∧ r.start = n then { r with state := .active }
  else if r.lapsesAt n then Record.amendDropped { r with state := .closed, outcome := some .lapsed, atRisk := none } c
  else r

/-- A slot after the boundary: its generation stays (R4, R20 to R22). -/
def BookSlot.atBoundary (n c : Nat) (b : BookSlot) : BookSlot := ⟨b.gen, b.record.map (Record.atBoundary n c)⟩

theorem lapsesAt_iff (r : Record) (n : Nat) :
    r.lapsesAt n = true ↔ r.state = .tentative ∧ (r.holdExpiry = some n ∨ r.start = n) := by
  simp [Record.lapsesAt]

/-- A slot holds a record that lapses at the boundary into `n` (R21). -/
def BookSlot.lapses (n : Nat) (b : BookSlot) : Prop := ∃ r, b.record = some r ∧ r.lapsesAt n = true

/-- No record that has taken the boundary lapses at it again. -/
theorem not_lapses_atBoundary (n c : Nat) (b : BookSlot) : ¬(b.atBoundary n c).lapses n := by
  rintro ⟨r, hr, hl⟩
  obtain ⟨r', -, rfl⟩ := Option.map_eq_some_iff.1 hr
  unfold Record.atBoundary at hl
  split at hl
  · simp [lapsesAt_iff] at hl
  · split at hl
    · simp [lapsesAt_iff] at hl
    · contradiction

/-- A record written under its own slot's key goes into that slot. -/
theorem book_withRecord_keyOf (s : State) (i : Fin 128) (gen : Nat) (r : Record) :
    (s.withRecord (keyOf i gen) r).book[i] = ⟨s.book[i].gen, some r⟩ := by
  simpa using book_withRecord_self s (keyOf i gen) r

section Turn
variable {n : Nat} {i : Fin 128} {s : State} {r : Record}

theorem bookBoundaryAt_of_free (h : s.book[i].record = none) : bookBoundaryAt n i s = s := by
  simp only [bookBoundaryAt, h]

theorem bookBoundaryAt_of_starts (h : s.book[i].record = some r) (hr : r.state = .firm ∧ r.start = n) :
    bookBoundaryAt n i s = s.withRecord (keyOf i s.book[i].gen) { r with state := .active } := by
  simp only [bookBoundaryAt, h, if_pos hr]
  exact setRecord_of_lookup ((lookup_keyOf s i).trans h)

theorem bookBoundaryAt_of_lapses (h : s.book[i].record = some r) (hr : r.lapsesAt n = true) :
    bookBoundaryAt n i s = setVerify (raise .holdLapsed (dropItem (keyOf i s.book[i].gen)
      (s.withRecord (keyOf i s.book[i].gen)
        (Record.amendDropped { r with state := .closed, outcome := some .lapsed, atRisk := none } s.clock.interval)))) := by
  obtain ⟨ht, -⟩ := (lapsesAt_iff r n).1 hr
  have hf : ¬(r.state = .firm ∧ r.start = n) := by simp [ht]
  simp only [bookBoundaryAt, h, if_neg hf, if_pos hr]
  rw [leaveBook_of_lookup ((lookup_keyOf s i).trans h)]

theorem bookBoundaryAt_of_stays (h : s.book[i].record = some r) (hf : ¬(r.state = .firm ∧ r.start = n))
    (hr : ¬r.lapsesAt n = true) : bookBoundaryAt n i s = s := by
  simp only [bookBoundaryAt, h, if_neg hf, if_neg hr]

end Turn

/-- A slot's turn writes that slot. -/
theorem bookBoundaryAt_self (n : Nat) (i : Fin 128) (s : State) :
    (bookBoundaryAt n i s).book[i] = s.book[i].atBoundary n s.clock.interval := by
  cases h : s.book[i].record with
  | none => rw [bookBoundaryAt_of_free h, BookSlot.atBoundary, h, Option.map_none, ← h]
  | some r =>
    rw [BookSlot.atBoundary, h, Option.map_some, Record.atBoundary]
    by_cases hf : r.state = .firm ∧ r.start = n
    · rw [bookBoundaryAt_of_starts h hf, if_pos hf, book_withRecord_keyOf]
    · by_cases hl : r.lapsesAt n = true
      · rw [bookBoundaryAt_of_lapses h hl, if_neg hf, if_pos hl, setVerify_book, raise_book, dropItem_book,
          book_withRecord_keyOf]
      · rw [bookBoundaryAt_of_stays h hf hl, if_neg hf, if_neg hl, ← h]

/-- A slot's turn writes no other slot. -/
theorem bookBoundaryAt_other (n : Nat) {i j : Fin 128} (hij : j ≠ i) (s : State) :
    (bookBoundaryAt n i s).book[j] = s.book[j] := by
  have hw : ∀ r, (s.withRecord (keyOf i s.book[i].gen) r).book[j] = s.book[j] := fun r =>
    book_withRecord_other s r (by rwa [slotOfKey_keyOf])
  cases h : s.book[i].record with
  | none => rw [bookBoundaryAt_of_free h]
  | some r =>
    by_cases hf : r.state = .firm ∧ r.start = n
    · rw [bookBoundaryAt_of_starts h hf, hw]
    · by_cases hl : r.lapsesAt n = true
      · rw [bookBoundaryAt_of_lapses h hl, setVerify_book, raise_book, dropItem_book, hw]
      · rw [bookBoundaryAt_of_stays h hf hl]

@[simp] theorem bookBoundaryAt_clock (n : Nat) (i : Fin 128) (s : State) : (bookBoundaryAt n i s).clock = s.clock := by
  unfold bookBoundaryAt
  split
  · rfl
  · split_ifs <;> simp [leaveBook]

@[simp] theorem bookBoundaryAt_disp (n : Nat) (i : Fin 128) (s : State) : (bookBoundaryAt n i s).disp = s.disp := by
  unfold bookBoundaryAt
  split
  · rfl
  · split_ifs <;> simp [leaveBook]

/-! ### What a lapse leaves of the notices and the engine -/

/-- What a raise leaves of the notices depends on the notices alone (R192). -/
theorem raise_notices_congr (n : Notice) {s t : State} (h : s.notices = t.notices) :
    (raise n s).notices = (raise n t).notices := by
  simp only [raise, h]

/-- No lapse has been taken since state `s`. -/
structure NoLapseSince (s t : State) : Prop where
  notices : t.notices = s.notices
  engine : t.engine = s.engine
  queue : t.queue = s.queue

/-- A lapse has been taken since state `s`: its notice is raised, the flag of R30 stands, and a run in flight is marked (R21,
R31; log entry 44). -/
structure LapseSince (s t : State) : Prop where
  notices : t.notices = (raise .holdLapsed s).notices
  flag : t.engine.flag = true
  run : (t.engine.run.map fun r => { r with subject := none })
    = s.engine.run.map fun r => { r with subject := none, stale := true }

/-- The turn of a slot whose record does not lapse takes no lapse. -/
theorem noLapseSince_turn {n : Nat} {i : Fin 128} {s : State} (h : ¬s.book[i].lapses n) :
    NoLapseSince s (bookBoundaryAt n i s) := by
  cases hr : s.book[i].record with
  | none => rw [bookBoundaryAt_of_free hr]; exact ⟨rfl, rfl, rfl⟩
  | some r =>
    by_cases hf : r.state = .firm ∧ r.start = n
    · rw [bookBoundaryAt_of_starts hr hf]; exact ⟨rfl, rfl, rfl⟩
    · rw [bookBoundaryAt_of_stays hr hf fun hl => h ⟨r, hr, hl⟩]; exact ⟨rfl, rfl, rfl⟩

/-- The turn of a slot whose record lapses takes a lapse. -/
theorem lapseSince_turn {n : Nat} {i : Fin 128} {s : State} (h : s.book[i].lapses n) :
    LapseSince s (bookBoundaryAt n i s) := by
  obtain ⟨r, hr, hl⟩ := h
  rw [bookBoundaryAt_of_lapses hr hl]
  refine ⟨rfl, rfl, ?_⟩
  let key := keyOf i s.book[i].gen
  change (((s.engine.run.map (Run.withoutSubject key)).map fun r => { r with stale := true }).map
    fun r => { r with subject := none }) = _
  rw [Option.map_map, Option.map_map]
  congr 1
  funext run
  simp only [Function.comp_apply, Run.withoutSubject]
  split <;> rfl

/-- A lapse taken before a state that has taken none since is a lapse since. -/
theorem LapseSince.then_noLapse {s t u : State} (h : LapseSince s t) (hu : NoLapseSince t u) : LapseSince s u :=
  ⟨hu.notices.trans h.notices, hu.engine ▸ h.flag, hu.engine ▸ h.run⟩

/-- A second lapse leaves what the first left (R192). -/
theorem LapseSince.then_lapse {s t u : State} (h : LapseSince s t) (hu : LapseSince t u) : LapseSince s u := by
  refine ⟨?_, hu.flag, ?_⟩
  · rw [hu.notices, raise_notices_congr .holdLapsed h.notices, raise_twice]
  · have hrun := congrArg (Option.map fun r : Run => { r with stale := true }) h.run
    rw [hu.run]
    simpa [Option.map_map, Function.comp_def] using hrun

/-- A lapse stays taken over the turn of any slot. -/
theorem LapseSince.turn {s t : State} (h : LapseSince s t) (n : Nat) (i : Fin 128) :
    LapseSince s (bookBoundaryAt n i t) := by
  by_cases hl : t.book[i].lapses n
  · exact h.then_lapse (lapseSince_turn hl)
  · exact h.then_noLapse (noLapseSince_turn hl)

/-! ### The whole boundary -/

@[simp] theorem bookBoundary_clock (n : Nat) (s : State) : (bookBoundary n s).clock = s.clock :=
  foldl_keeps State.clock _ (fun s i => bookBoundaryAt_clock n i s) _ s

@[simp] theorem bookBoundary_disp (n : Nat) (s : State) : (bookBoundary n s).disp = s.disp :=
  foldl_keeps State.disp _ (fun s i => bookBoundaryAt_disp n i s) _ s

/-- The turns of slots other than `j` leave slot `j` as it was. -/
theorem foldl_bookBoundaryAt_not_mem (n : Nat) {j : Fin 128} (l : List (Fin 128)) (hj : j ∉ l) (s : State) :
    (l.foldl (fun s i => bookBoundaryAt n i s) s).book[j] = s.book[j] := by
  induction l generalizing s with
  | nil => rfl
  | cons i l ih =>
    rw [List.mem_cons, not_or] at hj
    obtain ⟨hi, hl⟩ := hj
    rw [List.foldl_cons, ih hl, bookBoundaryAt_other n hi]

/-- Over turns of distinct slots, a slot among them takes the boundary once. -/
theorem foldl_bookBoundaryAt_mem (n : Nat) {j : Fin 128} (l : List (Fin 128)) (hl : l.Nodup) (hj : j ∈ l) (s : State) :
    (l.foldl (fun s i => bookBoundaryAt n i s) s).book[j] = s.book[j].atBoundary n s.clock.interval := by
  induction l generalizing s with
  | nil => simp at hj
  | cons i l ih =>
    obtain ⟨hi, hl⟩ := List.nodup_cons.1 hl
    rw [List.foldl_cons]
    by_cases hij : j = i
    · subst hij
      rw [foldl_bookBoundaryAt_not_mem n l hi, bookBoundaryAt_self]
    · rw [ih hl ((List.mem_cons.1 hj).resolve_left hij), bookBoundaryAt_other n hij, bookBoundaryAt_clock]

/-- Every slot takes the boundary into `n` (R20 to R22). -/
theorem bookBoundary_slot (n : Nat) (s : State) (i : Fin 128) :
    (bookBoundary n s).book[i] = s.book[i].atBoundary n s.clock.interval :=
  foldl_bookBoundaryAt_mem n _ (List.nodup_finRange 128) (List.mem_finRange i) s

/-- A boundary at which no record lapses takes no lapse (R21). -/
theorem bookBoundary_noLapse {n : Nat} {s : State} (h : ∀ i : Fin 128, ¬s.book[i].lapses n) :
    NoLapseSince s (bookBoundary n s) := by
  refine (foldl_invariant (fun t => (∀ i : Fin 128, ¬t.book[i].lapses n) ∧ NoLapseSince s t) _ ?_ _ s
    ⟨h, rfl, rfl, rfl⟩).2
  rintro t j ⟨ht, hst⟩
  have hturn := noLapseSince_turn (ht j)
  refine ⟨fun i => ?_, hturn.notices.trans hst.notices, hturn.engine.trans hst.engine, hturn.queue.trans hst.queue⟩
  by_cases hij : i = j
  · subst hij
    rw [bookBoundaryAt_self]
    exact not_lapses_atBoundary _ _ _
  · rw [bookBoundaryAt_other n hij]
    exact ht i

/-- A boundary at which a record lapses takes a lapse (R21): until some lapse is taken, the slot that holds the record stands as
it stood, and after its own turn it does not. -/
theorem bookBoundary_lapse {n : Nat} {s : State} {i : Fin 128} (h : s.book[i].lapses n) :
    LapseSince s (bookBoundary n s) := by
  have key : LapseSince s (bookBoundary n s)
      ∨ (NoLapseSince s (bookBoundary n s) ∧ (bookBoundary n s).book[i] = s.book[i]) := by
    refine foldl_invariant (fun t => LapseSince s t ∨ (NoLapseSince s t ∧ t.book[i] = s.book[i])) _ ?_ _ s
      (.inr ⟨⟨rfl, rfl, rfl⟩, rfl⟩)
    rintro t j (ht | ⟨hst, hi⟩)
    · exact .inl (ht.turn n j)
    · by_cases hl : t.book[j].lapses n
      · have hturn := lapseSince_turn hl
        refine .inl ⟨?_, hturn.flag, ?_⟩
        · exact hturn.notices.trans (raise_notices_congr .holdLapsed hst.notices)
        · rw [hturn.run, hst.engine]
      · have hij : i ≠ j := fun e => hl (e ▸ hi ▸ h)
        have hturn := noLapseSince_turn hl
        exact .inr ⟨⟨hturn.notices.trans hst.notices, hturn.engine.trans hst.engine, hturn.queue.trans hst.queue⟩,
          (bookBoundaryAt_other n hij t).trans hi⟩
  refine key.resolve_right fun hk => ?_
  rw [bookBoundary_slot] at hk
  exact not_lapses_atBoundary n s.clock.interval s.book[i] (hk.2 ▸ h)

/-- A record after the boundary, written out (R20 to R22). -/
theorem atBoundary_eq (n c : Nat) (r : Record) :
    r.atBoundary n c =
      if r.state = .firm ∧ r.start = n then { r with state := .active }
      else if r.state = .tentative ∧ (r.holdExpiry = some n ∨ r.start = n) then
        { r with
          state := .closed, outcome := some .lapsed, atRisk := none, pendingAmend := none
          lastAmend := if r.pendingAmend = none then r.lastAmend else some (.refused ⟨.late, c, none⟩) }
      else r := by
  rw [Record.atBoundary, amendDropped_eq]
  exact if_congr Iff.rfl rfl (if_congr (lapsesAt_iff r n) rfl rfl)

/-- Settles O9: every slot takes its turn once, and a lapse marks the notices and the engine once for all. -/
theorem bookTakesBoundary : Obligations.BookTakesBoundary := by
  unfold Obligations.BookTakesBoundary
  intro n s
  refine ⟨fun i => ?_, ?_, fun h => ?_, bookBoundary_clock n s, bookBoundary_disp n s⟩
  · rw [bookBoundary_slot]
    refine ⟨rfl, ?_⟩
    simp only [BookSlot.atBoundary]
    congr 1
    funext r
    exact atBoundary_eq n s.clock.interval r
  · rintro ⟨i, r, hr, hl⟩
    have h := bookBoundary_lapse ⟨r, hr, (lapsesAt_iff r n).2 hl⟩
    exact ⟨h.notices, h.flag, h.run⟩
  · have h := bookBoundary_noLapse fun i => by
      rintro ⟨r, hr, hl⟩
      obtain ⟨ht, hn⟩ := (lapsesAt_iff r n).1 hl
      obtain ⟨he, hs⟩ := h i r hr ht
      exact hn.elim he hs
    exact ⟨h.notices, h.engine, h.queue⟩

end Sys2Proof.Machine
end

section
/-! SUPPORT. Credits and closure (R23, R24): the record a credit leaves, and the book, queue and notices around it. -/

namespace Sys2Proof.Machine

/-- The SHORT test without signed numbers (R24). -/
theorem isShort_iff (q : Sums) (tolerance : Nat) :
    isShort q tolerance = true
      ↔ tolerance * q.due < (max q.due q.delivered - min q.due q.delivered) * 1000 := by
  have : ((q.due : Int) - q.delivered).natAbs = max q.due q.delivered - min q.due q.delivered := by omega
  rw [isShort, this, decide_eq_true_eq]

/-- The outcome of a closing record is SHORT exactly by the SHORT test (R24). -/
theorem closeOutcome_short_iff (r : Record) (q : Sums) :
    closeOutcome r q = .short ↔ isShort q r.tolerance = true := by
  unfold closeOutcome
  split_ifs <;> simp_all

theorem closesOn_iff (r : Record) (n : Nat) : closesOn r n = true ↔ n = r.start + r.length - 1 ∨ r.state = .ending := by
  rw [closesOn, Bool.or_eq_true, decide_eq_true_eq, decide_eq_true_eq, Record.last]

section Credit
variable {s : State} {key : Nat} {r : Record}

/-- What a record that leaves the book's served states leaves under its key (R5, R17). -/
theorem lookup_leaveBook_self (h : s.lookup key = some r) (r' : Record) :
    (leaveBook key r' s).lookup key = some (r'.amendDropped s.clock.interval) := by
  rw [leaveBook_of_lookup h, dropItem_lookup, lookup_withRecord_self h]

/-- A record that leaves the book's served states leaves every other slot (R3). -/
theorem lookup_leaveBook_other (h : s.lookup key = some r) (r' : Record) {k : Nat} (hk : slotOfKey k ≠ slotOfKey key) :
    (leaveBook key r' s).lookup k = s.lookup k := by
  rw [leaveBook_of_lookup h, dropItem_lookup, lookup_withRecord_other s _ hk]

theorem raise_lookup (n : Notice) (s : State) (k : Nat) : (raise n s).lookup k = s.lookup k := rfl

theorem raiseIf_lookup (b : Bool) (n : Notice) (s : State) (k : Nat) : (raiseIf b n s).lookup k = s.lookup k := by
  cases b <;> rfl

theorem raiseIf_notices_congr (b : Bool) (n : Notice) {s t : State} (h : s.notices = t.notices) :
    (raiseIf b n s).notices = (raiseIf b n t).notices := by
  cases b with
  | false => exact h
  | true => exact raise_notices_congr n h

@[simp] theorem leaveBook_notices (r' : Record) : (leaveBook key r' s).notices = s.notices := by simp [leaveBook]

/-- A credit that closes no record leaves the sums alone to change (R23). -/
theorem creditRecord_open (h : s.lookup key = some r) {n : Nat} (hn : closesOn r n = false) (due delivered : Nat) :
    creditRecord key n due delivered s = s.withRecord key { r with sums := some (addCredit r.sums due delivered) } := by
  simp only [creditRecord, h, hn]
  exact setRecord_of_lookup h

/-- A credit that closes its record (R23, R24). -/
theorem creditRecord_closes (h : s.lookup key = some r) {n : Nat} (hn : closesOn r n = true) (due delivered : Nat) :
    let q := addCredit r.sums due delivered
    creditRecord key n due delivered s = raiseIf (isShort q r.tolerance) .short (raise .closed (leaveBook key
      { r with sums := some q, state := .closed, outcome := some (closeOutcome r q), atRisk := none } s)) := by
  intro q
  have hshort : decide (closeOutcome r q = .short) = isShort q r.tolerance := by
    rw [Bool.eq_iff_iff, decide_eq_true_eq, closeOutcome_short_iff]
  simp only [creditRecord, h, hn, if_true]
  rw [hshort]

end Credit

/-- Settles O10: a credit finds no record, leaves it open, or closes it. -/
theorem creditClosesRecord : Obligations.CreditClosesRecord := by
  unfold Obligations.CreditClosesRecord
  intro key n due delivered s
  refine ⟨fun hl => by simp only [creditRecord, hl], fun r hl => ?_⟩
  intro old q closes short
  have hq : addCredit r.sums due delivered = q := rfl
  refine ⟨fun hn => ?_, fun hn => ⟨_, creditRecord_closes hl ((closesOn_iff r n).2 hn) due delivered, ?_, ?_, ?_, ?_⟩⟩
  · have hopen : closesOn r n = false := by
      rw [← Bool.not_eq_true, closesOn_iff]
      exact hn
    rw [creditRecord_open hl hopen, hq]
  · have hout : closeOutcome r q = if short then CloseOutcome.short else if r.state = .ending then .curtailed else .honoured :=
      if_congr (isShort_iff q r.tolerance) rfl rfl
    rw [raiseIf_lookup, raise_lookup, lookup_leaveBook_self hl, amendDropped_eq, hq, hout]
  · intro k hk
    rw [raiseIf_lookup, raise_lookup, lookup_leaveBook_other hl _ hk]
  · intro it hit
    rw [raiseIf_queue, raise_queue] at hit
    exact key_ne_of_mem_dropItem hit
  · have hshort : isShort q r.tolerance = decide short := by
      rw [Bool.eq_iff_iff, decide_eq_true_eq]
      exact isShort_iff q r.tolerance
    rw [hq, hshort]
    exact raiseIf_notices_congr _ _ (raise_notices_congr _ (leaveBook_notices _))

end Sys2Proof.Machine
end

section
/-! SUPPORT. The completion of an admission run (R10, R15, R47 to R49, R51). -/

namespace Sys2Proof.Machine

theorem wrapInc_eq (n : Nat) : wrapInc n = if n < 4294967295 then n + 1 else 0 := by
  unfold wrapInc
  split_ifs <;> omega

/-- The book's recheck of a booking keeps the hold_expiry that has come too near (R10). -/
theorem bookingLate_eq (r : Record) (c minNotice : Nat) :
    bookingLate r c minNotice =
      if r.start < c + 1 + minNotice then some r.start else r.holdExpiry.filter fun h => decide (h < c + 1) := by
  unfold bookingLate
  congr 1
  cases r.holdExpiry with
  | none => rfl
  | some h => simp [Option.filter]

section Complete
variable {s : State} {run : Run} {key : Nat} {r : Record}

theorem exec_admissionRunComplete (hrun : s.engine.run = some run) (hk : run.kind ≠ .verification) :
    exec .admissionRunComplete s = .next (completeAdmission run s) := by
  change Host.Outcome.next _ = _
  simp only [hrun, if_neg hk]

theorem completeAdmission_of_subject (hs : run.subject = some key) (hl : s.lookup key = some r) :
    completeAdmission run s = judgeCandidate run key r s := by
  simp only [completeAdmission, hs, hl]

/-- The LATE check comes first (R47). -/
theorem judgeCandidate_late {n : Nat} (h : candidateLate run.kind r s = some n) :
    judgeCandidate run key r s = refuseCandidate run key ⟨.late, n, none⟩ r s := by
  simp only [judgeCandidate, h]

/-- The blocking slot refuses a candidate that is not LATE (R47, R49). -/
theorem judgeCandidate_blocked (h : candidateLate run.kind r s = none) {sl : ProjSlot}
    (hb : blockingSlot (runTable run.copy) s.engine.live = some sl) :
    judgeCandidate run key r s = refuseCandidate run key sl.refusal r s := by
  simp only [judgeCandidate, h, hb]

/-- A candidate that nothing refuses is admitted (R48). -/
theorem judgeCandidate_admits (h : candidateLate run.kind r s = none)
    (hb : blockingSlot (runTable run.copy) s.engine.live = none) :
    judgeCandidate run key r s = admitCandidate run key (runTable run.copy) r s := by
  simp only [judgeCandidate, h, hb]

theorem refuseCandidate_of_lookup (hl : s.lookup key = some r) (note : RefusalNote) :
    refuseCandidate run key note r s
      = raise .admissionDone ((dropRun s).withRecord key (candidateRefused run.kind note r)) := by
  rw [refuseCandidate, setRecord_of_lookup (s := dropRun s) hl]

theorem admitCandidate_of_lookup (hl : s.lookup key = some r) (table : List ProjSlot) :
    admitCandidate run key table r s = recompute (raise .admissionDone (writeMarks run.copy table
      ((goLive run table s).withRecord key (candidateAdmitted run.kind s.clock.interval r)))) := by
  rw [admitCandidate, setRecord_of_lookup (s := goLive run table s) hl]

theorem refusal_of_fail {sl : ProjSlot} {reason : Reason} (h : sl.status = .fail reason) :
    sl.refusal = ⟨reason, sl.interval, if sl.failCavern = 0 then none else some sl.failCavern⟩ := by
  simp only [ProjSlot.refusal, h]

end Complete

/-- Settles O15: the candidate's LATE check, its record after a refusal and its record after an admission are the statement's by
the kind of the run, and the run completes by the first of R47's checks that refuses. -/
theorem admissionRunCompletes : Obligations.AdmissionRunCompletes := by
  unfold Obligations.AdmissionRunCompletes
  intro s run hrun hk ended table c earliest
  rw [exec_admissionRunComplete hrun hk]
  refine ⟨fun hs => by simp only [completeAdmission, hs]; rfl, fun key r hs hl hamend => ?_⟩
  intro late refused admitted
  have hlate : candidateLate run.kind r s = late := by
    cases hkind : run.kind with
    | verification => contradiction
    | admitting =>
      simp only [late, hkind, candidateLate]
      exact bookingLate_eq r c s.cfg.site.minNotice
    | amend =>
      obtain ⟨a, ha⟩ := Option.ne_none_iff_exists'.1 (hamend hkind)
      simp only [late, hkind, ha, candidateLate]
      rfl
  have hrefused : ∀ note, candidateRefused run.kind note r = refused note := by
    intro note
    cases hkind : run.kind with
    | verification => contradiction
    | admitting => simp only [refused, hkind]; rfl
    | amend => simp only [refused, hkind]; rfl
  have hadmitted : candidateAdmitted run.kind s.clock.interval r = admitted := by
    cases hkind : run.kind with
    | verification => contradiction
    | admitting => simp only [admitted, hkind]; rfl
    | amend =>
      obtain ⟨a, ha⟩ := Option.ne_none_iff_exists'.1 (hamend hkind)
      simp only [admitted, hkind, ha, candidateAdmitted, Record.amended]
      rfl
  rw [completeAdmission_of_subject hs hl]
  refine ⟨fun n hn => ?_, fun sl reason hn hb hf => ?_, fun hn hb => ?_⟩
  · rw [judgeCandidate_late (hlate.trans hn), refuseCandidate_of_lookup hl, hrefused]
    rfl
  · rw [judgeCandidate_blocked (hlate.trans hn) hb, refuseCandidate_of_lookup hl, hrefused, refusal_of_fail hf]
    rfl
  · rw [judgeCandidate_admits (hlate.trans hn) hb, admitCandidate_of_lookup hl, hadmitted, goLive, wrapInc_eq]

end Sys2Proof.Machine
end

section
/-! SUPPORT. What the two resets leave (R6, R62, R83, R97, R120, R142, R159, R173, R192, R199, R200). -/

namespace Sys2Proof.Machine

/-! ### Notices by name -/

theorem Notice.index_lt (n : Notice) : n.index < 23 := by cases n <;> decide

/-- A notice's position is its place among the constructors, so that no two notices share one (R203). -/
theorem Notice.index_injective {m n : Notice} (h : m.index = n.index) : m = n := by
  have hctor : ∀ k : Notice, k.index = k.ctorIdx := fun k => by cases k <;> rfl
  rw [hctor, hctor] at h
  rw [← Notice.ofNat_ctorIdx m, h, Notice.ofNat_ctorIdx]

/-- A raise sets its own flag and no other (R192). -/
theorem raised_raise (m n : Notice) (s : State) : (raise m s).raised n ↔ s.raised n ∨ n = m := by
  have hbit : (Notice.bit m).getLsbD n.index = true ↔ n = m := by
    rw [Notice.bit, BitVec.getLsbD_twoPow, Bool.and_eq_true, decide_eq_true_eq, decide_eq_true_eq]
    exact ⟨fun h => (Notice.index_injective h.2).symm, fun h => ⟨m.index_lt, h ▸ rfl⟩⟩
  simp only [State.raised, raise, BitVec.getLsbD_or, Bool.or_eq_true, hbit]

/-! ### The blocks after a reset -/

/-- Every block of `t` stands as a reset taken in `s` leaves it, its settings and the number of its interval aside, and what no
reset touches stands as in `s` (log entry 29). -/
structure ResetBlocks (s t : State) : Prop where
  queue : t.queue = []
  engine : t.engine = .cleared
  caverns : t.caverns = Vector.replicate 4 .cleared
  store : t.store = .cleared
  trains : t.trains = Vector.replicate 8 .cleared
  disp : t.disp = .cleared
  scan : t.scan = .cleared s.now
  clock : t.clock = { Clock.cleared with interval := t.clock.interval }
  link : t.link = .cleared t.cfg.trains
  book : ∀ i : Fin 128, t.book[i].record = none
  mask : t.notices.mask = BitVec.allOnes 23
  reported : t.notices.reported = 0
  now : t.now = s.now
  free : t.free = s.free
  pins : t.pins = s.pins
  pending : t.pending = s.pending

/-- A notice raised at a reset leaves the blocks as they are: nothing is reported yet. -/
theorem ResetBlocks.raise {s t : State} (h : ResetBlocks s t) (n : Notice) : ResetBlocks s (raise n t) where
  queue := h.queue
  engine := h.engine
  caverns := h.caverns
  store := h.store
  trains := h.trains
  disp := h.disp
  scan := h.scan
  clock := h.clock
  link := h.link
  book := h.book
  mask := h.mask
  reported := by simp [Machine.raise, h.reported]
  now := h.now
  free := h.free
  pins := h.pins
  pending := h.pending

/-- The IDENT line after a reset holds the configured entries (R97, R101). -/
theorem mem_identLineOf (trains : Vector TrainCfg 8) (i : Fin 8) :
    i ∈ identLineOf trains ↔ trains[i].configured = true := by
  simp [identLineOf]

/-- The IDENT line after a reset is in order of entry number (log entry 41). -/
theorem identLineOf_pairwise (trains : Vector TrainCfg 8) : (identLineOf trains).Pairwise (· < ·) :=
  (List.pairwise_lt_finRange 8).filter _

/-- The TRIP input that stands asserted before a reset is taken after it (R120). -/
theorem ResetBlocks.tripAtReset {s t : State} (h : ResetBlocks s t) :
    tripAtReset t = if s.pins.trip = true then tripAsserted t else t := by
  rw [Machine.tripAtReset, h.pins]

/-! ### The station reset -/

theorem exec_resetStation_idle {s : State} (h : s.port.state = .idle) :
    exec .resetStation s = .next (tripAtReset (stationReset (s.answered .done .empty))) :=
  congrArg Host.Outcome.next (station_idle h _)

theorem bookEmptied_slot (book : Vector BookSlot 128) (i : Fin 128) : (bookEmptied book)[i] = ⟨book[i].gen, none⟩ := by
  simp [bookEmptied]

theorem stationReset_book (s : State) (i : Fin 128) : (stationReset s).book[i] = ⟨s.book[i].gen, none⟩ :=
  bookEmptied_slot s.book i

theorem stationReset_cfg (s : State) : (stationReset s).cfg = s.cfg := by simp only [stationReset]

theorem stationReset_port (s : State) : (stationReset s).port = s.port := by simp only [stationReset]

theorem stationReset_interval (s : State) : (stationReset s).clock.interval = s.clock.interval := by
  simp only [stationReset]

/-- A station reset takes effect under its own held answer (R200). -/
theorem stationReset_blocks (s : State) (r : ResultCode) (b : Body) : ResetBlocks s (stationReset (s.answered r b)) where
  queue := rfl
  engine := rfl
  caverns := rfl
  store := rfl
  trains := rfl
  disp := rfl
  scan := by simp only [stationReset, State.answered]
  clock := rfl
  link := rfl
  book i := by rw [stationReset_book]
  mask := rfl
  reported := rfl
  now := by simp only [stationReset, State.answered]
  free := by simp only [stationReset, State.answered]
  pins := by simp only [stationReset, State.answered]
  pending := by simp only [stationReset, State.answered]

theorem afterStationReset_eq (n : SettingsStore) :
    n.afterStationReset =
      if n.saving = none then n else { n with saving := none, image := none, lastSave := .abandoned } := by
  cases h : n.saving <;> simp [SettingsStore.afterStationReset, h]

/-! ### The power-on reset -/

theorem emptyBook_slot (i : Fin 128) : emptyBook[i] = ⟨0, none⟩ := by simp [emptyBook]

/-- The part at power-on with the settings that it loads, before SETTINGS_DEFAULTED is raised (R199). -/
def poweredWith (s : State) (cfg : Settings) : State where
  now := s.now
  free := s.free
  pins := s.pins
  cfg := cfg
  book := emptyBook
  queue := []
  engine := .cleared
  caverns := Vector.replicate 4 .cleared
  store := .cleared
  trains := Vector.replicate 8 .cleared
  disp := .cleared
  scan := .cleared s.now
  clock := .cleared
  link := .cleared cfg.trains
  notices := .cleared
  nv := s.nv.afterPowerOn
  port := ⟨.idle, []⟩
  pending := s.pending

theorem powerOnState_of_image {s : State} {cfg : Settings} (h : s.nv.image = some cfg) :
    powerOnState s = poweredWith s cfg := by
  simp only [powerOnState, h]
  rfl

theorem powerOnState_of_noImage {s : State} (h : s.nv.image = none) :
    powerOnState s = raise .settingsDefaulted (poweredWith s .factory) := by
  simp only [powerOnState, h]
  rfl

theorem poweredWith_blocks (s : State) (cfg : Settings) : ResetBlocks s (poweredWith s cfg) where
  queue := rfl
  engine := rfl
  caverns := rfl
  store := rfl
  trains := rfl
  disp := rfl
  scan := rfl
  clock := rfl
  link := rfl
  book i := congrArg BookSlot.record (emptyBook_slot i)
  mask := rfl
  reported := rfl
  now := rfl
  free := rfl
  pins := rfl
  pending := rfl

theorem powerOnState_blocks (s : State) : ResetBlocks s (powerOnState s) := by
  cases h : s.nv.image with
  | none => exact powerOnState_of_noImage h ▸ (poweredWith_blocks s .factory).raise _
  | some cfg => exact powerOnState_of_image h ▸ poweredWith_blocks s cfg

section PowerOn
variable (s : State)

theorem powerOnState_port : (powerOnState s).port = ⟨.idle, []⟩ := by simp only [powerOnState, raiseIf_port]

theorem powerOnState_gen (i : Fin 128) : (powerOnState s).book[i].gen = 0 := by
  simp only [powerOnState, raiseIf_book, emptyBook_slot]

theorem powerOnState_interval : (powerOnState s).clock.interval = 0 := by
  simp only [powerOnState, raiseIf_clock]
  rfl

theorem powerOnState_nv : (powerOnState s).nv = s.nv.afterPowerOn := by simp only [powerOnState, raiseIf_nv]

end PowerOn

/-- Settles O54: each reset leaves the blocks of `ResetBlocks`, and beside them its own port, generations, settings, settings
store and notices. -/
theorem resetsLeave : Obligations.ResetsLeave := by
  unfold Obligations.ResetsLeave
  intro s tripTaken clear blocks
  have hblocks : ∀ t, ResetBlocks s t → blocks t := fun t h => by
    refine ⟨h.queue, h.engine, h.caverns, h.store, h.trains, h.disp, h.scan, h.clock, ?_, fun i => ?_, ?_, h.book, h.mask,
      h.reported, h.now, h.free, h.pins, h.pending⟩
    · rw [h.link]
      rfl
    · rw [h.link]
      exact mem_identLineOf t.cfg.trains i
    · rw [h.link]
      exact identLineOf_pairwise t.cfg.trains
  refine ⟨fun hidle => ?_, ?_⟩
  · have h := stationReset_blocks s .done .empty
    refine ⟨stationReset (s.answered .done .empty), ?_, hblocks _ h, stationReset_cfg _, stationReset_port _, fun i => ?_, rfl,
      stationReset_interval _, afterStationReset_eq s.nv⟩
    · rw [exec_resetStation_idle hidle, h.tripAtReset]
    · rw [stationReset_book]
      rfl
  · have h := powerOnState_blocks s
    refine ⟨powerOnState s, congrArg Host.Outcome.next h.tripAtReset, hblocks _ h, powerOnState_port s, powerOnState_gen s,
      powerOnState_interval s, ?_, ?_, ?_, fun cfg hi => ?_, fun hi => ?_⟩
    · rw [powerOnState_nv]
      rfl
    · rw [powerOnState_nv]
      rfl
    · rw [powerOnState_nv]
      rfl
    · rw [powerOnState_nv, powerOnState_of_image hi]
      exact ⟨rfl, by simp [SettingsStore.afterPowerOn, hi], rfl⟩
    · rw [powerOnState_nv, powerOnState_of_noImage hi]
      have hclear : ∀ n, ¬(poweredWith s .factory).raised n := fun n => by
        simp [State.raised, poweredWith, Notices.cleared]
      refine ⟨rfl, by simp [SettingsStore.afterPowerOn, hi], (raised_raise _ _ _).2 (.inr rfl), fun n hn => ?_⟩
      rw [raised_raise]
      exact not_or.2 ⟨hclear n, hn⟩

end Sys2Proof.Machine
end

section
/-! SUPPORT. What the commands leave of the book, the admission queue, the run in flight, the tables and the clock. -/

namespace Sys2Proof.Machine

/-- What the invariants of the admission queue and of the live table speak of: the book, the queue, the run in flight by its
kind, subject and copy, the tables, and the clock. -/
structure Plan where
  book : Vector BookSlot 128
  queue : List Item
  run : Option (RunKind × Option Nat × RunCopy)
  live : Option (List ProjSlot)
  closed : Option ProjSlot
  clock : Clock

/-- The plan of a state. -/
def State.plan (s : State) : Plan :=
  ⟨s.book, s.queue, s.engine.run.map fun r => (r.kind, r.subject, r.copy), s.engine.live, s.engine.closed, s.clock⟩

variable (s : State)

/-! ### Updates of a field outside the plan -/

@[simp] theorem plan_with_now (x : Nat) : ({ s with now := x } : State).plan = s.plan := rfl
@[simp] theorem plan_with_free (x : Nat) : ({ s with free := x } : State).plan = s.plan := rfl
@[simp] theorem plan_with_pins (x : Pins) : ({ s with pins := x } : State).plan = s.plan := rfl
@[simp] theorem plan_with_cfg (x : Settings) : ({ s with cfg := x } : State).plan = s.plan := rfl
@[simp] theorem plan_with_caverns (x : Vector CavernWork 4) : ({ s with caverns := x } : State).plan = s.plan := rfl
@[simp] theorem plan_with_store (x : StoreWork) : ({ s with store := x } : State).plan = s.plan := rfl
@[simp] theorem plan_with_trains (x : Vector TrainWork 8) : ({ s with trains := x } : State).plan = s.plan := rfl
@[simp] theorem plan_with_disp (x : DispatchUnit) : ({ s with disp := x } : State).plan = s.plan := rfl
@[simp] theorem plan_with_scan (x : Scanner) : ({ s with scan := x } : State).plan = s.plan := rfl
@[simp] theorem plan_with_link (x : Link) : ({ s with link := x } : State).plan = s.plan := rfl
@[simp] theorem plan_with_notices (x : Notices) : ({ s with notices := x } : State).plan = s.plan := rfl
@[simp] theorem plan_with_nv (x : SettingsStore) : ({ s with nv := x } : State).plan = s.plan := rfl
@[simp] theorem plan_with_port (x : Port) : ({ s with port := x } : State).plan = s.plan := rfl
@[simp] theorem plan_with_pending (x : List Instr) : ({ s with pending := x } : State).plan = s.plan := rfl

/-- A choice between two states that keep the plan keeps it. -/
theorem plan_ite {c : Prop} [Decidable c] {a b : State} (ha : a.plan = s.plan) (hb : b.plan = s.plan) :
    (if c then a else b).plan = s.plan := by split <;> assumption

/-! ### The shared operations -/

@[simp] theorem raise_plan (n : Notice) : (raise n s).plan = s.plan := rfl
@[simp] theorem raiseIf_plan (b : Bool) (n : Notice) : (raiseIf b n s).plan = s.plan := by cases b <;> rfl
@[simp] theorem setVerify_plan : (setVerify s).plan = s.plan := by simp [setVerify, State.plan, Function.comp_def]
@[simp] theorem setVerifyIf_plan (b : Bool) : (setVerifyIf b s).plan = s.plan := by cases b <;> simp [setVerifyIf]
@[simp] theorem answer_plan (r : ResultCode) (b : Body) : (answer r b s).plan = s.plan := rfl
@[simp] theorem reply_plan (r : ResultCode) : (reply r s).plan = s.plan := rfl
@[simp] theorem sequenceError_plan : (sequenceError s).plan = s.plan := rfl
@[simp] theorem issue_plan (c : Cmd) : (issue c s).plan = s.plan := rfl
@[simp] theorem putIdent_plan (i : Fin 8) : (putIdent i s).plan = s.plan := plan_ite s rfl rfl
@[simp] theorem putIdentAfter_plan (i : Fin 8) : (putIdentAfter i s).plan = s.plan :=
  plan_ite s rfl (putIdent_plan s i)
@[simp] theorem withdrawIdent_plan (i : Fin 8) : (withdrawIdent i s).plan = s.plan := rfl

variable {s} in
/-- A request keeps the plan where the command it carries does: a request out of turn keeps it anyway (R191). -/
theorem station_plan {act : State → State} (h : ∀ s, (act s).plan = s.plan) : (station act s).plan = s.plan := by
  by_cases hi : s.port.state = .idle
  · rw [station_idle hi, h]
    rfl
  · rw [station_busy hi, sequenceError_plan]

variable {s} in
/-- A settings-class write keeps the plan where the command does: BUSY keeps it anyway (R198). -/
theorem settingsWrite_plan {act : State → State} (h : ∀ s, (act s).plan = s.plan) : (settingsWrite act s).plan = s.plan :=
  plan_ite s (reply_plan s _) (h s)

/-! ### The roster -/

@[simp] theorem setTrain_plan (i : Fin 8) (w : TrainWork) : (setTrain i w s).plan = s.plan := rfl
@[simp] theorem setTrainCfg_plan (i : Fin 8) (t : TrainCfg) : (setTrainCfg i t s).plan = s.plan := rfl
@[simp] theorem noteLeftRunning_plan (i : Fin 8) (a b : TrainState) : (noteLeftRunning i a b s).plan = s.plan :=
  plan_ite s rfl rfl
@[simp] theorem dropSetpoint_plan (i : Fin 8) (a : TrainState) : (dropSetpoint i a s).plan = s.plan := plan_ite s rfl rfl
@[simp] theorem notePollMark_plan (i : Fin 8) (a b : TrainState) : (notePollMark i a b s).plan = s.plan :=
  plan_ite s (plan_ite s rfl rfl) rfl
@[simp] theorem moveTrain_plan (i : Fin 8) (new : TrainState) (timer : Option Timer) :
    (moveTrain i new timer s).plan = s.plan := by simp [moveTrain]
@[simp] theorem enterStopping_plan (i : Fin 8) : (enterStopping i s).plan = s.plan := by simp [enterStopping]
@[simp] theorem stopTrain_plan (i : Fin 8) : (stopTrain i s).plan = s.plan := by simp [stopTrain]
@[simp] theorem lockOut_plan (i : Fin 8) (c : LockoutCause) : (lockOut i c s).plan = s.plan := by simp [lockOut]
@[simp] theorem enterResting_plan (i : Fin 8) : (enterResting i s).plan = s.plan := by simp [enterResting]
@[simp] theorem restAfterStop_plan (i : Fin 8) : (restAfterStop i s).plan = s.plan := by
  unfold restAfterStop
  split <;> simp
@[simp] theorem stopUnbidden_plan (i : Fin 8) : (stopUnbidden i s).plan = s.plan := by simp [stopUnbidden]
@[simp] theorem enterRunning_plan (i : Fin 8) : (enterRunning i s).plan = s.plan := by simp [enterRunning]
@[simp] theorem holdNothing_plan (i : Fin 8) : (holdNothing i s).plan = s.plan := rfl
@[simp] theorem setBindFault_plan (i : Fin 8) (f : Option BindFault) : (setBindFault i f s).plan = s.plan := by
  simp [setBindFault]
@[simp] theorem reportAnnounced_plan (i : Fin 8) (st : ReportedState) : (reportAnnounced i st s).plan = s.plan := rfl
@[simp] theorem ratingChanged_plan (i : Fin 8) : (ratingChanged i s).plan = s.plan := by
  have h := setVerify_plan s
  unfold ratingChanged
  simp only
  split <;> exact h
@[simp] theorem takeRatings_plan (i : Fin 8) (a : Announce) : (takeRatings i a s).plan = s.plan := by
  unfold takeRatings
  simp only
  split <;> simp
@[simp] theorem bindAs_plan (i : Fin 8) (st : ReportedState) : (bindAs i st s).plan = s.plan := by
  cases st <;> simp [bindAs]
@[simp] theorem announceAbsent_plan (i : Fin 8) (a : Announce) : (announceAbsent i a s).plan = s.plan := by
  unfold announceAbsent
  simp only
  split <;> simp
@[simp] theorem announceOther_plan (i : Fin 8) (a : Announce) : (announceOther i a s).plan = s.plan := by
  unfold announceOther
  simp only
  split <;> simp
@[simp] theorem takeAnnounce_plan (i : Fin 8) (a : Announce) : (takeAnnounce i a s).plan = s.plan := by
  unfold takeAnnounce
  split <;> simp
@[simp] theorem identFailed_plan (i : Fin 8) : (identFailed i s).plan = s.plan := by
  unfold identFailed
  split <;> simp
@[simp] theorem identEnded_plan (i : Fin 8) : (identEnded i s).plan = s.plan := plan_ite s rfl rfl
@[simp] theorem recoverLost_plan (i : Fin 8) (st : ReportedState) : (recoverLost i st s).plan = s.plan := by
  cases st <;> simp only [recoverLost]
  case starting => split <;> simp
  case running => split <;> simp
  all_goals simp
@[simp] theorem statusMove_plan (i : Fin 8) (st : ReportedState) : (statusMove i st s).plan = s.plan := by
  unfold statusMove
  split <;> simp
@[simp] theorem takeStatus_plan (i : Fin 8) (r : Report) : (takeStatus i r s).plan = s.plan := by simp [takeStatus]
@[simp] theorem declareLost_plan (i : Fin 8) : (declareLost i s).plan = s.plan := by
  unfold declareLost
  split <;> simp
@[simp] theorem restBoundary_plan (i : Fin 8) : (restBoundary i s).plan = s.plan := by
  unfold restBoundary
  simp only
  split <;> simp
@[simp] theorem rosterCount_plan (i : Fin 8) : (rosterCount i s).plan = s.plan := by
  unfold rosterCount
  split <;> simp
@[simp] theorem rosterBoundaryAt_plan (n : Nat) (i : Fin 8) : (rosterBoundaryAt n i s).plan = s.plan := by
  unfold rosterBoundaryAt
  split <;> simp

/-! ### The dispatch unit -/

@[simp] theorem formTarget_plan : (formTarget s).plan = s.plan := by simp [formTarget]
@[simp] theorem cutLost_plan (kind : TrainKind) : (cutLost kind s).plan = s.plan := plan_ite s rfl rfl
@[simp] theorem holdValues_plan (l : List (Fin 8 × Nat)) : (holdValues l s).plan = s.plan := rfl
@[simp] theorem stopIfIdle_plan (prot : List (Fin 8)) (i : Fin 8) : (stopIfIdle prot i s).plan = s.plan :=
  plan_ite s (stopTrain_plan s i) rfl
@[simp] theorem setIfChanged_plan (i : Fin 8) : (setIfChanged i s).plan = s.plan := by
  unfold setIfChanged
  split
  · exact plan_ite s rfl rfl
  · rfl
@[simp] theorem startTrain_plan (i : Fin 8) : (startTrain i s).plan = s.plan := by
  simp only [startTrain, issue_plan, plan_with_disp, moveTrain_plan]
@[simp] theorem startIfNeeded_plan (before : State) (i : Fin 8) : (startIfNeeded before i s).plan = s.plan :=
  plan_ite s (startTrain_plan s i) rfl
@[simp] theorem recomputeOnce_plan : (recomputeOnce s).plan = s.plan :=
  recomputeOnce_keeps State.plan formTarget_plan (fun k s => cutLost_plan s k) (fun l s => holdValues_plan s l)
    (fun l i s => stopIfIdle_plan s l i) (fun i s => setIfChanged_plan s i) (fun b i s => startIfNeeded_plan s b i) s
/-- A recompute keeps the plan (R123). -/
@[simp] theorem recompute_plan : (recompute s).plan = s.plan := recompute_keeps State.plan recomputeOnce_plan s
@[simp] theorem recomputeIf_plan (b : Bool) : (recomputeIf b s).plan = s.plan := plan_ite s (recompute_plan s) rfl
@[simp] theorem recomputeIfMoved_plan (before : State) : (recomputeIfMoved before s).plan = s.plan := recomputeIf_plan s _
@[simp] theorem recomputeIfBanned_plan (before : State) : (recomputeIfBanned before s).plan = s.plan :=
  recomputeIf_plan s _
@[simp] theorem openTallyFor_plan (n : Nat) : (openTallyFor n s).plan = s.plan := rfl
@[simp] theorem countChangeover_plan : (countChangeover s).plan = s.plan := rfl
@[simp] theorem reformHold_plan : (reformHold s).plan = s.plan := rfl
@[simp] theorem dispatchBegin_plan (n : Nat) : (dispatchBegin n s).plan = s.plan := rfl
@[simp] theorem stopIfUp_plan (i : Fin 8) : (stopIfUp i s).plan = s.plan := plan_ite s (stopTrain_plan s i) rfl
@[simp] theorem zeroLost_plan : (zeroLost s).plan = s.plan := rfl
@[simp] theorem tripAsserted_plan : (tripAsserted s).plan = s.plan := by
  simp only [tripAsserted, recompute_plan, zeroLost_plan]
  rw [inMerit_keeps State.plan stopIfUp fun i s => stopIfUp_plan s i]
  simp
@[simp] theorem tripReleased_plan : (tripReleased s).plan = s.plan := by simp [tripReleased]
@[simp] theorem markReply_plan (i : Fin 8) : (markReply i s).plan = s.plan := rfl
@[simp] theorem acceptReply_plan (i : Fin 8) (kw : Nat) : (acceptReply i kw s).plan = s.plan := rfl
@[simp] theorem rosterBoundary_plan (n : Nat) : (rosterBoundary n s).plan = s.plan := by
  rw [rosterBoundary, recompute_plan]
  exact foldl_keeps State.plan _ (fun s i => rosterBoundaryAt_plan s n i) _ s

/-! ### The caverns -/

@[simp] theorem setCavernWork_plan (i : Fin 4) (w : CavernWork) : (setCavernWork i w s).plan = s.plan := rfl
@[simp] theorem setCavernCfg_plan (i : Fin 4) (c : CavernCfg) : (setCavernCfg i c s).plan = s.plan := rfl
@[simp] theorem formMass_plan (i : Fin 4) (p : Nat) : (formMass i p s).plan = s.plan := by simp [formMass]
@[simp] theorem refreshStartMass_plan (i : Fin 4) : (refreshStartMass i s).plan = s.plan := by
  unfold refreshStartMass
  simp only
  split <;> simp
@[simp] theorem judgeCavernInhibit_plan (i : Fin 4) : (judgeCavernInhibit i s).plan = s.plan := by
  simp [judgeCavernInhibit]
@[simp] theorem goodVote_plan (i : Fin 4) (p : Nat) : (goodVote i p s).plan = s.plan := by
  unfold goodVote
  simp only
  split
  · simp
  · split <;> simp
  · simp
@[simp] theorem noMajority_plan (i : Fin 4) : (noMajority i s).plan = s.plan := by
  unfold noMajority
  simp only
  split <;> simp
@[simp] theorem takeVote_plan (i : Fin 4) (o : VoteOutcome) (f : Disagree) : (takeVote i o f s).plan = s.plan := by
  cases o <;> simp [takeVote]
@[simp] theorem ageCavern_plan (i : Fin 4) : (ageCavern i s).plan = s.plan := by
  unfold ageCavern
  simp only
  split
  · rfl
  · split <;> simp
  · simp
@[simp] theorem boundaryStartMass_plan (i : Fin 4) : (boundaryStartMass i s).plan = s.plan := by
  unfold boundaryStartMass
  split <;> simp
@[simp] theorem formDrift_plan (ended : Nat) (i : Fin 4) : (formDrift ended i s).plan = s.plan := by
  unfold formDrift
  simp only
  split <;> simp
@[simp] theorem cavernBoundary_plan (ended : Nat) (i : Fin 4) : (cavernBoundary ended i s).plan = s.plan := by
  simp [cavernBoundary]
@[simp] theorem cavernsBoundary_plan (ended : Nat) : (cavernsBoundary ended s).plan = s.plan :=
  foldl_keeps State.plan _ (fun s i => cavernBoundary_plan s ended i) _ s
@[simp] theorem cavernBegin_plan (i : Fin 4) : (cavernBegin i s).plan = s.plan := by simp [cavernBegin]
@[simp] theorem cavernsBegin_plan : (cavernsBegin s).plan = s.plan :=
  foldl_keeps State.plan _ (fun s i => cavernBegin_plan s i) _ s
@[simp] theorem remeasure_plan (i : Fin 4) : (remeasure i s).plan = s.plan := by
  unfold remeasure
  split <;> simp

/-! ### The heat store -/

@[simp] theorem setStoreWork_plan (w : StoreWork) : (setStoreWork w s).plan = s.plan := rfl
@[simp] theorem setStoreCfg_plan (c : StoreCfg) : (setStoreCfg c s).plan = s.plan := rfl
@[simp] theorem refreshStartContent_plan : (refreshStartContent s).plan = s.plan := by
  unfold refreshStartContent
  split <;> simp
@[simp] theorem judgeStoreInhibit_plan : (judgeStoreInhibit s).plan = s.plan := by simp [judgeStoreInhibit]
@[simp] theorem goodMean_plan (t : Int) (n : Nat) : (goodMean t n s).plan = s.plan := by
  unfold goodMean
  simp only
  split
  · simp
  · split <;> simp
  · simp
@[simp] theorem noValid_plan : (noValid s).plan = s.plan := by
  unfold noValid
  simp only
  split <;> simp
@[simp] theorem takeTemperatures_plan (l : List ChanResult) : (takeTemperatures l s).plan = s.plan := by
  unfold takeTemperatures
  simp only
  split <;> simp
@[simp] theorem storeSilence_plan : (storeSilence s).plan = s.plan := plan_ite s rfl rfl
@[simp] theorem storeAge_plan : (storeAge s).plan = s.plan := by
  unfold storeAge
  split
  · rfl
  · simp only
    split <;> simp
  · simp
@[simp] theorem storeStartContent_plan : (storeStartContent s).plan = s.plan := by
  unfold storeStartContent
  split <;> simp
@[simp] theorem storeBoundary_plan : (storeBoundary s).plan = s.plan := by simp [storeBoundary]
@[simp] theorem storeBegin_plan : (storeBegin s).plan = s.plan := by simp [storeBegin]
@[simp] theorem recontent_plan : (recontent s).plan = s.plan := by
  unfold recontent
  split <;> simp

/-! ### The scanner -/

@[simp] theorem handVote_plan (i : Fin 4) : (handVote i s).plan = s.plan := by
  unfold handVote
  split <;> simp
@[simp] theorem serveSnapshot_plan : (serveSnapshot s).plan = s.plan := plan_ite s rfl rfl
@[simp] theorem restartPass_plan : (restartPass s).plan = s.plan := rfl
@[simp] theorem clearHanded_plan : (clearHanded s).plan = s.plan := rfl
@[simp] theorem completePass_plan : (completePass s).plan = s.plan := by
  simp only [completePass, restartPass_plan, serveSnapshot_plan, takeTemperatures_plan]
  exact foldl_keeps State.plan _ (fun s i => handVote_plan s i) _ _
@[simp] theorem completeEntry_plan (ch : Fin 24) (codes : List Nat) : (completeEntry ch codes s).plan = s.plan := by
  unfold completeEntry
  simp only
  split <;> simp
@[simp] theorem scannerBoundaryAt_plan (i : Fin 4) : (scannerBoundaryAt i s).plan = s.plan :=
  plan_ite s rfl (takeVote_plan s i _ _)
@[simp] theorem scannerBoundary_plan : (scannerBoundary s).plan = s.plan := by
  rw [scannerBoundary, clearHanded_plan]
  exact foldl_keeps State.plan _ (fun s i => scannerBoundaryAt_plan s i) _ s
@[simp] theorem applyScanList_plan (l : List (Fin 24)) : (applyScanList l s).plan = s.plan := by
  have h := restartPass_plan { s with cfg := { s.cfg with scanList := l } }
  exact plan_ite s h h
@[simp] theorem applyChannel_plan (ch : Fin 24) (new : ChannelCfg) : (applyChannel ch new s).plan = s.plan := by
  simp only [applyChannel, recomputeIfBanned_plan, reformHold_plan, raiseIf_plan, restartPass_plan]
  rfl

/-! ### The unit link -/

@[simp] theorem countOutcome_plan (i : Fin 8) (o : TxnOutcome) : (countOutcome i o s).plan = s.plan := by
  unfold countOutcome
  simp only
  split <;> simp
@[simp] theorem dropCmd_plan (c : Cmd) : (dropCmd c s).plan = s.plan := by
  unfold dropCmd
  split <;> rfl
@[simp] theorem commandFailed_plan (c : Cmd) (b : Bool) : (commandFailed c b s).plan = s.plan :=
  plan_ite s (dropCmd_plan s c) rfl
@[simp] theorem answerOwed_plan (f : Fwd) (r : ResultCode) (b : Body) : (answerOwed f r b s).plan = s.plan :=
  plan_ite s rfl rfl
@[simp] theorem handReply_plan (i : Fin 8) (d : ReplyData) : (handReply i d s).plan = s.plan := by
  unfold handReply
  split
  · simp only
    split <;> simp
  · simp
@[simp] theorem handRoster_plan (i : Fin 8) (kind : MsgKind) (o : TxnOutcome) : (handRoster i kind o s).plan = s.plan := by
  unfold handRoster
  split
  · simp
  · split <;> simp
@[simp] theorem forwardResponse_plan (f : Fwd) (o : TxnOutcome) : (forwardResponse f o s).plan = s.plan := by
  unfold forwardResponse
  split <;> simp
@[simp] theorem handOrigin_plan (origin : Origin) (o : TxnOutcome) : (handOrigin origin o s).plan = s.plan := by
  unfold handOrigin
  split
  · split <;> simp
  · simp
  · rfl
@[simp] theorem endTransaction_plan (t : Txn) (i : Fin 8) (o : TxnOutcome) : (endTransaction t i o s).plan = s.plan := by
  unfold endTransaction
  simp only
  split_ifs <;> simp
@[simp] theorem sendTo_plan (i : Fin 8) (kind : MsgKind) (p : List Byte) (o : Origin) : (sendTo i kind p o s).plan = s.plan :=
  rfl
@[simp] theorem grantCommand_plan (c : Cmd) (b : Bool) : (grantCommand c b s).plan = s.plan :=
  plan_ite s rfl (dropCmd_plan s c)
@[simp] theorem grantForward_plan (f : Fwd) : (grantForward f s).plan = s.plan := by
  unfold grantForward
  split_ifs <;> simp
@[simp] theorem grantIdent_plan (i : Fin 8) : (grantIdent i s).plan = s.plan := plan_ite s rfl rfl
@[simp] theorem grantPoll_plan (i : Fin 8) : (grantPoll i s).plan = s.plan := rfl
@[simp] theorem grantBroadcast_plan (v : Speed) : (grantBroadcast v s).plan = s.plan := rfl
@[simp] theorem grantOnce_plan : (grantOnce s).plan = s.plan := by
  unfold grantOnce
  split
  · simp
  · simp only
    split <;> simp
  · simp
  · simp
  · simp
  · split <;> simp
@[simp] theorem grantUpTo_plan (n : Nat) : (grantUpTo n s).plan = s.plan := by
  induction n generalizing s with
  | zero => rfl
  | succ n ih =>
    unfold grantUpTo
    split
    · rfl
    · rw [ih, grantOnce_plan]
@[simp] theorem grantSlot_plan : (grantSlot s).plan = s.plan := grantUpTo_plan s _
@[simp] theorem abandonTransaction_plan : (abandonTransaction s).plan = s.plan := by
  unfold abandonTransaction
  split <;> simp
@[simp] theorem abandonForwards_plan : (abandonForwards s).plan = s.plan :=
  foldl_keeps State.plan _ (fun s f => answerOwed_plan s f _ _) _ _
@[simp] theorem linkReset_plan : (linkReset s).plan = s.plan := by
  simp only [linkReset, raise_plan, plan_with_link, abandonForwards_plan, abandonTransaction_plan]
@[simp] theorem clearCounters_plan : (clearCounters s).plan = s.plan := rfl
@[simp] theorem countUnsolicited_plan : (countUnsolicited s).plan = s.plan := rfl
@[simp] theorem pollFallsDue_plan (i : Fin 8) : (pollFallsDue i s).plan = s.plan := by
  unfold pollFallsDue
  split
  · split <;> simp
  · rfl
@[simp] theorem queueForward_plan (a : AliasEntry) (kind : MsgKind) (p : List Byte) :
    (queueForward a kind p s).plan = s.plan := by
  unfold queueForward
  simp only
  split <;> rfl
@[simp] theorem forwardTo_plan (kind : MsgKind) (p : ForwardParams) : (forwardTo kind p s).plan = s.plan := by
  unfold forwardTo
  split
  · simp
  · split_ifs <;> simp
@[simp] theorem setAliasEntry_plan (i : Fin 8) (a : Option AliasEntry) : (setAliasEntry i a s).plan = s.plan := rfl

/-! ### Commands on a roster entry -/

@[simp] theorem disownTxn_plan (i : Fin 8) : (disownTxn i s).plan = s.plan := rfl
@[simp] theorem rebindEffects_plan (i : Fin 8) (old new : TrainCfg) : (rebindEffects i old new s).plan = s.plan := by
  unfold rebindEffects
  split
  · simp
  · simp
  · simp only
    split_ifs <;> simp
  · rfl
@[simp] theorem ratingEffects_plan (i : Fin 8) (old new : TrainCfg) : (ratingEffects i old new s).plan = s.plan := by
  unfold ratingEffects
  simp only
  split <;> simp
@[simp] theorem applyTrain_plan (i : Fin 8) (new : TrainCfg) : (applyTrain i new s).plan = s.plan := by simp [applyTrain]
@[simp] theorem withdrawAct_plan (i : Fin 8) : (withdrawAct i s).plan = s.plan := by simp [withdrawAct]
@[simp] theorem restoreAct_plan (i : Fin 8) : (restoreAct i s).plan = s.plan := by simp [restoreAct]
@[simp] theorem releaseAct_plan (i : Fin 8) : (releaseAct i s).plan = s.plan := by simp [releaseAct]
@[simp] theorem rebindAct_plan (i : Fin 8) : (rebindAct i s).plan = s.plan := by
  unfold rebindAct
  split <;> simp
@[simp] theorem startTimedOut_plan (i : Fin 8) : (startTimedOut i s).plan = s.plan := by
  unfold startTimedOut
  split <;> simp
@[simp] theorem stopTimedOut_plan (i : Fin 8) : (stopTimedOut i s).plan = s.plan := by
  unfold stopTimedOut
  split <;> simp
@[simp] theorem periodicIdentAct_plan (i : Fin 8) : (periodicIdentAct i s).plan = s.plan := by
  unfold periodicIdentAct
  split <;> simp

section
variable {s}

/-- An event of the entry that a number names keeps the plan where it does so for every entry. -/
theorem onEntry_plan {n : Nat} {f : Fin 8 → State → State} (h : ∀ i s, (f i s).plan = s.plan) :
    (onEntry n f s).plan = s.plan := by
  unfold onEntry
  split
  · exact h _ _
  · rfl

/-- A command on an entry keeps the plan where its act does: its refusals keep it anyway. -/
theorem entryCommand_plan {n : Nat} {allowed : TrainState → Bool} {act : Fin 8 → State → State}
    (h : ∀ i s, (act i s).plan = s.plan) : (entryCommand n allowed act s).plan = s.plan := by
  unfold entryCommand
  split
  · simp
  · split_ifs <;> simp [h]

end

/-! ### Station commands -/

theorem readProjectionAct_plan (page : Nat) : (readProjectionAct page s).plan = s.plan := by
  unfold readProjectionAct
  split_ifs <;> rfl
theorem verifyAct_plan : (verifyAct s).plan = s.plan := by
  unfold verifyAct
  split <;> simp
theorem setCavernAct_plan (p : CavernParams) : (setCavernAct p s).plan = s.plan := by
  unfold setCavernAct
  split
  · simp
  · simp only
    split <;> simp
theorem loadCavernTableAct_plan (p : CavernTableParams) : (loadCavernTableAct p s).plan = s.plan := by
  unfold loadCavernTableAct
  split
  · simp
  · split <;> simp
theorem readCavernAct_plan (n : Nat) : (readCavernAct n s).plan = s.plan := by
  unfold readCavernAct
  split <;> simp
theorem setStoreAct_plan (p : StoreParams) : (setStoreAct p s).plan = s.plan := by
  unfold setStoreAct
  simp only
  split <;> simp
theorem loadStoreTableAct_plan (p : StoreTableParams) : (loadStoreTableAct p s).plan = s.plan := by
  unfold loadStoreTableAct
  split <;> simp
theorem setTrainAct_plan (p : TrainParams) : (setTrainAct p s).plan = s.plan := by
  unfold setTrainAct
  split
  · simp
  · simp only
    split_ifs <;> simp
theorem setOutageAct_plan (p : OutageParams) : (setOutageAct p s).plan = s.plan := by
  unfold setOutageAct
  split
  · simp
  · simp only
    split_ifs <;> simp
theorem readTrainAct_plan (n : Nat) : (readTrainAct n s).plan = s.plan := by
  unfold readTrainAct
  split <;> simp
theorem setSiteAct_plan (p : SiteParams) : (setSiteAct p s).plan = s.plan := by
  unfold setSiteAct
  split <;> simp
theorem setChannelAct_plan (p : ChannelParams) : (setChannelAct p s).plan = s.plan := by
  unfold setChannelAct
  split
  · simp
  · simp only
    split <;> simp
theorem setScanListAct_plan (l : List Nat) : (setScanListAct l s).plan = s.plan := by
  unfold setScanListAct
  split
  · simp
  · split <;> simp
theorem readChannelAct_plan (n : Nat) : (readChannelAct n s).plan = s.plan := by
  unfold readChannelAct
  split <;> simp
theorem snapshotAct_plan : (snapshotAct s).plan = s.plan := by
  unfold snapshotAct
  split <;> simp
theorem setAliasAct_plan (p : AliasParams) : (setAliasAct p s).plan = s.plan := by
  unfold setAliasAct
  split
  · simp
  · split
    · simp
    · split <;> simp
    · simp
theorem forwardAct_plan (p : ForwardParams) : (forwardAct p s).plan = s.plan := by
  unfold forwardAct
  split
  · simp
  · split <;> simp
theorem linkSpeedAct_plan (n : Nat) : (linkSpeedAct n s).plan = s.plan := by
  unfold linkSpeedAct
  split <;> simp
theorem saveSettingsAct_plan : (saveSettingsAct s).plan = s.plan := by
  unfold saveSettingsAct
  split <;> simp
theorem setNoticeMaskAct_plan (n : Nat) : (setNoticeMaskAct n s).plan = s.plan := by
  unfold setNoticeMaskAct
  split <;> simp
theorem fetchBytes_plan (n : Nat) : (fetchBytes n s).plan = s.plan := by
  unfold fetchBytes
  split
  · simp only
    split <;> rfl
  · rfl

/-- The commands that act on the plan: the book's, the runs', the clock's, and the resets. -/
def actsOnPlan : Instr → Bool
  | .book _ | .confirm _ | .amend _ | .retire _ => true
  | .runStart | .verificationRunComplete | .admissionRunComplete => true
  | .setInterval _ _ | .pulse | .ownTimerExpiry | .absorbWindowClose => true
  | .resetStation | .powerOnReset => true
  | _ => false

section
variable {s}

/-- What holds of the state that a command answers holds of its next state. -/
theorem holds_of_next (P : State → Prop) {u t : State} (h : Host.Outcome.next u = (.next t : Result)) (hu : P u) : P t := by
  injection h with h
  exact h ▸ hu

theorem plan_of_next {u t : State} (h : Host.Outcome.next u = (.next t : Result)) (hu : u.plan = s.plan) :
    t.plan = s.plan := holds_of_next (fun t => t.plan = s.plan) h hu

/-- Every other command keeps the plan. -/
theorem exec_plan {c : Instr} {t : State} (hc : actsOnPlan c = false) (h : exec c s = .next t) : t.plan = s.plan := by
  cases c with
  | book _ | confirm _ | amend _ | retire _ => simp [actsOnPlan] at hc
  | runStart | verificationRunComplete | admissionRunComplete => simp [actsOnPlan] at hc
  | setInterval _ _ | pulse | ownTimerExpiry | absorbWindowClose => simp [actsOnPlan] at hc
  | resetStation | powerOnReset => simp [actsOnPlan] at hc
  | readCommitment key =>
    exact plan_of_next h (station_plan fun s => by unfold readCommitmentAct; split <;> rfl)
  | listCommitments page => exact plan_of_next h (station_plan fun s => plan_ite s rfl rfl)
  | readProjection page => exact plan_of_next h (station_plan fun s => readProjectionAct_plan s page)
  | verify => exact plan_of_next h (station_plan verifyAct_plan)
  | setCavern p => exact plan_of_next h (station_plan fun _ => settingsWrite_plan fun s => setCavernAct_plan s p)
  | loadCavernTable p =>
    exact plan_of_next h (station_plan fun _ => settingsWrite_plan fun s => loadCavernTableAct_plan s p)
  | readCavern n => exact plan_of_next h (station_plan fun s => readCavernAct_plan s n)
  | setStore p => exact plan_of_next h (station_plan fun _ => settingsWrite_plan fun s => setStoreAct_plan s p)
  | loadStoreTable p =>
    exact plan_of_next h (station_plan fun _ => settingsWrite_plan fun s => loadStoreTableAct_plan s p)
  | readStore => exact plan_of_next h (station_plan fun _ => rfl)
  | setTrain p => exact plan_of_next h (station_plan fun _ => settingsWrite_plan fun s => setTrainAct_plan s p)
  | setOutage p => exact plan_of_next h (station_plan fun s => setOutageAct_plan s p)
  | withdraw n => exact plan_of_next h (station_plan fun _ => entryCommand_plan fun i s => withdrawAct_plan s i)
  | restore n => exact plan_of_next h (station_plan fun _ => entryCommand_plan fun i s => restoreAct_plan s i)
  | release n => exact plan_of_next h (station_plan fun _ => entryCommand_plan fun i s => releaseAct_plan s i)
  | rebind n => exact plan_of_next h (station_plan fun _ => entryCommand_plan fun i s => rebindAct_plan s i)
  | readTrain n => exact plan_of_next h (station_plan fun s => readTrainAct_plan s n)
  | setSite p => exact plan_of_next h (station_plan fun _ => settingsWrite_plan fun s => setSiteAct_plan s p)
  | readDispatch => exact plan_of_next h (station_plan fun _ => rfl)
  | setChannel p => exact plan_of_next h (station_plan fun _ => settingsWrite_plan fun s => setChannelAct_plan s p)
  | setScanList l => exact plan_of_next h (station_plan fun _ => settingsWrite_plan fun s => setScanListAct_plan s l)
  | readChannel n => exact plan_of_next h (station_plan fun s => readChannelAct_plan s n)
  | snapshot => exact plan_of_next h (station_plan snapshotAct_plan)
  | readClock => exact plan_of_next h (station_plan fun _ => rfl)
  | setAlias p => exact plan_of_next h (station_plan fun _ => settingsWrite_plan fun s => setAliasAct_plan s p)
  | forward p => exact plan_of_next h (station_plan fun s => forwardAct_plan s p)
  | linkSpeed n => exact plan_of_next h (station_plan fun s => linkSpeedAct_plan s n)
  | readLink => exact plan_of_next h (station_plan fun _ => rfl)
  | saveSettings => exact plan_of_next h (station_plan saveSettingsAct_plan)
  | readNotices => exact plan_of_next h (station_plan fun _ => rfl)
  | setNoticeMask n => exact plan_of_next h (station_plan fun s => setNoticeMaskAct_plan s n)
  | identify => exact plan_of_next h (station_plan fun _ => rfl)
  | unknownCommand r => exact plan_of_next h (station_plan fun _ => rfl)
  | fetch n => exact plan_of_next h (plan_ite s rfl (fetchBytes_plan s n))
  | saveComplete => exact plan_of_next h (by split <;> rfl)
  | siteTripAssert => exact plan_of_next h (plan_ite s rfl (tripAsserted_plan _))
  | siteTripRelease => exact plan_of_next h (plan_ite s (tripReleased_plan _) rfl)
  | pinTimeout => exact plan_of_next h (by split; exacts [plan_ite s rfl rfl, rfl])
  | entryComplete codes => exact plan_of_next h (by split; exacts [plan_ite s (by simp) rfl, rfl])
  | grant => exact plan_of_next h (grantSlot_plan s)
  | replyReceived bytes => exact plan_of_next h (by split <;> simp)
  | replyTimeout => exact plan_of_next h (by split <;> simp)
  | broadcastSent => exact plan_of_next h (by split; exacts [by split <;> rfl, rfl])
  | unsolicitedFrame => exact plan_of_next h (countUnsolicited_plan s)
  | linkReset => exact plan_of_next h (linkReset_plan s)
  | startTimerExpiry n => exact plan_of_next h (onEntry_plan fun i s => startTimedOut_plan s i)
  | stopTimerExpiry n => exact plan_of_next h (onEntry_plan fun i s => stopTimedOut_plan s i)
  | pollDue n => exact plan_of_next h (onEntry_plan fun i s => pollFallsDue_plan s i)
  | periodicIdent n => exact plan_of_next h (onEntry_plan fun i s => periodicIdentAct_plan s i)

end

end Sys2Proof.Machine
end

section
/-! SUPPORT. The live table, the closed slot and the run in time with the clock (R54 to R57). -/

namespace Sys2Proof.Machine

/-! ### What the book's moves leave of the tables, the run's copy and the clock -/

/-- The part of the plan that the invariant of the live table speaks of. -/
structure Timeline where
  live : Option (List ProjSlot)
  closed : Option ProjSlot
  copy : Option RunCopy
  clock : Clock

/-- The timeline of a state. -/
def State.timeline (s : State) : Timeline := ⟨s.engine.live, s.engine.closed, s.engine.run.map Run.copy, s.clock⟩

theorem timeline_of_plan {s t : State} (h : t.plan = s.plan) : t.timeline = s.timeline := by
  have hcopy := congrArg (fun p => p.run.map fun r => r.2.2) h
  simp only [State.plan, Option.map_map, Function.comp_def] at hcopy
  simp only [State.plan, Plan.mk.injEq] at h
  obtain ⟨-, -, -, hlive, hclosed, hclock⟩ := h
  simp only [State.timeline, Timeline.mk.injEq]
  exact ⟨hlive, hclosed, hcopy, hclock⟩

section
variable (s : State)

theorem timeline_ite {c : Prop} [Decidable c] {a b : State} (ha : a.timeline = s.timeline) (hb : b.timeline = s.timeline) :
    (if c then a else b).timeline = s.timeline := by split <;> assumption

@[simp] theorem raise_timeline (n : Notice) : (raise n s).timeline = s.timeline := rfl
@[simp] theorem raiseIf_timeline (b : Bool) (n : Notice) : (raiseIf b n s).timeline = s.timeline :=
  timeline_of_plan (raiseIf_plan s b n)
@[simp] theorem setVerify_timeline : (setVerify s).timeline = s.timeline := timeline_of_plan (setVerify_plan s)
@[simp] theorem reply_timeline (r : ResultCode) : (reply r s).timeline = s.timeline := rfl
@[simp] theorem recompute_timeline : (recompute s).timeline = s.timeline := timeline_of_plan (recompute_plan s)
@[simp] theorem setRecord_timeline (key : Nat) (r : Record) : (setRecord key r s).timeline = s.timeline := by
  simp [State.timeline]
@[simp] theorem freeRecord_timeline (key : Nat) : (freeRecord key s).timeline = s.timeline := by
  simp [State.timeline]
@[simp] theorem pushItem_timeline (it : Item) : (pushItem it s).timeline = s.timeline := rfl
theorem withoutSubject_copy (key : Nat) (r : Run) : (r.withoutSubject key).copy = r.copy := by
  unfold Run.withoutSubject
  split <;> rfl
@[simp] theorem dropItem_timeline (key : Nat) : (dropItem key s).timeline = s.timeline := by
  simp [State.timeline, dropItem, Function.comp_def, withoutSubject_copy]
@[simp] theorem leaveBook_timeline (key : Nat) (r : Record) : (leaveBook key r s).timeline = s.timeline := by
  simp [leaveBook]
@[simp] theorem makeRecord_timeline (i : Fin 128) (r : Record) : (makeRecord i r s).timeline = s.timeline := rfl

theorem bookAct_timeline (p : BookParams) : (bookAct p s).timeline = s.timeline := by
  unfold bookAct
  split
  · simp
  · split
    · refine timeline_ite s rfl (timeline_ite s rfl (timeline_ite s rfl ?_))
      split
      · simp
      · exact timeline_ite s rfl rfl
    · simp

theorem confirmAct_timeline (key : Nat) : (confirmAct key s).timeline = s.timeline := by
  unfold confirmAct
  split
  · simp
  · split <;> simp

theorem amendAct_timeline (p : AmendParams) : (amendAct p s).timeline = s.timeline := by
  unfold amendAct
  split
  · simp
  · rename_i r _
    refine timeline_ite s rfl (timeline_ite s rfl ?_)
    simp only
    cases amendGate (filledAmendment p r s.clock.interval) r s with
    | some code => rfl
    | none => exact timeline_ite s rfl (by simp)

theorem retireRecord_timeline (key : Nat) (r : Record) : (retireRecord key r s).timeline = s.timeline := by
  unfold retireRecord
  split <;> simp

theorem retireAct_timeline (key : Nat) : (retireAct key s).timeline = s.timeline := by
  unfold retireAct
  split
  · simp
  · exact retireRecord_timeline s key _

@[simp] theorem creditRecord_timeline (key n due delivered : Nat) :
    (creditRecord key n due delivered s).timeline = s.timeline := by
  unfold creditRecord
  split
  · rfl
  · simp only
    split <;> simp

theorem closeTally_timeline : (closeTally s).timeline = s.timeline := by
  unfold closeTally
  split
  · rfl
  · exact foldl_keeps State.timeline _ (fun s c => creditRecord_timeline s _ _ _ _) _ s

theorem bookBoundaryAt_timeline (n : Nat) (i : Fin 128) : (bookBoundaryAt n i s).timeline = s.timeline := by
  unfold bookBoundaryAt
  split
  · rfl
  · simp only
    split_ifs <;> simp

theorem dispatchBoundary_timeline (n : Nat) : (dispatchBoundary n s).timeline = s.timeline := by
  rw [dispatchBoundary, recompute_timeline]
  exact closeTally_timeline s

/-- Every block but the engine keeps the timeline at a boundary (R163). -/
theorem takeBoundary_timeline (ended n : Nat) {b : Block} (hb : b ≠ .engine) :
    (takeBoundary ended n b s).timeline = s.timeline := by
  cases b with
  | engine => contradiction
  | book => exact foldl_keeps State.timeline _ (fun s i => bookBoundaryAt_timeline s n i) _ s
  | caverns => exact timeline_of_plan (cavernsBoundary_plan s ended)
  | store => exact timeline_of_plan ((recomputeIf_plan _ _).trans (storeBoundary_plan s))
  | roster => exact timeline_of_plan (rosterBoundary_plan s n)
  | dispatch => exact dispatchBoundary_timeline s n
  | scanner => exact timeline_of_plan (scannerBoundary_plan s)

/-- Blocks that are not the engine keep the timeline at a boundary, in whatever order. -/
theorem takeBoundaryIn_timeline (ended n : Nat) {order : List Block} (h : .engine ∉ order) :
    (takeBoundaryIn order ended n s).timeline = s.timeline := by
  induction order generalizing s with
  | nil => rfl
  | cons b order ih =>
    obtain ⟨hb, horder⟩ := not_or.1 (List.mem_cons.not.1 h)
    exact (ih (takeBoundary ended n b s) horder).trans (takeBoundary_timeline s ended n (Ne.symm hb))

theorem writeMark_timeline (copy : RunCopy) (table : List ProjSlot) (q : State × Bool) (r : Counted) :
    (writeMark copy table q r).1.timeline = q.1.timeline := by
  unfold writeMark
  split
  · split <;> simp
  · rfl

@[simp] theorem writeMarks_timeline (copy : RunCopy) (table : List ProjSlot) :
    (writeMarks copy table s).timeline = s.timeline := by
  rw [writeMarks, raiseIf_timeline]
  have key : ∀ (l : List Counted) (q : State × Bool),
      (l.foldl (writeMark copy table) q).1.timeline = q.1.timeline := by
    intro l
    induction l with
    | nil => intro q; rfl
    | cons r l ih => intro q; rw [List.foldl_cons, ih, writeMark_timeline]
  exact key _ _

end

/-! ### The invariant over the timeline -/

/-- The invariant of the live table depends on the timeline alone. -/
theorem TableSound.of_timeline {s t : State} (hs : TableSound s) (h : t.timeline = s.timeline) : TableSound t := by
  simp only [State.timeline, Timeline.mk.injEq] at h
  obtain ⟨hlive, hclosed, hcopy, hclock⟩ := h
  refine ⟨?_, ?_, fun r hr => ?_, fun hstop => ?_⟩
  · rw [hlive, hclock]
    exact hs.live
  · rw [hclosed, hclock]
    exact hs.closed
  · rw [hr, Option.map_some] at hcopy
    obtain ⟨r', hr', hc⟩ := Option.map_eq_some_iff.1 hcopy.symm
    rw [hclock, ← hc]
    exact hs.run r' hr'
  · rw [hclock] at hstop
    obtain ⟨hl, hc, hr⟩ := hs.stopped hstop
    rw [hr, Option.map_none] at hcopy
    exact ⟨hlive.trans hl, hclosed.trans hc, Option.map_eq_none_iff.1 hcopy⟩

/-- An engine with neither table nor run is in time with any clock. -/
theorem tableSound_of_noTables {s : State} (hl : s.engine.live = none) (hc : s.engine.closed = none)
    (hr : s.engine.run = none) : TableSound s where
  live t h := by simp [hl] at h
  closed sl h := by simp [hc] at h
  run r h := by simp [hr] at h
  stopped _ := ⟨hl, hc, hr⟩

/-- A run that starts while the clock runs copies the current interval (R33). -/
theorem TableSound.startRun {s : State} (h : TableSound s) (hrun : s.clock.running = true) (candidate : Option Item) :
    TableSound (startRun candidate s) where
  live := h.live
  closed := h.closed
  run r hr := by
    obtain rfl := Option.some.inj hr
    rfl
  stopped hstop := by simp [Machine.startRun, hrun] at hstop

theorem TableSound.considerRun {s : State} (h : TableSound s) : TableSound (considerRun s) := by
  unfold Machine.considerRun
  split
  · exact h
  · rename_i hidle
    have hrun : s.clock.running = true := by simp_all
    split
    · rename_i rest _
      exact (h.of_timeline (t := { s with queue := rest }) rfl).startRun hrun _
    · split
      · exact h.startRun hrun _
      · exact h

/-! ### The completion of a run -/

theorem runSlots_map_interval (copy : RunCopy) (k count : Nat) (c : Carry) :
    (runSlots copy k count c).map ProjSlot.interval = (List.range' k count).map fun k => copy.interval + k := by
  induction count generalizing k c with
  | zero => rfl
  | succ count ih => simp only [runSlots, List.map_cons, ih, List.range'_succ]; rfl

/-- Slot `k` of a run's table names the interval `k` after the copy's (R36). -/
theorem tableNames_runTable (copy : RunCopy) : tableNames copy.interval (runTable copy) := by
  rw [tableNames, runTable, runSlots_map_interval, List.range_eq_range']
  rfl

/-- The table of a run with the current interval in its copy goes live in time with the clock (R46). -/
theorem TableSound.goLive {s : State} (h : TableSound s) {run : Run} (hrun : s.engine.run = some run) :
    TableSound (goLive run (runTable run.copy) s) where
  live t ht := by
    obtain rfl := Option.some.inj ht
    have hi : run.copy.interval = s.clock.interval := h.run run hrun
    exact hi ▸ tableNames_runTable run.copy
  closed := h.closed
  run r hr := by simp [Machine.goLive] at hr
  stopped hstop := by simp [(h.stopped hstop).2.2] at hrun

theorem TableSound.dropRun {s : State} (h : TableSound s) : TableSound (dropRun s) where
  live := h.live
  closed := h.closed
  run r hr := by simp [Machine.dropRun] at hr
  stopped hstop := by
    obtain ⟨hl, hc, -⟩ := h.stopped hstop
    exact ⟨hl, hc, rfl⟩

theorem TableSound.completeVerification {s : State} (h : TableSound s) {run : Run} (hrun : s.engine.run = some run) :
    TableSound (completeVerification run s) :=
  (h.goLive hrun).of_timeline ((recompute_timeline _).trans (writeMarks_timeline _ _ _))

theorem TableSound.refuseCandidate {s : State} (h : TableSound s) (run : Run) (key : Nat) (note : RefusalNote) (r : Record) :
    TableSound (refuseCandidate run key note r s) :=
  h.dropRun.of_timeline ((raise_timeline _ _).trans (setRecord_timeline _ _ _))

theorem TableSound.admitCandidate {s : State} (h : TableSound s) {run : Run} (hrun : s.engine.run = some run) (key : Nat)
    (r : Record) : TableSound (admitCandidate run key (runTable run.copy) r s) :=
  (h.goLive hrun).of_timeline (by simp [Machine.admitCandidate])

theorem TableSound.completeAdmission {s : State} (h : TableSound s) {run : Run} (hrun : s.engine.run = some run) :
    TableSound (completeAdmission run s) := by
  unfold Machine.completeAdmission
  split
  · exact h.dropRun
  · split
    · exact h.dropRun
    · unfold judgeCandidate
      split
      · exact h.refuseCandidate _ _ _ _
      · simp only
        split
        · exact h.refuseCandidate _ _ _ _
        · exact h.admitCandidate hrun _ _

/-! ### The boundary -/

/-- A shifted table is named from the next interval on, and its first slot was named for the interval just ended (R54, R55). -/
theorem tableNames_shiftTable {c : Nat} {t : List ProjSlot} (h : tableNames c t) :
    tableNames (c + 1) (shiftTable (c + 1) t) ∧ ∀ sl, t.head? = some sl → sl.interval = c := by
  have hlen : t.length = 288 := by simpa using congrArg List.length h
  cases t with
  | nil => simp at hlen
  | cons first rest =>
    rw [tableNames, List.map_cons, List.range_succ_eq_map, List.map_cons, List.cons.injEq] at h
    obtain ⟨hfirst, hrest⟩ := h
    refine ⟨?_, fun sl hsl => ?_⟩
    · have hlast : (first :: rest).getLast? = some ((first :: rest).getLast (by simp)) := List.getLast?_eq_some_getLast _
      simp only [tableNames, shiftTable, hlast, List.tail_cons, List.map_append, hrest, List.range_succ (n := 287)]
      simp [nextSlot, horizon, Nat.add_assoc, Nat.add_comm 1]
    · obtain rfl := Option.some.inj hsl
      exact hfirst

/-- The engine's boundary leaves the live table, the closed slot and a run started afresh in time with a clock that has gone on
by one interval (R52, R54). -/
theorem engineBoundary_tableSound {c : Nat} {s : State} (hclock : s.clock.interval = c + 1) (hrun : s.clock.running = true)
    (hlive : ∀ t, s.engine.live = some t → tableNames c t) : TableSound (engineBoundary (c + 1) s) := by
  have hshift : TableSound (shiftLive (c + 1) (dropRun (setVerify s))) ∧
      (shiftLive (c + 1) (dropRun (setVerify s))).clock = s.clock := by
    unfold shiftLive
    split
    · rename_i hl
      exact ⟨tableSound_of_noTables hl rfl rfl, rfl⟩
    · rename_i t ht
      obtain ⟨hnames, hhead⟩ := tableNames_shiftTable (hlive t ht)
      refine ⟨⟨fun t' ht' => ?_, fun sl hsl => ?_, fun r hr => ?_, fun hstop => ?_⟩, rfl⟩
      · obtain rfl := Option.some.inj ht'
        exact hclock.symm ▸ hnames
      · exact (congrArg (· + 1) (hhead sl hsl)).trans hclock.symm
      · simp [dropRun] at hr
      · exact absurd (hrun.symm.trans hstop) (by simp)
  obtain ⟨hsound, hsame⟩ := hshift
  unfold engineBoundary
  simp only
  split
  · exact hsound.startRun (hsame ▸ hrun) _
  · exact hsound

/-- Every block takes a boundary once (R163). -/
theorem blockOrder_split (n : Nat) : ∃ l l', Config.blockOrder n = l ++ .engine :: l' ∧ .engine ∉ l ∧ .engine ∉ l' := by
  have hperm := List.perm_insertionSort (fun a b => Config.blockRank n a ≤ Config.blockRank n b) Config.allBlocks
  have hnodup : (Config.blockOrder n).Nodup := hperm.nodup_iff.2 (by decide)
  have hmem : Block.engine ∈ Config.blockOrder n := hperm.mem_iff.2 (by decide)
  obtain ⟨l, l', h⟩ := List.append_of_mem hmem
  rw [h, List.nodup_middle] at hnodup
  obtain ⟨hnot, -⟩ := List.nodup_cons.1 hnodup
  rw [List.mem_append, not_or] at hnot
  exact ⟨l, l', h, hnot⟩

/-- A boundary keeps the tables in time with the clock, whatever the order of the blocks: those that come before the engine find
and leave the table named from the interval just ended, those after it the shifted one (R54, R163). -/
theorem boundary_tableSound {s : State} (hlive : ∀ t, s.engine.live = some t → tableNames s.clock.interval t)
    (hi : s.clock.interval < 4294967295) {mode : ClockMode} (hmode : mode = .locked ∨ mode = .free ∨ mode = .holdover)
    (origin : Nat) (absorb : Bool) : TableSound (boundary mode origin absorb s) := by
  have hn : nextInterval s.free s.clock.interval = s.clock.interval + 1 := if_neg (Nat.not_le.2 hi)
  obtain ⟨l, l', horder, hl, hl'⟩ := blockOrder_split s.free
  simp only [boundary, horder, hn]
  rw [takeBoundaryIn, List.foldl_append, List.foldl_cons]
  set s₀ : State := { s with
    free := s.free + 1
    clock := { s.clock with mode := mode, interval := s.clock.interval + 1, origin := origin, absorbOpen := absorb } }
  set s₁ := l.foldl (fun s b => takeBoundary _ _ b s) s₀
  have hbefore : s₁.timeline = s₀.timeline := takeBoundaryIn_timeline s₀ _ _ hl
  simp only [State.timeline, Timeline.mk.injEq] at hbefore
  obtain ⟨hlive₁, -, -, hclock₁⟩ := hbefore
  have hengine : TableSound (takeBoundary s.clock.interval (s.clock.interval + 1) .engine s₁) := by
    refine engineBoundary_tableSound (by rw [hclock₁]) ?_ fun t ht => hlive t (hlive₁ ▸ ht)
    rw [hclock₁, running_iff]
    exact hmode
  exact hengine.of_timeline (takeBoundaryIn_timeline _ _ _ hl')

/-! ### The clock's commands -/

/-- SET_INTERVAL leaves the book, the queue and the clock, and neither table nor run (R56). -/
theorem engineBegin_plan (s : State) : (engineBegin s).plan = ⟨s.book, s.queue, none, none, none, s.clock⟩ := by
  rw [engineBegin, setVerify_plan]
  rfl

theorem blocksBegin_plan (n : Nat) (s : State) : (blocksBegin n s).plan = ⟨s.book, s.queue, none, none, none, s.clock⟩ := by
  simp only [blocksBegin, clearHanded_plan, dispatchBegin_plan, storeBegin_plan, cavernsBegin_plan, engineBegin_plan]

theorem blocksBegin_tableSound (n : Nat) (s : State) : TableSound (blocksBegin n s) := by
  have h := blocksBegin_plan n s
  simp only [State.plan, Plan.mk.injEq] at h
  obtain ⟨-, -, hrun, hlive, hclosed, -⟩ := h
  exact tableSound_of_noTables hlive hclosed (Option.map_eq_none_iff.1 hrun)

theorem blocksBegin_clock (n : Nat) (s : State) : (blocksBegin n s).clock = s.clock := by
  have h := blocksBegin_plan n s
  simp only [State.plan, Plan.mk.injEq] at h
  obtain ⟨-, -, -, -, -, hclock⟩ := h
  exact hclock

theorem beginNow_tableSound (n : Nat) (s : State) : TableSound (beginNow n s) :=
  (blocksBegin_tableSound n _).startRun (by rw [blocksBegin_clock]; rfl) none

theorem armClock_tableSound (n : Nat) (s : State) : TableSound (armClock n s) := tableSound_of_noTables rfl rfl rfl

/-- A change of the clock that keeps its number and whether it runs keeps the tables in time with it. -/
theorem TableSound.withClock {s : State} (h : TableSound s) {c : Clock} (hi : c.interval = s.clock.interval)
    (hr : c.running = s.clock.running) : TableSound { s with clock := c } where
  live t ht := by
    change tableNames c.interval t
    exact hi ▸ h.live t ht
  closed sl hsl := (h.closed sl hsl).trans hi.symm
  run r hrun := (h.run r hrun).trans hi.symm
  stopped hstop := h.stopped (hr ▸ hstop)

section
variable {s : State} (h : TableSound s)
include h

theorem TableSound.ignorePulse : TableSound (ignorePulse s) :=
  (h.withClock (c := { s.clock with earlyCount := incTo 65535 s.clock.earlyCount }) rfl rfl).of_timeline rfl

theorem TableSound.absorbPulse (hr : s.clock.running = true) : TableSound (absorbPulse s) :=
  h.withClock rfl hr.symm

variable (hi : s.clock.interval < 4294967295)
include hi

theorem TableSound.pulseBoundary (phase : Nat) : TableSound (pulseBoundary phase s) :=
  boundary_tableSound (s := { s with clock := { s.clock with lastOffset := some ((phase : Int) - 300000) } })
    h.live hi (.inl rfl) _ _

theorem TableSound.timerBoundary {mode : ClockMode} (hm : mode = .locked ∨ mode = .free ∨ mode = .holdover) (e : Nat) :
    TableSound (timerBoundary mode e s) :=
  boundary_tableSound (s := { s with clock := { s.clock with
    timerCount := incTo 65535 s.clock.timerCount, due := s.clock.origin + 300000 } }) h.live hi hm _ _

theorem TableSound.pulseUnlocked (hr : s.clock.running = true) (phase : Nat) : TableSound (pulseUnlocked phase s) := by
  unfold Machine.pulseUnlocked
  split_ifs
  · exact h.absorbPulse hr
  · exact h.pulseBoundary hi phase
  · exact h.ignorePulse

theorem TableSound.takePulse : TableSound (takePulse s) := by
  unfold Machine.takePulse
  simp only
  split
  · exact h
  · exact blocksBegin_tableSound _ _
  · split
    · exact h.pulseBoundary hi _
    · exact h.ignorePulse
  · rename_i hm
    exact h.pulseUnlocked hi ((running_iff _).2 (by simp [hm])) _
  · rename_i hm
    exact h.pulseUnlocked hi ((running_iff _).2 (by simp [hm])) _

theorem TableSound.takeExpiry : TableSound (takeExpiry s) := by
  unfold Machine.takeExpiry
  split
  · exact h
  · rename_i e he
    split
    · exact h
    · split
      · exact TableSound.timerBoundary (s := raise .holdover s) (h.of_timeline rfl) hi (.inr (.inr rfl)) e
      · refine h.timerBoundary hi ?_ e
        cases hm : s.clock.mode <;> simp_all [Clock.expiry]

end

/-! ### The resets -/

theorem tripAtReset_tableSound {s t : State} (h : ResetBlocks s t) : TableSound (tripAtReset t) := by
  have ht : TableSound t := tableSound_of_noTables (by rw [h.engine]; rfl) (by rw [h.engine]; rfl) (by rw [h.engine]; rfl)
  unfold tripAtReset
  split
  · exact ht.of_timeline (timeline_of_plan (tripAsserted_plan t))
  · exact ht

/-! ### The step -/

/-- A request keeps the tables in time where the command it carries does. -/
theorem TableSound.station {s : State} (h : TableSound s) {act : State → State}
    (hact : s.port.state = .idle → TableSound (act s.taken)) : TableSound (station act s) := by
  by_cases hi : s.port.state = .idle
  · rw [station_idle hi]
    exact hact hi
  · rw [station_busy hi]
    exact h.of_timeline (timeline_of_plan (sequenceError_plan s))

theorem setIntervalAct_tableSound {s : State} (h : TableSound s) (n form : Nat) : TableSound (setIntervalAct n form s) := by
  unfold setIntervalAct
  split
  · exact h.of_timeline rfl
  · split_ifs
    · exact h.of_timeline rfl
    · exact h.of_timeline rfl
    · exact (beginNow_tableSound n s).of_timeline (reply_timeline _ _)
    · exact (armClock_tableSound n s).of_timeline (reply_timeline _ _)

/-- Every command keeps the tables in time with the clock, below the end of the 32-bit range. -/
theorem exec_tableSound {s t : State} (h : TableSound s) (hi : s.clock.interval < 4294967295) {c : Instr}
    (hexec : exec c s = .next t) : TableSound t := by
  by_cases hc : actsOnPlan c = false
  · exact h.of_timeline (timeline_of_plan (exec_plan hc hexec))
  have htaken : TableSound s.taken := h.of_timeline rfl
  cases c with
  | book p => exact holds_of_next TableSound hexec (h.station fun _ => htaken.of_timeline (bookAct_timeline _ p))
  | confirm key => exact holds_of_next TableSound hexec (h.station fun _ => htaken.of_timeline (confirmAct_timeline _ key))
  | amend p => exact holds_of_next TableSound hexec (h.station fun _ => htaken.of_timeline (amendAct_timeline _ p))
  | retire key => exact holds_of_next TableSound hexec (h.station fun _ => htaken.of_timeline (retireAct_timeline _ key))
  | setInterval n form => exact holds_of_next TableSound hexec (h.station fun _ => setIntervalAct_tableSound htaken n form)
  | pulse => exact holds_of_next TableSound hexec (h.takePulse hi)
  | ownTimerExpiry => exact holds_of_next TableSound hexec (h.takeExpiry hi)
  | absorbWindowClose =>
    refine holds_of_next TableSound hexec ?_
    split
    · exact h.withClock rfl rfl
    · exact h
  | runStart => exact holds_of_next TableSound hexec h.considerRun
  | verificationRunComplete =>
    refine holds_of_next TableSound hexec ?_
    split
    · rename_i run hrun
      split
      · exact h.completeVerification hrun
      · exact h
    · exact h
  | admissionRunComplete =>
    refine holds_of_next TableSound hexec ?_
    split
    · rename_i run hrun
      split
      · exact h
      · exact h.completeAdmission hrun
    · exact h
  | resetStation =>
    exact holds_of_next TableSound hexec (h.station fun _ => tripAtReset_tableSound (stationReset_blocks s .done .empty))
  | powerOnReset => exact holds_of_next TableSound hexec (tripAtReset_tableSound (powerOnState_blocks s))
  | _ => simp [actsOnPlan] at hc

/-- Settles O59: with no command waiting 1 ms passes, and otherwise the command in front keeps the tables in time. -/
theorem stepKeepsTableSound : Obligations.StepKeepsTableSound := by
  unfold Obligations.StepKeepsTableSound
  intro s t hs hi hstep
  unfold step at hstep
  split at hstep
  · injection hstep with hstep
    exact hstep ▸ hs.of_timeline rfl
  · rename_i c rest _
    exact exec_tableSound (hs.of_timeline (t := { s with pending := rest }) rfl) hi hstep

end Sys2Proof.Machine
end

section
/-! SUPPORT. The admission queue over an armed clock (R28, R162): a pulse that begins the armed interval takes the run in flight
away, whatever record it runs for. -/

namespace Sys2Proof.Machine

/-! ### What the pulse that begins the armed interval leaves -/

/-- The book and the queue stay, and the run in flight is abandoned (R56, R162). -/
theorem beginAtPulse_leaves (s : State) :
    (beginAtPulse s).book = s.book ∧ (beginAtPulse s).queue = s.queue ∧ (beginAtPulse s).engine.run = none := by
  have h := blocksBegin_plan (s.clock.armed.getD s.clock.interval) { s with clock := { s.clock with
    mode := .locked, interval := s.clock.armed.getD s.clock.interval, origin := s.now, absorbOpen := false, armed := none } }
  simp only [State.plan, Plan.mk.injEq] at h
  obtain ⟨hbook, hqueue, hrun, -⟩ := h
  exact ⟨hbook, hqueue, Option.map_eq_none_iff.1 hrun⟩

/-! ### The counterexample -/

/-- A PROPOSED record that waits for its admission run. -/
def waitingRecord : Record where
  tradeRef := 0
  cls := .firm
  dir := .charge
  start := 1
  length := 1
  power := 1
  change := none
  tolerance := 20
  holdExpiry := none
  state := .proposed
  refusal := none
  pendingAmend := none
  lastAmend := none
  atRisk := none
  sums := none
  outcome := none

/-- A part with an armed clock whose engine runs for the one record of its book, as a pulse comes. Reset does not lead there: the
clock is armed over an empty book alone (R160), with no run (R56), and BOOK needs a clock that runs (R8). But `QueueSound`
says nothing of the clock; `TableSound` does shut the state out. -/
def armedWithRun : State :=
  { State.reset with
    book := emptyBook.set 0 ⟨0, some waitingRecord⟩
    engine := { Engine.cleared with run := some ⟨.admitting, some 0, false, copyInputs State.reset none⟩ }
    clock := { Clock.cleared with mode := .armed, armed := some 0 }
    pending := [.pulse] }

theorem lookup_armedWithRun (key : Nat) : armedWithRun.lookup key = if key = 0 then some waitingRecord else none := by
  have hslot : ∀ i : Fin 128, armedWithRun.book[i] = ⟨0, if i = 0 then some waitingRecord else none⟩ := by
    intro i
    by_cases hi : i = 0
    · subst hi
      rfl
    · have hne : 0 ≠ i.val := fun h => hi (Fin.ext h.symm)
      rw [if_neg hi, ← emptyBook_slot i]
      exact Vector.getElem_set_ne (by decide) i.isLt hne
  have hkey : slotOfKey key = 0 ∧ 0 = key / 128 ↔ key = 0 := by
    rw [Fin.ext_iff]
    simp only [slotOfKey, Fin.coe_ofNat_eq_mod]
    omega
  simp only [State.lookup, hslot]
  by_cases hk : key = 0
  · subst hk
    rfl
  · rw [if_neg hk]
    split_ifs with hg hs
    · exact absurd (hkey.1 ⟨hs, hg⟩) hk
    · rfl
    · rfl

/-- The state meets the invariant: its one item is that of the run, and its one record is PROPOSED. -/
theorem armedWithRun_queueSound : QueueSound armedWithRun where
  bounded := by decide
  distinct := List.nodup_singleton _
  subject run h := by
    obtain rfl := Option.some.inj h
    exact Iff.rfl
  exact key kind := by
    have hitems : itemsHeld armedWithRun = [⟨0, .admitting⟩] := rfl
    rw [hitems, lookup_armedWithRun]
    cases kind <;> by_cases hk : key = 0 <;> simp [hk, Record.waitsFor, waitingRecord]
  amendable key r hl hp := by
    rw [lookup_armedWithRun] at hl
    split at hl
    · obtain rfl := Option.some.inj hl
      simp [waitingRecord] at hp
    · simp at hl

/-- Refutes O56: in `armedWithRun` the pulse begins the armed interval, which takes the run away (R56, R162) and leaves its record
PROPOSED with no item. -/
theorem not_stepKeepsQueueSound : ¬ Obligations.StepKeepsQueueSound := by
  unfold Obligations.StepKeepsQueueSound
  intro h
  let s : State := { armedWithRun with pending := [] }
  have hsound : QueueSound (beginAtPulse s) := h armedWithRun _ armedWithRun_queueSound rfl
  obtain ⟨hbook, hqueue, hrun⟩ := beginAtPulse_leaves s
  have hlookup : (beginAtPulse s).lookup 0 = some waitingRecord := by
    rw [State.lookup, hbook]
    exact lookup_armedWithRun 0
  have hitem := (hsound.exact 0 .admitting).2 ⟨waitingRecord, hlookup, rfl⟩
  have hnone : itemsHeld (beginAtPulse s) = [] := by
    rw [itemsHeld, hqueue, hrun]
    rfl
  simp [hnone] at hitem

end Sys2Proof.Machine
end

section
/-! SUPPORT. VERIFY, the start of a run and the copy of its inputs (R30, R32 to R35, R116, R130). -/

namespace Sys2Proof.Machine

/-! ### VERIFY and RUN_START -/

theorem exec_verify_idle {s : State} (h : s.port.state = .idle) : exec .verify s = .next (verifyAct s.taken) :=
  congrArg Host.Outcome.next (station_idle h _)

section
variable {s : State}

/-- RUN_START with a run in flight or a clock that does not run changes nothing (log entry 2). -/
theorem considerRun_of_busy (h : s.engine.run ≠ none ∨ s.clock.running = false) : considerRun s = s := by
  have hbusy : (s.engine.run.isSome || !s.clock.running) = true := by
    simpa [Option.isSome_iff_ne_none] using h
  exact if_pos hbusy

section
variable (hrun : s.engine.run = none) (hclock : s.clock.running = true)
include hrun hclock

/-- RUN_START of an IDLE engine while the clock runs takes the head item (R32). -/
theorem considerRun_of_item {it : Item} {rest : List Item} (hq : s.queue = it :: rest) :
    considerRun s = startRun (some it) { s with queue := rest } := by
  simp [considerRun, hrun, hclock, hq]

/-- With no item waiting RUN_START takes a pending verification, and else nothing (R32). -/
theorem considerRun_of_noItem (hq : s.queue = []) : considerRun s = if s.engine.flag then startRun none s else s := by
  simp [considerRun, hrun, hclock, hq]

end
end

/-! ### Capacities (R116) -/

theorem countsByState_iff (cfg : TrainCfg) (w : TrainWork) (k : Nat) :
    countsByState cfg w k = true ↔ w.state = .starting ∨ w.state = .running ∨
      (w.state = .ready ∧ cfg.startLead ≤ k) ∨ (w.state = .resting ∧ w.restCount + cfg.startLead ≤ k) := by
  cases hw : w.state <;> simp [countsByState, hw]

theorem inOutage_eq_false_iff (w : TrainWork) (n : Nat) :
    inOutage w n = false ↔ ∀ o ∈ w.outages, ¬(o.first ≤ n ∧ n ≤ o.last) := by
  simp [inOutage]

/-- A configured entry counts for a slot by its state, outside its outage windows (R116). -/
theorem countsFor_iff (cfg : TrainCfg) (w : TrainWork) (c k : Nat) :
    countsFor cfg w c k = true ↔ cfg.configured = true ∧
      (w.state = .starting ∨ w.state = .running ∨
        (w.state = .ready ∧ cfg.startLead ≤ k) ∨ (w.state = .resting ∧ w.restCount + cfg.startLead ≤ k)) ∧
      ∀ o ∈ w.outages, ¬(o.first ≤ c + k ∧ c + k ≤ o.last) := by
  rw [countsFor, Bool.and_eq_true, Bool.and_eq_true, Bool.not_eq_true', countsByState_iff, inOutage_eq_false_iff, and_assoc]

/-- A capacity is the summed ratings of the entries that count, listed in any order (R116). -/
theorem capacityOf_eq (s : State) (kind : TrainKind) (k : Nat) {members : List (Fin 8)} (hnodup : members.Nodup)
    (hmem : ∀ i : Fin 8, i ∈ members ↔
      s.cfg.trains[i].kind = kind ∧ countsFor s.cfg.trains[i] s.trains[i] s.clock.interval k = true) :
    capacityOf s kind k = (members.map fun i => s.cfg.trains[i].ratedKw).sum := by
  rw [capacityOf, List.sum_map_ite]
  simp only [List.map_const', List.sum_replicate, smul_zero, add_zero]
  refine ((List.perm_ext_iff_of_nodup ((List.nodup_finRange 8).filter _) hnodup).2 fun i => ?_).map _ |>.sum_eq
  simp [hmem]

/-! ### The direction (R130) -/

theorem isIn_iff (s : State) (kind : TrainKind) (st : TrainState) (i : Fin 8) :
    isIn s kind st i = true ↔ s.cfg.trains[i].kind = kind ∧ s.trains[i].state = st := by
  simp [isIn]

theorem anyMoving_iff (s : State) (kind : TrainKind) :
    anyMoving s kind = true ↔ ∃ i : Fin 8, s.cfg.trains[i].kind = kind ∧
      (s.trains[i].state = .starting ∨ s.trains[i].state = .running ∨ s.trains[i].state = .stopping) := by
  simp only [anyMoving, List.any_eq_true, List.mem_finRange, true_and, Bool.or_eq_true, isIn_iff, ← and_or_left, or_assoc]

theorem anyUp_iff (s : State) (kind : TrainKind) :
    anyUp s kind = true ↔ ∃ i : Fin 8, s.cfg.trains[i].kind = kind ∧
      (s.trains[i].state = .starting ∨ s.trains[i].state = .running) := by
  simp only [anyUp, List.any_eq_true, List.mem_finRange, true_and, Bool.or_eq_true, isIn_iff, ← and_or_left]

/-- The direction is CHARGE where compressors alone move, or where both kinds move and compressors alone are up (R130). -/
theorem directionNow_charge_iff (s : State) :
    directionNow s = some .charge ↔ anyMoving s .compressor = true ∧
      (¬anyMoving s .expander = true ∨ (anyUp s .compressor = true ∧ ¬anyUp s .expander = true)) := by
  unfold directionNow
  split
  · simp [*]
  · simp [*]
  · simp [*]
  · cases anyUp s .compressor <;> cases anyUp s .expander <;> simp [*]

/-- The direction is DISCHARGE where expanders alone move, or where both kinds move and expanders alone are up (R130). -/
theorem directionNow_discharge_iff (s : State) :
    directionNow s = some .discharge ↔ anyMoving s .expander = true ∧
      (¬anyMoving s .compressor = true ∨ (anyUp s .expander = true ∧ ¬anyUp s .compressor = true)) := by
  unfold directionNow
  split
  · simp [*]
  · simp [*]
  · simp [*]
  · cases anyUp s .compressor <;> cases anyUp s .expander <;> simp [*]

/-! ### The counted records (R34, R35) -/

theorem countedRecord_key {key : Nat} {r : Record} {x : Counted} (h : countedRecord key r = some x) : x.key = key := by
  unfold countedRecord at h
  cases hs : r.state with
  | tentative | firm | active | ending =>
    rw [hs] at h
    obtain rfl := Option.some.inj h
    rfl
  | proposed | refused | closed => simp [hs] at h

theorem countedCandidate_key {kind : ItemKind} {key : Nat} {r : Record} {x : Counted}
    (h : countedCandidate kind key r = some x) : x.key = key := by
  unfold countedCandidate at h
  split at h
  · obtain rfl := Option.some.inj h
    rfl
  · split at h <;> obtain rfl := Option.some.inj h <;> rfl
  · exact countedRecord_key h

/-- A counted record carries the key of its slot's generation (R3, R33). -/
theorem countedSlot_key {candidate : Option Item} {i : Fin 128} {slot : BookSlot} {x : Counted}
    (h : countedSlot candidate i slot = some x) : x.key = keyOf i slot.gen := by
  obtain ⟨r, -, hr⟩ := Option.bind_eq_some_iff.1 h
  simp only at hr
  split at hr
  · split at hr
    · exact countedCandidate_key hr
    · exact countedRecord_key hr
  · exact countedRecord_key hr

/-- No run counts a record twice. -/
theorem copyInputs_counted_nodup (s : State) (candidate : Option Item) :
    ((copyInputs s candidate).counted.map Counted.key).Nodup := by
  refine List.pairwise_map.2 (List.Pairwise.filterMap _ ?_ (List.nodup_finRange 128))
  intro i j hij x hx y hy hxy
  rw [countedSlot_key hx, countedSlot_key hy] at hxy
  have := congrArg slotOfKey hxy
  rw [slotOfKey_keyOf, slotOfKey_keyOf] at this
  exact hij this

theorem sum_map_filterMap {α β : Type} (f : α → Option β) (g : β → Int) (l : List α) :
    ((l.filterMap f).map g).sum = (l.map fun a => ((f a).map g).getD 0).sum := by
  induction l with
  | nil => rfl
  | cons a l ih => cases h : f a <;> simp [h, ih]

/-! ### What a counted record contributes (R34, R35) -/

/-- A span holds the interval of slot `k` of a horizon that begins at `c`. -/
def inSpan (c start length k : Nat) : Bool := decide (start ≤ c + k) && decide (c + k < start + length)

/-- The power that a run counts of a record that is no candidate (R34). -/
def Record.powerCounted (r : Record) (c k : Nat) : Nat :=
  match r.state with
  | .tentative | .firm | .active => if inSpan c r.start r.length k then r.powerAt (c + k) else 0
  | .ending => if k = 0 then r.powerAt c else 0
  | _ => 0

/-- The power that a run counts of a record, where `chosen` is the kind of the item that has the record for its candidate (R34,
R35). -/
def Record.powerCountedAs (chosen : Option ItemKind) (r : Record) (c k : Nat) : Nat :=
  match chosen, r.pendingAmend with
  | some .admitting, _ => if inSpan c r.start r.length k then r.powerAt (c + k) else 0
  | some .amend, some a =>
    if r.state = .active then if k = 0 then r.powerAt c else if c + k ≤ r.start + a.length - 1 then a.power else 0
    else if inSpan c a.start a.length k then a.power else 0
  | _, _ => r.powerCounted c k

/-- The kind of the item that has the record of a key for its candidate. -/
def chosenKind (candidate : Option Item) (key : Nat) : Option ItemKind :=
  (candidate.filter fun it => decide (it.key = key)).map Item.kind

/-- What a counted record, or none, contributes to slot `k` (R34). -/
def contributionOf (x : Option Counted) (c k : Nat) : Int := (x.map fun x => x.contribution c k).getD 0

/-- The net power of a slot is the sum of what every slot of the book contributes (R34). -/
theorem netPower_copyInputs (s : State) (candidate : Option Item) (k : Nat) :
    netPower (copyInputs s candidate) k = ((List.finRange 128).map fun i : Fin 128 =>
      contributionOf (countedSlot candidate i s.book[i]) s.clock.interval k).sum :=
  sum_map_filterMap _ _ _

theorem contribution_span (key : Nat) (d : Direction) (power : Nat) (change : Option PowerChange) (start length c k : Nat) :
    contributionOf (some ⟨key, d, power, change, start, length, .span⟩) c k
      = signedPower d (if inSpan c start length k then powerInForce power change (c + k) else 0) := by
  by_cases h : start ≤ c + k ∧ c + k < start + length
  · simp [contributionOf, Counted.contribution, Counted.powerIn, inSpan, h]
  · simp [contributionOf, Counted.contribution, Counted.powerIn, inSpan, h, ← Bool.decide_and]

theorem contribution_countedRecord (key : Nat) (r : Record) (c k : Nat) :
    contributionOf (countedRecord key r) c k = signedPower r.dir (r.powerCounted c k) := by
  unfold countedRecord Record.powerCounted
  cases r.state with
  | tentative | firm | active => exact contribution_span ..
  | ending => by_cases hk : k = 0 <;> simp [contributionOf, Counted.contribution, Counted.powerIn, Record.powerAt, hk]
  | proposed | refused | closed => cases r.dir <;> rfl

theorem contribution_countedCandidate (kind : ItemKind) (key : Nat) (r : Record) (c k : Nat) :
    contributionOf (countedCandidate kind key r) c k = signedPower r.dir (r.powerCountedAs (some kind) c k) := by
  unfold countedCandidate Record.powerCountedAs
  cases kind with
  | admitting => exact contribution_span ..
  | amend =>
    cases r.pendingAmend with
    | none => exact contribution_countedRecord ..
    | some a =>
      by_cases hs : r.state = .active
      · simp only [if_pos hs]
        by_cases hk : k = 0
        · simp [contributionOf, Counted.contribution, Counted.powerIn, Record.powerAt, hk]
        · by_cases hl : c + k ≤ r.start + a.length - 1 <;>
            simp [contributionOf, Counted.contribution, Counted.powerIn, hk, hl]
      · simp only [if_neg hs]
        exact contribution_span ..

theorem contribution_free (candidate : Option Item) (i : Fin 128) {slot : BookSlot} (h : slot.record = none) (c k : Nat) :
    contributionOf (countedSlot candidate i slot) c k = 0 := by
  simp [countedSlot, h, contributionOf]

/-- What a slot of the book contributes to slot `k` of a run (R34, R35). -/
theorem contribution_countedSlot (candidate : Option Item) (i : Fin 128) {slot : BookSlot} {r : Record}
    (h : slot.record = some r) (c k : Nat) : contributionOf (countedSlot candidate i slot) c k
      = signedPower r.dir (r.powerCountedAs (chosenKind candidate (keyOf i slot.gen)) c k) := by
  simp only [countedSlot, h, Option.bind_some]
  cases candidate with
  | none => exact contribution_countedRecord ..
  | some it =>
    by_cases hk : it.key = keyOf i slot.gen
    · simp only [chosenKind, Option.filter, hk]
      exact contribution_countedCandidate ..
    · simp only [chosenKind, Option.filter, hk]
      exact contribution_countedRecord ..

/-! ### The copy -/

/-- The charge capacities of a copy are those of the compressors, slot by slot (R33, R116). -/
theorem copyInputs_chargeCaps (s : State) (candidate : Option Item) {k : Nat} (hk : k < 288) :
    (copyInputs s candidate).chargeCaps[k]? = some (capacityOf s .compressor k) := by
  simp [copyInputs, horizon, hk]

/-- The discharge capacities of a copy are those of the expanders, slot by slot (R33, R116). -/
theorem copyInputs_dischargeCaps (s : State) (candidate : Option Item) {k : Nat} (hk : k < 288) :
    (copyInputs s candidate).dischargeCaps[k]? = some (capacityOf s .expander k) := by
  simp [copyInputs, horizon, hk]

/-- Settles O13: VERIFY and RUN_START by their cases, and the copy part by part. -/
theorem verifyAndRunStart : Obligations.VerifyAndRunStart := by
  unfold Obligations.VerifyAndRunStart
  refine ⟨fun s hidle => ⟨fun hr => ?_, fun hr => ?_⟩, ?runStart, ?copy⟩
  · rw [exec_verify_idle hidle, verifyAct, if_neg (by simp [hr]), reply_taken]
  · rw [exec_verify_idle hidle, verifyAct, if_pos (by simpa using hr)]
    rfl
  case runStart =>
    intro s withRun
    refine ⟨fun hbusy => congrArg Host.Outcome.next (considerRun_of_busy hbusy), fun hrun hclock => ?_⟩
    have hitem := @considerRun_of_item s hrun hclock
    have hnoItem := @considerRun_of_noItem s hrun hclock
    refine ⟨fun key rest hq => ?_, fun key rest hq => ?_, fun hq hf => ?_, fun hq hf => ?_⟩
    · exact congrArg Host.Outcome.next (hitem hq)
    · exact congrArg Host.Outcome.next (hitem hq)
    · exact congrArg Host.Outcome.next ((hnoItem hq).trans (if_pos hf))
    · exact congrArg Host.Outcome.next ((hnoItem hq).trans (if_neg (by simp [hf])))
  case copy =>
    intro s candidate copy c counts moving up inSpan chosen magnitude contribution
    refine ⟨rfl, rfl, fun i => ?_, rfl, rfl, rfl, rfl, rfl, rfl, rfl, rfl, rfl, rfl, rfl, rfl,
      fun k hk kind members hnodup hmem => ?_, ?_, ?_, copyInputs_counted_nodup s candidate, fun k => ?_⟩
    · simp [copy, copyInputs, cavernInput]
    · have hcap := capacityOf_eq s kind k hnodup fun i => by rw [countsFor_iff]; exact hmem i
      rw [← hcap]
      cases kind with
      | compressor => exact copyInputs_chargeCaps s candidate hk
      | expander => exact copyInputs_dischargeCaps s candidate hk
    · have h := directionNow_charge_iff s
      simp only [anyMoving_iff, anyUp_iff] at h
      exact h
    · have h := directionNow_discharge_iff s
      simp only [anyMoving_iff, anyUp_iff] at h
      exact h
    · have hmag : ∀ key r, magnitude key r k = r.powerCountedAs (chosenKind candidate key) c k := by
        intro key r
        have hchosen : chosen key = chosenKind candidate key := rfl
        simp only [magnitude, hchosen]
        cases chosenKind candidate key with
        | none => cases hs : r.state <;> simp [Record.powerCountedAs, Record.powerCounted, hs, inSpan, Machine.inSpan]
        | some kind =>
          cases kind with
          | admitting => simp [Record.powerCountedAs, inSpan, Machine.inSpan]
          | amend =>
            cases ha : r.pendingAmend with
            | none =>
              cases hs : r.state <;> simp [Record.powerCountedAs, Record.powerCounted, ha, hs, inSpan, Machine.inSpan]
            | some a => cases hs : r.state <;> simp [Record.powerCountedAs, ha, hs, inSpan, Machine.inSpan]
      have hslot : ∀ i : Fin 128, contribution i k = contributionOf (countedSlot candidate i s.book[i]) c k := by
        intro i
        cases hrec : s.book[i].record with
        | none => simp only [contribution, hrec, contribution_free candidate i hrec]
        | some r =>
          simp only [contribution, hrec, hmag, contribution_countedSlot candidate i hrec]
          rfl
      rw [netPower_copyInputs]
      simp only [hslot]
      rfl

end Sys2Proof.Machine
end

section
/-! SUPPORT. READ_PROJECTION by page and pin, the completion of a verification run, stages 5 and 6 of a slot, and the engine at a
boundary (R31, R40 to R42, R46, R52 to R55, R58 to R60). -/

namespace Sys2Proof.Machine

/-! ### READ_PROJECTION and PIN_TIMEOUT -/

theorem exec_readProjection_idle {s : State} (h : s.port.state = .idle) (page : Nat) :
    exec (.readProjection page) s = .next (readProjectionAct page s.taken) :=
  congrArg Host.Outcome.next (station_idle h _)

/-- A served page of a request taken in IDLE, written out (R58, R59). -/
theorem servePage_taken (page : Nat) (s : State) :
    servePage page s.taken = s.answered .done (.projection (projHeader s page)
      ((s.engine.snap.table.bind List.head?).map ProjSlot.interval)
      (((s.engine.snap.table.getD []).drop (16 * page)).take 16)) := by
  cases h : s.engine.snap.table <;> simp [servePage, State.answered, answer, State.taken, h, projHeader]

section
variable {page : Nat} {s : State}

theorem readProjectionAct_badPage (h : 17 < page) : readProjectionAct page s = reply .badValue s := if_pos h

/-- Page 0 is served from the live table, copied and pinned (R58). -/
theorem readProjectionAct_zero : readProjectionAct 0 s = servePage 0 (pinLive s) := rfl

section
variable (hlo : 1 ≤ page) (hhi : page ≤ 17)
include hlo hhi

/-- A later page is served from the pinned copy, and its pin goes on or ends (R58, R60). -/
theorem readProjectionAct_pinned (h : s.engine.snap.pin ≠ none) :
    readProjectionAct page s = { servePage page s with
      engine := { s.engine with snap := { s.engine.snap with pin := pinAfter page s.now } } } := by
  have hpin : s.engine.snap.pin.isSome = true := Option.isSome_iff_ne_none.2 h
  rw [readProjectionAct, if_neg (Nat.not_lt.2 hhi), if_neg (Nat.ne_of_gt hlo), if_pos hpin]
  rfl

/-- With no copy pinned a later page is refused (R58). -/
theorem readProjectionAct_unpinned (h : s.engine.snap.pin = none) : readProjectionAct page s = reply .noSnapshot s := by
  rw [readProjectionAct, if_neg (Nat.not_lt.2 hhi), if_neg (Nat.ne_of_gt hlo), if_neg (by simp [h])]

end
end

/-- Settles O12, by the page and the pin. -/
theorem projectionPagesAndPin : Obligations.ProjectionPagesAndPin := by
  unfold Obligations.ProjectionPagesAndPin
  refine ⟨fun page s hidle => ?_, fun s t hpin ht => ?_⟩
  · intro header slot0 slots
    rw [exec_readProjection_idle hidle]
    refine ⟨fun hbad => ?_, fun hzero => ?_, fun hlo hhi hpin => ?_, fun hlo hhi hpin => ?_⟩
    · rw [readProjectionAct_badPage hbad, reply_taken]
    · subst hzero
      rw [readProjectionAct_zero]
      exact congrArg Host.Outcome.next (servePage_taken 0 (pinLive s))
    · rw [readProjectionAct_pinned hlo hhi (s := s.taken) hpin, servePage_taken]
      rfl
    · rw [readProjectionAct_unpinned hlo hhi (s := s.taken) hpin, reply_taken]
  · change Host.Outcome.next _ = _
    simp only [hpin, if_pos ht]

/-! ### The completion of a verification run -/

/-- Settles O14. -/
theorem verificationRunCompletes : Obligations.VerificationRunCompletes := by
  unfold Obligations.VerificationRunCompletes
  intro s run hrun hkind
  change Host.Outcome.next _ = _
  simp only [hrun, if_pos hkind, completeVerification, goLive, wrapInc_eq]

/-! ### Stages 5 and 6 of a slot -/

section
variable (copy : RunCopy) (h : Nat) {n : Int}

/-- A charging slot takes heat in up to the capacity (R41, R83). -/
theorem heatStage_charge (hn : 0 < n) :
    let e := h - heatLoss h copy.lossPpm + perSlot n copy.capturePermille
    heatStage copy h n = (min copy.capacity e, false, decide (copy.capacity ≤ e)) := by
  simp only [heatStage, if_pos hn]

/-- A discharging slot draws heat, and is short where that ends below the floor (R41). -/
theorem heatStage_discharge (hn : n < 0) :
    let kept := h - heatLoss h copy.lossPpm
    let draw := perSlot n copy.drawPermille
    heatStage copy h n = (kept - draw, decide (kept < copy.heatFloor + draw), false) := by
  intro kept draw
  have hshort : ((kept : Int) - draw < copy.heatFloor) ↔ kept < copy.heatFloor + draw := by omega
  simp only [heatStage, if_neg (Int.not_lt.2 (Int.le_of_lt hn)), if_pos hn]
  exact congrArg (fun b => (kept - draw, b, false)) (decide_eq_decide.2 hshort)

/-- An idle slot keeps the content but for the loss (R41). -/
theorem heatStage_idle : heatStage copy h 0 = (h - heatLoss h copy.lossPpm, false, false) := rfl

theorem massChange_charge (hn : 0 < n) : massChange copy n = (perSlot n copy.yieldG : Int) := if_pos hn

theorem massChange_discharge (hn : n < 0) : massChange copy n = -(perSlot n copy.useG : Int) := by
  rw [massChange, if_neg (Int.not_lt.2 (Int.le_of_lt hn)), if_pos hn]

/-- With one factor for both directions a discharge moves the mass that a charge of its magnitude would (R42). -/
theorem massChange_neg (hf : copy.yieldG = copy.useG) (n : Int) : massChange copy (-n) = -massChange copy n := by
  have hper : ∀ f, perSlot (-n) f = perSlot n f := fun f => by rw [perSlot, Int.natAbs_neg, perSlot]
  rcases Int.lt_trichotomy n 0 with hn | rfl | hn
  · rw [massChange_charge copy (Int.neg_pos_of_neg hn), massChange_discharge copy hn, hper, hf, Int.neg_neg]
  · rfl
  · rw [massChange_discharge copy (Int.neg_neg_of_pos hn), massChange_charge copy hn, hper, hf]

end

/-- Rounding half away from zero is off by half a unit at most (R40). -/
theorem roundDiv_bounds (x : Nat) : roundDiv x 12000 * 12000 ≤ x + 6000 ∧ x < roundDiv x 12000 * 12000 + 6000 := by
  unfold roundDiv
  omega

/-- Settles O20, by the sign of the net power. -/
theorem heatAndMassByDirection : Obligations.HeatAndMassByDirection := by
  unfold Obligations.HeatAndMassByDirection
  intro copy h n kept heatIn draw
  refine ⟨fun hn => heatStage_charge copy h hn, fun hn hfloor => ?_, fun hn hfloor => ?_, fun hn => ?_,
    fun hn => massChange_charge copy hn, fun hn => massChange_discharge copy hn, fun hn => ?_,
    fun hf => massChange_neg copy hf n, fun factor => roundDiv_bounds _⟩
  · have hshort : decide (kept < copy.heatFloor + draw) = false := decide_eq_false (Nat.not_lt.2 hfloor)
    exact (heatStage_discharge copy h hn).trans (congrArg (fun b => (kept - draw, b, false)) hshort)
  · have hshort : decide (kept < copy.heatFloor + draw) = true := decide_eq_true hfloor
    exact (heatStage_discharge copy h hn).trans (congrArg (fun b => (kept - draw, b, false)) hshort)
  · subst hn
    exact heatStage_idle copy h
  · subst hn
    rfl

/-! ### The engine at a boundary -/

section
variable {n : Nat} {s : State}

/-- A boundary that abandons a run which has no item leaves none (R52). -/
theorem engineBoundary_of_noItem (h : s.engine.run.bind Run.item = none) :
    engineBoundary n s = shiftLive n (dropRun (setVerify s)) := by
  simp only [engineBoundary, h]

/-- A boundary starts a run that has its item afresh (R52). -/
theorem engineBoundary_of_item {it : Item} (h : s.engine.run.bind Run.item = some it) :
    engineBoundary n s = startRun (some it) (shiftLive n (dropRun (setVerify s))) := by
  simp only [engineBoundary, h]

/-- Whatever the run, the boundary does the same with the flag, the tables, the queue and the book (R52, R54). -/
theorem engineBoundary_tables (n : Nat) (s : State) :
    let t := shiftLive n (dropRun (setVerify s))
    (engineBoundary n s).engine = { t.engine with run := (engineBoundary n s).engine.run } ∧
    (engineBoundary n s).queue = t.queue ∧ (engineBoundary n s).book = t.book := by
  cases h : s.engine.run.bind Run.item with
  | none => rw [engineBoundary_of_noItem h]; exact ⟨rfl, rfl, rfl⟩
  | some it => rw [engineBoundary_of_item h]; exact ⟨rfl, rfl, rfl⟩

theorem shiftLive_of_none (h : s.engine.live = none) :
    shiftLive n s = { s with engine := { s.engine with closed := none } } := by
  simp only [shiftLive, h]

theorem shiftLive_of_some {t : List ProjSlot} (h : s.engine.live = some t) :
    shiftLive n s = { s with engine := { s.engine with
      live := some (shiftTable n t), closed := t.head?, snap := { s.engine.snap with superseded := true } } } := by
  simp only [shiftLive, h]

/-- A shift drops the first slot and adds a new one after the last (R54). -/
theorem shiftTable_eq (n : Nat) (first : ProjSlot) (mid : List ProjSlot) (last : ProjSlot) :
    shiftTable n (first :: (mid ++ [last])) = mid ++ [last, nextSlot last (n + 287)] := by
  have hlast : (first :: (mid ++ [last])).getLast? = some last := by
    rw [← List.cons_append, List.getLast?_concat]
  simp [shiftTable, hlast, horizon]

end

/-- The shift writes the live table, the closed slot and the mark of the copy alone (R54, R55, R58). -/
theorem shiftLive_eq (n : Nat) (s : State) :
    shiftLive n s = { s with engine := { s.engine with
      live := (shiftLive n s).engine.live, closed := (shiftLive n s).engine.closed, snap := (shiftLive n s).engine.snap } } := by
  cases h : s.engine.live with
  | none => simp only [shiftLive_of_none h, h]
  | some t => simp only [shiftLive_of_some h]

/-- The inputs that a run started afresh copies are those of the state in which the engine took its turn (R52; log entry 12). -/
theorem copyInputs_shiftLive (n : Nat) (s : State) (candidate : Option Item) :
    copyInputs (shiftLive n (dropRun (setVerify s))) candidate = copyInputs s candidate := by
  rw [shiftLive_eq]
  rfl

/-- An admission run with its subject starts afresh from a new copy (R52). -/
theorem engineBoundary_run_of_item {n : Nat} {s : State} {it : Item} (h : s.engine.run.bind Run.item = some it) :
    (engineBoundary n s).engine.run = some ⟨it.kind.runKind, some it.key, false, copyInputs s (some it)⟩ := by
  rw [engineBoundary_of_item h, ← copyInputs_shiftLive n s]
  rfl

/-- Any other run is abandoned (R52). -/
theorem engineBoundary_run_of_noItem {n : Nat} {s : State} (h : s.engine.run.bind Run.item = none) :
    (engineBoundary n s).engine.run = none := by
  rw [engineBoundary_of_noItem h, shiftLive_eq]
  rfl

/-- Settles O21: the tables by the live table, and the run by its kind and subject. -/
theorem engineTakesBoundary : Obligations.EngineTakesBoundary := by
  unfold Obligations.EngineTakesBoundary
  intro n s t
  obtain ⟨hengine, hqueue, hbook⟩ := engineBoundary_tables n s
  refine ⟨?_, ?_, ?_, ?_, fun hl => ?_, fun first mid last hl => ?_, fun hr => ?_,
    fun run hr => ⟨fun hk => ?_, fun key hs hk => ?_, fun key hs hk => ?_⟩⟩
  · rw [hengine, shiftLive_eq]
    rfl
  · rw [hengine, shiftLive_eq]
    rfl
  · rw [hqueue, shiftLive_eq]
    rfl
  · rw [hbook, shiftLive_eq]
    rfl
  · rw [hengine, shiftLive_of_none (s := dropRun (setVerify s)) hl]
    exact ⟨hl, rfl, rfl⟩
  · rw [hengine, shiftLive_of_some (s := dropRun (setVerify s)) hl, shiftTable_eq]
    exact ⟨rfl, rfl, rfl⟩
  · exact engineBoundary_run_of_noItem (by rw [hr]; rfl)
  · refine engineBoundary_run_of_noItem ?_
    rw [hr, Option.bind_some, Run.item]
    rcases hk with hk | hs
    · rw [hk]
    · rw [hs]
      cases run.kind <;> rfl
  · refine engineBoundary_run_of_item (it := ⟨key, .admitting⟩) ?_
    rw [hr, Option.bind_some, Run.item, hk, hs]
  · refine engineBoundary_run_of_item (it := ⟨key, .amend⟩) ?_
    rw [hr, Option.bind_some, Run.item, hk, hs]

end Sys2Proof.Machine
end

section
/-! SUPPORT. The blocking slot and the at-risk marks of a run (R7, R47, R50). -/

namespace Sys2Proof.Machine

/-! ### The first of a list -/

/-- What a search finds stands at some place, and no earlier place holds what it looks for. -/
theorem find?_eq_some_iff_getElem? {α : Type} (p : α → Bool) (l : List α) (a : α) :
    l.find? p = some a ↔ ∃ k : Nat, l[k]? = some a ∧ p a = true ∧ ∀ j b, j < k → l[j]? = some b → ¬p b = true := by
  rw [List.find?_eq_some_iff_getElem]
  constructor
  · rintro ⟨hp, k, hk, hget, hbefore⟩
    refine ⟨k, List.getElem?_eq_some_iff.2 ⟨hk, hget⟩, hp, fun j b hj hb => ?_⟩
    obtain ⟨hlt, rfl⟩ := List.getElem?_eq_some_iff.1 hb
    simpa using hbefore j hj
  · rintro ⟨k, hget, hp, hbefore⟩
    obtain ⟨hk, rfl⟩ := List.getElem?_eq_some_iff.1 hget
    refine ⟨hp, k, hk, rfl, fun j hj => ?_⟩
    simpa using hbefore j l[j] hj (List.getElem?_eq_getElem _)

/-! ### The blocking slot -/

theorem clear_iff (sl : ProjSlot) : sl.clear = true ↔ sl.status = .ok ∨ sl.status = .noStatus := by
  cases h : sl.status <;> simp [ProjSlot.clear, h]

theorem not_clear_iff (sl : ProjSlot) : (!sl.clear) = true ↔ ∃ r, sl.status = .fail r := by
  cases h : sl.status <;> simp [ProjSlot.clear, h]

theorem zip_getElem?_iff {α β : Type} (l : List α) (l' : List β) (k : Nat) (q : α × β) :
    (l.zip l')[k]? = some q ↔ l[k]? = some q.1 ∧ l'[k]? = some q.2 := List.getElem?_zip_eq_some

/-- Against a valid live table the blocking slot is the first that fails while the live slot stands clear (R47). -/
theorem blockingSlot_live_iff (run live : List ProjSlot) (sl : ProjSlot) :
    blockingSlot run (some live) = some sl ↔ ∃ (k : Nat) (lv : ProjSlot),
      run[k]? = some sl ∧ live[k]? = some lv ∧ (∃ r, sl.status = .fail r) ∧ (lv.status = .ok ∨ lv.status = .noStatus) ∧
      ∀ j a b, j < k → run[j]? = some a → live[j]? = some b →
        ¬((∃ r, a.status = .fail r) ∧ (b.status = .ok ∨ b.status = .noStatus)) := by
  simp only [blockingSlot, Option.map_eq_some_iff, find?_eq_some_iff_getElem?, zip_getElem?_iff, Bool.and_eq_true,
    not_clear_iff, clear_iff]
  constructor
  · rintro ⟨⟨a, lv⟩, ⟨k, ⟨hrun, hlive⟩, ⟨hfail, hclear⟩, hbefore⟩, rfl⟩
    exact ⟨k, lv, hrun, hlive, hfail, hclear, fun j a b hj ha hb => hbefore j (a, b) hj ⟨ha, hb⟩⟩
  · rintro ⟨k, lv, hrun, hlive, hfail, hclear, hbefore⟩
    exact ⟨(sl, lv), ⟨k, ⟨hrun, hlive⟩, ⟨hfail, hclear⟩, fun j q hj hq => hbefore j q.1 q.2 hj hq.1 hq.2⟩, rfl⟩

/-- Against an invalid live table the blocking slot is the first that fails (R47). -/
theorem blockingSlot_none_iff (run : List ProjSlot) (sl : ProjSlot) :
    blockingSlot run none = some sl ↔ ∃ k : Nat, run[k]? = some sl ∧ (∃ r, sl.status = .fail r) ∧
      ∀ j a, j < k → run[j]? = some a → ¬∃ r, a.status = .fail r := by
  simp only [blockingSlot, find?_eq_some_iff_getElem?, not_clear_iff]

/-- Settles O16. -/
theorem blockingSlotIsLowest : Obligations.BlockingSlotIsLowest := by
  unfold Obligations.BlockingSlotIsLowest
  exact ⟨fun run live sl _ => blockingSlot_live_iff run live sl, blockingSlot_none_iff⟩

/-! ### The mark of one record -/

/-- The mark names the first failing slot among those in which the run counted the record (R50). -/
theorem riskMark_eq_some_iff (copy : RunCopy) (table : List ProjSlot) (c : Counted) (n : Nat) :
    riskMark copy table c = some n ↔ ∃ (k : Nat) (sl : ProjSlot), table[k]? = some sl ∧ sl.interval = n ∧
      (∃ r, sl.status = .fail r) ∧ c.powerIn copy.interval k ≠ none ∧
      ∀ j sl', j < k → table[j]? = some sl' → c.powerIn copy.interval j ≠ none → ¬∃ r, sl'.status = .fail r := by
  have hidx : ∀ (k : Nat) (q : ProjSlot × Nat), table.zipIdx[k]? = some q ↔ table[k]? = some q.1 ∧ q.2 = k := by
    rintro k ⟨sl, i⟩
    rw [List.getElem?_zipIdx, Nat.zero_add]
    cases table[k]? with
    | none => simp
    | some a => simp [eq_comm]
  simp only [riskMark, Option.map_eq_some_iff, find?_eq_some_iff_getElem?, hidx, Bool.and_eq_true, not_clear_iff,
    Option.isSome_iff_ne_none]
  constructor
  · rintro ⟨⟨sl, i⟩, ⟨k, ⟨hsl, rfl⟩, ⟨hpower, hfail⟩, hbefore⟩, rfl⟩
    exact ⟨_, sl, hsl, rfl, hfail, hpower, fun j sl' hj hsl' hp hf => hbefore j (sl', j) hj ⟨hsl', rfl⟩ ⟨hp, hf⟩⟩
  · rintro ⟨k, sl, hsl, rfl, hfail, hpower, hbefore⟩
    refine ⟨(sl, k), ⟨k, ⟨hsl, rfl⟩, ⟨hpower, hfail⟩, ?_⟩, rfl⟩
    rintro j ⟨sl', i⟩ hj ⟨hsl', rfl⟩ ⟨hp, hf⟩
    exact hbefore _ sl' hj hsl' hp hf

/-- A record with the mark that a run which counted it writes (R7, R50; log entry 14). -/
def Record.remarked (copy : RunCopy) (table : List ProjSlot) (c : Counted) (r : Record) : Record :=
  { r with atRisk := if r.state.marked then riskMark copy table c else r.atRisk }

/-- The mark passes between clear and set (R50). -/
def Record.markMoves (copy : RunCopy) (table : List ProjSlot) (c : Counted) (r : Record) : Prop :=
  (r.remarked copy table c).atRisk.isSome ≠ r.atRisk.isSome

/-- A state whose book alone may differ. -/
structure BookFrame (s t : State) : Prop where
  notices : t.notices = s.notices
  engine : t.engine = s.engine
  queue : t.queue = s.queue
  disp : t.disp = s.disp

/-- A write under a key leaves every other key as it was, one of the same slot too, which finds no record before or after (R5). -/
theorem lookup_setRecord_ne (s : State) {key k : Nat} (hk : k ≠ key) (r : Record) : (setRecord key r s).lookup k = s.lookup k := by
  cases h : s.lookup key with
  | none => simp [setRecord, h]
  | some r' =>
    rw [setRecord_of_lookup h]
    by_cases hs : slotOfKey k = slotOfKey key
    · obtain ⟨hkey, -⟩ := key_of_lookup h
      have hmod : k % 128 = key % 128 := congrArg Fin.val hs
      have hgen : s.book[slotOfKey key].gen = key / 128 := by
        have := congrArg (· / 128) hkey
        simpa using this.symm
      have hne : ¬s.book[slotOfKey key].gen = k / 128 := by omega
      simp only [State.lookup, hs, book_withRecord_self, if_neg hne]
    · exact lookup_withRecord_other s r hs

section
variable (copy : RunCopy) (table : List ProjSlot) (q : State × Bool) (c : Counted)

theorem writeMark_frame : BookFrame q.1 (writeMark copy table q c).1 := by
  unfold writeMark
  split
  · split
    · simp only
      exact ⟨setRecord_notices .., setRecord_engine .., setRecord_queue .., setRecord_disp ..⟩
    · exact ⟨rfl, rfl, rfl, rfl⟩
  · exact ⟨rfl, rfl, rfl, rfl⟩

theorem writeMark_lookup_ne {k : Nat} (hk : k ≠ c.key) : (writeMark copy table q c).1.lookup k = q.1.lookup k := by
  unfold writeMark
  split
  · split
    · exact lookup_setRecord_ne _ hk _
    · rfl
  · rfl

theorem writeMark_lookup_self :
    (writeMark copy table q c).1.lookup c.key = (q.1.lookup c.key).map (Record.remarked copy table c) := by
  unfold writeMark
  split
  · rename_i r hr
    split
    · rename_i hm
      simp only [setRecord_of_lookup hr, lookup_withRecord_self hr, hr, Option.map_some, Record.remarked, if_pos hm]
    · rename_i hm
      simp only [hr, Option.map_some, Record.remarked, if_neg hm]
  · rename_i hr
    rw [hr]
    rfl

theorem writeMark_flag_iff : (writeMark copy table q c).2 = true ↔
    q.2 = true ∨ ∃ r, q.1.lookup c.key = some r ∧ r.markMoves copy table c := by
  unfold writeMark
  split
  · rename_i r hr
    split
    · rename_i hm
      simp [hr, Record.markMoves, Record.remarked, hm]
    · rename_i hm
      simp [hr, Record.markMoves, Record.remarked, hm]
  · rename_i hr
    simp [hr]

end

/-! ### The marks of all counted records -/

section
variable (copy : RunCopy) (table : List ProjSlot)

theorem foldl_writeMark_frame (l : List Counted) (q : State × Bool) :
    BookFrame q.1 (l.foldl (writeMark copy table) q).1 := by
  induction l generalizing q with
  | nil => exact ⟨rfl, rfl, rfl, rfl⟩
  | cons c l ih =>
    have h := writeMark_frame copy table q c
    have h' := ih (writeMark copy table q c)
    exact ⟨h'.notices.trans h.notices, h'.engine.trans h.engine, h'.queue.trans h.queue, h'.disp.trans h.disp⟩

/-- A key that is not counted finds what it found. -/
theorem foldl_writeMark_lookup_ne {k : Nat} (l : List Counted) (hk : ∀ c ∈ l, c.key ≠ k) (q : State × Bool) :
    (l.foldl (writeMark copy table) q).1.lookup k = q.1.lookup k := by
  induction l generalizing q with
  | nil => rfl
  | cons c l ih =>
    rw [List.foldl_cons, ih (fun c' hc' => hk c' (List.mem_cons_of_mem _ hc')),
      writeMark_lookup_ne _ _ _ _ (hk c List.mem_cons_self).symm]

/-- The other keys of a list of distinct keys. -/
theorem key_ne_of_nodup {c c' : Counted} {l : List Counted} (h : ((c :: l).map Counted.key).Nodup) (hc' : c' ∈ l) :
    c'.key ≠ c.key := by
  obtain ⟨hnot, -⟩ := List.nodup_cons.1 h
  exact fun he => hnot (he ▸ List.mem_map_of_mem hc')

/-- A counted key finds its record with the run's mark. -/
theorem foldl_writeMark_lookup_mem {c : Counted} (l : List Counted) (hl : (l.map Counted.key).Nodup) (hc : c ∈ l)
    (q : State × Bool) :
    (l.foldl (writeMark copy table) q).1.lookup c.key = (q.1.lookup c.key).map (Record.remarked copy table c) := by
  induction l generalizing q with
  | nil => simp at hc
  | cons d l ih =>
    rw [List.foldl_cons]
    rcases List.mem_cons.1 hc with rfl | hc
    · rw [foldl_writeMark_lookup_ne _ _ _ (fun c' hc' => key_ne_of_nodup hl hc'), writeMark_lookup_self]
    · rw [ih (List.nodup_cons.1 hl).2 hc, writeMark_lookup_ne _ _ _ _ (key_ne_of_nodup hl hc)]

/-- The flag of AT_RISK stands exactly where a mark has moved. -/
theorem foldl_writeMark_flag_iff (l : List Counted) (hl : (l.map Counted.key).Nodup) (q : State × Bool) :
    (l.foldl (writeMark copy table) q).2 = true ↔
      q.2 = true ∨ ∃ c ∈ l, ∃ r, q.1.lookup c.key = some r ∧ r.markMoves copy table c := by
  induction l generalizing q with
  | nil => simp
  | cons d l ih =>
    have hrest : ∀ c ∈ l, (writeMark copy table q d).1.lookup c.key = q.1.lookup c.key := fun c hc =>
      writeMark_lookup_ne _ _ _ _ (key_ne_of_nodup hl hc)
    rw [List.foldl_cons, ih (List.nodup_cons.1 hl).2, writeMark_flag_iff, List.exists_mem_cons_iff, or_assoc]
    refine or_congr Iff.rfl (or_congr Iff.rfl (exists_congr fun c => and_congr_right fun hc => ?_))
    rw [hrest c hc]

end

theorem marked_iff (st : RecordState) : st.marked = true ↔ ¬(st = .proposed ∨ st = .refused ∨ st = .closed) := by
  cases st <;> simp [RecordState.marked]

/-- Settles O17: the marks of the counted records are written one by one, under distinct keys. -/
theorem marksFollowRun : Obligations.MarksFollowRun := by
  unfold Obligations.MarksFollowRun
  intro copy table s hnodup t fails changed
  let q := copy.counted.foldl (writeMark copy table) (s, false)
  have hframe : BookFrame s q.1 := foldl_writeMark_frame copy table copy.counted (s, false)
  have hlookup : ∀ k, t.lookup k = q.1.lookup k := fun k => raiseIf_lookup q.2 .atRisk q.1 k
  have hmem : ∀ c ∈ copy.counted, t.lookup c.key = (s.lookup c.key).map (Record.remarked copy table c) := fun c hc =>
    (hlookup _).trans (foldl_writeMark_lookup_mem copy table _ hnodup hc (s, false))
  have hflag : q.2 = true ↔ changed := by
    refine (foldl_writeMark_flag_iff copy table _ hnodup (s, false)).trans ?_
    simp only [Bool.false_eq_true, false_or]
    refine exists_congr fun c => and_congr_right fun hc => exists_congr fun r => ?_
    constructor
    · rintro ⟨hr, hm⟩
      exact ⟨r.remarked copy table c, hr, by rw [hmem c hc, hr]; rfl, hm.symm⟩
    · rintro ⟨r', hr, hr', hm⟩
      rw [hmem c hc, hr] at hr'
      obtain rfl := Option.some.inj hr'
      exact ⟨hr, hm.symm⟩
  have hnotices : t.notices = (raiseIf q.2 .atRisk s).notices := raiseIf_notices_congr _ _ hframe.notices
  refine ⟨fun key hk => ?_, fun c hc r hr => ⟨(r.remarked copy table c).atRisk, ?_, fun hst => ?_, fun hp hrf hcl n => ?_⟩,
    fun hch => ?_, fun hch => ?_, ?_, ?_, ?_⟩
  · exact (hlookup key).trans (foldl_writeMark_lookup_ne copy table _ hk (s, false))
  · rw [hmem c hc, hr]
    rfl
  · exact if_neg fun hm => (marked_iff _).1 hm hst
  · have hm : r.state.marked = true := (marked_iff _).2 (by simp [hp, hrf, hcl])
    rw [Record.remarked, if_pos hm]
    exact riskMark_eq_some_iff copy table c n
  · rw [hnotices, hflag.2 hch]
    rfl
  · rw [hnotices, Bool.eq_false_iff.2 (mt hflag.1 hch)]
    rfl
  · exact (raiseIf_engine q.1 q.2 .atRisk).trans hframe.engine
  · exact (raiseIf_queue q.1 q.2 .atRisk).trans hframe.queue
  · exact (raiseIf_disp q.1 q.2 .atRisk).trans hframe.disp

end Sys2Proof.Machine
end

section
/-! SUPPORT. The split of a slot's mass change among the caverns, and the judgement of the caverns (R43, R44). -/

namespace Sys2Proof.Machine

/-! ### Eligible caverns -/

/-- A cavern takes part in a run (R43, R69). -/
def CavernInput.takesPart (c : CavernInput) : Prop :=
  c.inService = true ∧ 1 ≤ c.weight ∧ c.weight ≤ 15 ∧ (c.status = .good ∨ c.status = .held)

theorem eligible_iff (c : CavernInput) : c.eligible = true ↔ c.takesPart := by
  have hstatus : c.status ≠ .unknown ↔ c.status = .good ∨ c.status = .held := by cases c.status <;> simp
  simp only [CavernInput.eligible, CavernInput.takesPart, Bool.and_eq_true, decide_eq_true_eq, hstatus, and_assoc]

theorem not_eligible_iff (c : CavernInput) : c.eligible = false ↔ ¬c.takesPart := by
  rw [← eligible_iff, Bool.not_eq_true]

/-- The lowest-numbered eligible cavern (R43). -/
theorem lowestEligible_iff (cav : Vector CavernInput 4) (i : Fin 4) :
    lowestEligible cav = some i ↔ cav[i].takesPart ∧ ∀ j : Fin 4, j < i → ¬cav[j].takesPart := by
  simp only [← eligible_iff]
  rw [lowestEligible, find?_eq_some_iff_getElem?]
  constructor
  · rintro ⟨k, hk, hi, hbefore⟩
    obtain ⟨hlt, rfl⟩ := List.getElem?_eq_some_iff.1 hk
    refine ⟨hi, fun j hj => hbefore j.val j ?_ (by simp)⟩
    simpa [Fin.lt_def] using hj
  · rintro ⟨hi, hbefore⟩
    refine ⟨i.val, by simp, hi, fun j b hj hb => hbefore b ?_⟩
    obtain ⟨hlt, rfl⟩ := List.getElem?_eq_some_iff.1 hb
    simpa [Fin.lt_def] using hj

section
variable (cav : Vector CavernInput 4)

theorem totalWeight_eq_sum : totalWeight cav = ∑ i : Fin 4, cav[i].part := by
  rw [Fin.sum_univ_four]
  rfl

/-- With weight above 0 some cavern is eligible, and so one is the lowest. -/
theorem exists_lowestEligible (hW : 0 < totalWeight cav) : ∃ i, lowestEligible cav = some i := by
  rw [← Option.isSome_iff_exists, lowestEligible, List.find?_isSome]
  by_contra hnone
  have hpart : ∀ i : Fin 4, cav[i].part = 0 := fun i => if_neg fun he => hnone ⟨i, List.mem_finRange i, he⟩
  rw [totalWeight_eq_sum, Finset.sum_eq_zero fun i _ => hpart i] at hW
  exact lt_irrefl 0 hW

/-! ### The shares -/

/-- The floored shares do not exceed the mass change (R43). -/
theorem sum_floorShare_le (m : Nat) : ∑ i : Fin 4, floorShare cav m i ≤ m := by
  rcases Nat.eq_zero_or_pos (totalWeight cav) with hW | hW
  · simp [floorShare, hW]
  · calc ∑ i : Fin 4, m * cav[i].part / totalWeight cav
        ≤ (∑ i : Fin 4, m * cav[i].part) / totalWeight cav := by
          rw [Nat.le_div_iff_mul_le hW, Finset.sum_mul]
          exact Finset.sum_le_sum fun i _ => Nat.div_mul_le_self _ _
      _ = m := by rw [← Finset.mul_sum, ← totalWeight_eq_sum, Nat.mul_div_cancel _ hW]

/-- The remainder that the lowest-numbered eligible cavern takes (R43). -/
def shareRest (m : Nat) : Nat := m - ∑ i : Fin 4, floorShare cav m i

theorem shareOf_eq (m : Nat) (i : Fin 4) :
    shareOf cav m i = floorShare cav m i + if lowestEligible cav = some i then shareRest cav m else 0 := by
  rw [shareRest, Fin.sum_univ_four]
  rfl

/-- The shares sum to the mass change exactly (R43). -/
theorem sum_shareOf (hW : 0 < totalWeight cav) (m : Nat) : ∑ i : Fin 4, shareOf cav m i = m := by
  obtain ⟨j, hj⟩ := exists_lowestEligible cav hW
  have hrest : ∑ i : Fin 4, (if lowestEligible cav = some i then shareRest cav m else 0) = shareRest cav m := by
    simp [hj]
  rw [Finset.sum_congr rfl fun i _ => shareOf_eq cav m i, Finset.sum_add_distrib, hrest, shareRest]
  have := sum_floorShare_le cav m
  omega

theorem signedShare_natAbs (dM : Int) (i : Fin 4) : (signedShare cav dM i).natAbs = shareOf cav dM.natAbs i := by
  unfold signedShare
  split <;> simp

/-- The signed shares sum to the signed mass change (R43). -/
theorem sum_signedShare (hW : 0 < totalWeight cav) (dM : Int) : ∑ i : Fin 4, signedShare cav dM i = dM := by
  have hsum : ∑ i : Fin 4, (shareOf cav dM.natAbs i : Int) = dM.natAbs := by
    exact_mod_cast sum_shareOf cav hW dM.natAbs
  rcases lt_or_ge dM 0 with h | h
  · simp only [signedShare, if_pos h, Finset.sum_neg_distrib, hsum]
    omega
  · simp only [signedShare, if_neg (Int.not_lt.2 h), hsum]
    omega

theorem signedShare_sign (dM : Int) (i : Fin 4) :
    (0 ≤ dM → 0 ≤ signedShare cav dM i) ∧ (dM ≤ 0 → signedShare cav dM i ≤ 0) := by
  refine ⟨fun h => ?_, fun h => ?_⟩
  · rw [signedShare, if_neg (Int.not_lt.2 h)]
    exact Int.natCast_nonneg _
  · rcases Int.lt_or_eq_of_le h with hneg | rfl
    · rw [signedShare, if_pos hneg]
      omega
    · have hzero : shareOf cav 0 i = 0 := by simp [shareOf_eq, floorShare, shareRest]
      simp [signedShare, hzero]

theorem floorShare_eq (m : Nat) (i : Fin 4) :
    floorShare cav m i = if cav[i].eligible then m * cav[i].weight / totalWeight cav else 0 := by
  rw [floorShare, CavernInput.part]
  split <;> simp

end

theorem endMass_of_takesPart {cav : Vector CavernInput 4} {i : Fin 4} (h : cav[i].takesPart) (dM : Int) (m : Nat) :
    endMass cav dM m i = ((m : Int) + signedShare cav dM i).toNat := if_pos ((eligible_iff _).2 h)

theorem endMass_of_not_takesPart {cav : Vector CavernInput 4} {i : Fin 4} (h : ¬cav[i].takesPart) (dM : Int) (m : Nat) :
    endMass cav dM m i = m := if_neg fun he => h ((eligible_iff _).1 he)

/-! ### The judgement of one cavern -/

theorem holds_iff (t : MassTable) (x : Nat) : t.holds x = true ↔ t.m0 ≤ x ∧ x ≤ t.m0 + 16 * t.step := by
  rw [MassTable.holds, Bool.and_eq_true, decide_eq_true_eq, decide_eq_true_eq]
  rfl

/-- The mark of the end pressure, against its limits (R44). -/
def pressureMarks (c : CavernInput) (p' : Nat) : List Reason :=
  if p' < c.pMin then [.massLow] else if c.pMax < p' then [.massHigh] else []

/-- The mark of the change of pressure (R44). -/
def rateMarks (c : CavernInput) (p p' : Nat) : List Reason := if c.rateLimit < max p p' - min p p' then [.rate] else []

section
variable {c : CavernInput} {m m' : Nat}

theorem cavernFailures_outside (h : ¬(c.table.holds m = true ∧ c.table.holds m' = true)) :
    cavernFailures c m m' = [.tableRange] := by
  rw [cavernFailures, if_neg (by rwa [Bool.and_eq_true])]

theorem cavernFailures_inside (h : c.table.holds m = true) (h' : c.table.holds m' = true) :
    cavernFailures c m m'
      = pressureMarks c (c.table.pressure m') ++ rateMarks c (c.table.pressure m) (c.table.pressure m') := by
  have habs : ∀ p p' : Nat, ((p' : Int) - p).natAbs = max p p' - min p p' := fun p p' => by omega
  simp only [cavernFailures, h, h', Bool.and_self, if_true, habs]
  rfl

end

theorem mem_pressureMarks (c : CavernInput) (p' : Nat) (r : Reason) :
    r ∈ pressureMarks c p' ↔ (r = .massLow ∧ p' < c.pMin) ∨ (r = .massHigh ∧ c.pMin ≤ p' ∧ c.pMax < p') := by
  unfold pressureMarks
  split_ifs with hlo hhi
  · simp [hlo, Nat.not_le.2 hlo]
  · simp [hlo, hhi, Nat.not_lt.1 hlo]
  · simp [hlo, hhi]

theorem mem_rateMarks (c : CavernInput) (p p' : Nat) (r : Reason) :
    r ∈ rateMarks c p p' ↔ r = .rate ∧ c.rateLimit < max p p' - min p p' := by
  unfold rateMarks
  split_ifs with h <;> simp [h]

theorem pressureMarks_cases (c : CavernInput) (p' : Nat) :
    pressureMarks c p' = [] ∨ pressureMarks c p' = [.massLow] ∨ pressureMarks c p' = [.massHigh] := by
  unfold pressureMarks
  split_ifs <;> simp

theorem rateMarks_cases (c : CavernInput) (p p' : Nat) : rateMarks c p p' = [] ∨ rateMarks c p p' = [.rate] := by
  unfold rateMarks
  split_ifs <;> simp

/-- Of one cavern RATE comes last, and after a pressure mark nothing but RATE (R44). -/
theorem marks_order {c : CavernInput} {p p' : Nat} {r : Reason} {rest : List Reason}
    (h : pressureMarks c p' ++ rateMarks c p p' = r :: rest) :
    (r = .rate → rest = []) ∧ (r ≠ .rate → rest = [] ∨ rest = [.rate]) := by
  have hrate := rateMarks_cases c p p'
  rcases pressureMarks_cases c p' with hp | hp | hp
  · rcases hrate with hr | hr <;> simp_all
  · obtain ⟨rfl, rfl⟩ := List.cons.inj (hp ▸ h)
    exact ⟨nofun, fun _ => hrate⟩
  · obtain ⟨rfl, rfl⟩ := List.cons.inj (hp ▸ h)
    exact ⟨nofun, fun _ => hrate⟩

/-! ### The marks of a slot -/

/-- A reason that is no cavern's, marked where its condition holds (R36). -/
def markIf (p : Prop) [Decidable p] (r : Reason) : List (Reason × Nat) := if p then [(r, 0)] else []

theorem mem_markIf {p : Prop} [Decidable p] {r : Reason} {x : Reason × Nat} : x ∈ markIf p r ↔ p ∧ x = (r, 0) := by
  unfold markIf
  split_ifs with h <;> simp [h]

/-- The marks of a slot that are no cavern's, in stage order (R36). -/
def slotMarks (copy : RunCopy) (k : Nat) (n : Int) (c : Carry) : List (Reason × Nat) :=
  markIf (gridFails copy n) .grid ++ markIf (capacityFails copy k n) .capacity
    ++ markIf (changeoverFails copy.changeoverGap c.ref c.zeros n) .changeover
    ++ markIf (heatStage copy c.heat (saturated n)).2.1 .heatShort
    ++ markIf (totalWeight copy.caverns = 0 ∧ n ≠ 0) .noCavern

/-- The marks of one cavern, each with the cavern's number (R36, R44). -/
def cavernMarks (cav : Vector CavernInput 4) (masses masses' : Fin 4 → Nat) (i : Fin 4) : List (Reason × Nat) :=
  if cav[i].eligible then (cavernFailures cav[i] (masses i) (masses' i)).map fun r => (r, i.val + 1) else []

theorem slotFailures_eq (copy : RunCopy) (k : Nat) (n : Int) (c : Carry) (masses : Vector Nat 4) :
    slotFailures copy k n c masses = slotMarks copy k n c
      ++ (List.finRange 4).flatMap (cavernMarks copy.caverns (fun i => c.masses[i]) fun i => masses[i]) := rfl

theorem snd_of_mem_slotMarks {copy : RunCopy} {k : Nat} {n : Int} {c : Carry} {x : Reason × Nat}
    (h : x ∈ slotMarks copy k n c) : x.2 = 0 := by
  simp only [slotMarks, List.mem_append, mem_markIf] at h
  obtain (((⟨-, rfl⟩ | ⟨-, rfl⟩) | ⟨-, rfl⟩) | ⟨-, rfl⟩) | ⟨-, rfl⟩ := h <;> rfl

theorem mem_cavernMarks {cav : Vector CavernInput 4} {masses masses' : Fin 4 → Nat} {i : Fin 4} {x : Reason × Nat} :
    x ∈ cavernMarks cav masses masses' i ↔
      cav[i].takesPart ∧ x.1 ∈ cavernFailures cav[i] (masses i) (masses' i) ∧ x.2 = i.val + 1 := by
  obtain ⟨r, j⟩ := x
  rw [← eligible_iff, cavernMarks]
  by_cases he : cav[i].eligible = true
  · simp only [he, if_true, List.mem_map, Prod.mk.injEq, true_and]
    constructor
    · rintro ⟨a, ha, rfl, rfl⟩
      exact ⟨ha, rfl⟩
    · rintro ⟨ha, rfl⟩
      exact ⟨r, ha, rfl, rfl⟩
  · simp [he, -Fin.getElem_fin]

/-- A slot is marked NO_CAVERN exactly where no cavern has weight and the net power is not 0 (R43). -/
theorem noCavern_mem_slotFailures (copy : RunCopy) (k : Nat) (n : Int) (c : Carry) (masses : Vector Nat 4) :
    (.noCavern, 0) ∈ slotFailures copy k n c masses ↔ totalWeight copy.caverns = 0 ∧ n ≠ 0 := by
  have hnot : ∀ i, (Reason.noCavern, 0) ∉ cavernMarks copy.caverns (fun i => c.masses[i]) (fun i => masses[i]) i := by
    intro i h
    obtain ⟨-, -, hi⟩ := mem_cavernMarks.1 h
    simp at hi
  have hmarks : (.noCavern, 0) ∈ slotMarks copy k n c ↔ totalWeight copy.caverns = 0 ∧ n ≠ 0 := by
    simp [slotMarks, mem_markIf]
  rw [slotFailures_eq, List.mem_append, hmarks, List.mem_flatMap]
  simp only [hnot, and_false, exists_false, or_false]

/-- A cavern's failures are among the marks of the slot, with its number (R36). -/
theorem cavern_mem_slotFailures (copy : RunCopy) (k : Nat) (n : Int) (c : Carry) (masses : Vector Nat 4) (r : Reason)
    (i : Fin 4) : (r, i.val + 1) ∈ slotFailures copy k n c masses ↔
      copy.caverns[i].takesPart ∧ r ∈ cavernFailures copy.caverns[i] c.masses[i] masses[i] := by
  have hnot : (r, i.val + 1) ∉ slotMarks copy k n c := fun h => by simpa using snd_of_mem_slotMarks h
  simp only [slotFailures_eq, List.mem_append, hnot, false_or, List.mem_flatMap, List.mem_finRange, true_and,
    mem_cavernMarks]
  constructor
  · rintro ⟨j, hj, hr, hij⟩
    obtain rfl : i = j := Fin.ext (by omega)
    exact ⟨hj, hr⟩
  · rintro ⟨hi, hr⟩
    exact ⟨i, hi, hr, rfl⟩

/-- What a concatenation begins with is what the first list that is not empty begins with. -/
theorem flatMap_eq_cons {α β : Type} {f : α → List β} {l : List α} {x : β} {rest : List β} (h : l.flatMap f = x :: rest) :
    ∃ l₁ a l₂ rest', l = l₁ ++ a :: l₂ ∧ (∀ b ∈ l₁, f b = []) ∧ f a = x :: rest' := by
  induction l with
  | nil => simp at h
  | cons a l ih =>
    rw [List.flatMap_cons] at h
    cases ha : f a with
    | nil =>
      rw [ha, List.nil_append] at h
      obtain ⟨l₁, a', l₂, rest', rfl, hempty, hfirst⟩ := ih h
      refine ⟨a :: l₁, a', l₂, rest', rfl, fun b hb => ?_, hfirst⟩
      rcases List.mem_cons.1 hb with rfl | hb
      · exact ha
      · exact hempty b hb
    | cons y rest' =>
      rw [ha, List.cons_append] at h
      obtain ⟨rfl, -⟩ := List.cons.inj h
      exact ⟨[], a, l, rest', rfl, by simp, ha⟩

/-- A slot whose first mark is a cavern's takes that cavern's first failure, and no eligible cavern before it has one (R44). -/
theorem slotFailures_first_cavern {copy : RunCopy} {k : Nat} {n : Int} {c : Carry} {masses : Vector Nat 4} {r : Reason}
    {i : Fin 4} {rest : List (Reason × Nat)} (h : slotFailures copy k n c masses = (r, i.val + 1) :: rest) :
    (cavernFailures copy.caverns[i] c.masses[i] masses[i]).head? = some r ∧
      ∀ j : Fin 4, j < i → copy.caverns[j].takesPart → cavernFailures copy.caverns[j] c.masses[j] masses[j] = [] := by
  rw [slotFailures_eq] at h
  have hnone : slotMarks copy k n c = [] := by
    cases hm : slotMarks copy k n c with
    | nil => rfl
    | cons x l =>
      rw [hm, List.cons_append] at h
      obtain ⟨rfl, -⟩ := List.cons.inj h
      have := snd_of_mem_slotMarks (hm ▸ List.mem_cons_self)
      simp at this
  rw [hnone, List.nil_append] at h
  obtain ⟨l₁, a, l₂, rest', hsplit, hempty, hfirst⟩ := flatMap_eq_cons h
  obtain ⟨-, -, ha⟩ := mem_cavernMarks.1 (hfirst ▸ List.mem_cons_self :
    (r, i.val + 1) ∈ cavernMarks copy.caverns (fun i => c.masses[i]) (fun i => masses[i]) a)
  obtain rfl : i = a := Fin.ext (by simpa using ha)
  refine ⟨?_, fun j hj hpart => ?_⟩
  · rw [cavernMarks] at hfirst
    split at hfirst
    · obtain ⟨r', l, hl, hr', -⟩ := List.map_eq_cons_iff.1 hfirst
      obtain ⟨rfl, -⟩ := Prod.mk.inj hr'
      rw [hl]
      rfl
    · simp at hfirst
  · have hsorted := List.pairwise_lt_finRange 4
    rw [hsplit, List.pairwise_append] at hsorted
    obtain ⟨-, htail, -⟩ := hsorted
    have hmem : j ∈ l₁ ++ i :: l₂ := hsplit ▸ List.mem_finRange j
    have hjl : j ∈ l₁ := by
      rcases List.mem_append.1 hmem with hj' | hj'
      · exact hj'
      · rcases List.mem_cons.1 hj' with rfl | hj'
        · exact absurd hj (lt_irrefl _)
        · exact absurd hj (lt_asymm ((List.pairwise_cons.1 htail).1 j hj'))
    have := hempty j hjl
    rw [cavernMarks, if_pos ((eligible_iff _).2 hpart)] at this
    exact List.map_eq_nil_iff.1 this

/-- Settles O19: the shares, the end masses, the marks of one cavern and those of the slot. -/
theorem sharesSumToMassChange : Obligations.SharesSumToMassChange := by
  unfold Obligations.SharesSumToMassChange
  intro copy dM cav eligible W
  have hW : W = totalWeight cav := by
    rw [totalWeight_eq_sum, ← List.sum_ofFn, List.ofFn_eq_map]
    rfl
  have hfloors : ∀ m : Nat, ((List.finRange 4).map fun j : Fin 4 =>
      if cav[j].eligible then m * cav[j].weight / W else 0).sum = ∑ j : Fin 4, floorShare cav m j := by
    intro m
    rw [hW, Finset.sum_congr rfl fun j _ => floorShare_eq cav m j, ← List.sum_ofFn, List.ofFn_eq_map]
  have hfloor : ∀ (m : Nat) {i : Fin 4}, eligible i → floorShare cav m i = m * cav[i].weight / W := by
    intro m i hi
    rw [hW, floorShare_eq, if_pos ((eligible_iff _).2 hi)]
  refine ⟨fun i => eligible_iff cav[i], fun hpos => ⟨?_, fun i hi hlow => ?_, fun i hi hlow => ?_, signedShare_sign cav dM⟩,
    fun i m hi => endMass_of_not_takesPart hi dM m, fun k n c masses => ?_, fun i m hi => endMass_of_takesPart hi dM m,
    fun i m m' => ?_, fun k n c masses r i => ?_⟩
  · rw [← Fin.sum_univ_four]
    exact sum_signedShare cav (hW ▸ hpos) dM
  · have hnot : lowestEligible cav ≠ some i := fun h => by
      obtain ⟨-, hnone⟩ := (lowestEligible_iff cav i).1 h
      obtain ⟨j, hj, he⟩ := hlow
      exact hnone j hj he
    rw [signedShare_natAbs, shareOf_eq, if_neg hnot, hfloor _ hi, Nat.add_zero]
  · have hlowest : lowestEligible cav = some i := (lowestEligible_iff cav i).2 ⟨hi, hlow⟩
    rw [signedShare_natAbs, shareOf_eq, if_pos hlowest, hfloor _ hi, hfloors]
    rfl
  · rw [hW]
    exact noCavern_mem_slotFailures copy k n c masses
  · intro t held p p' marks
    refine ⟨fun hout => cavernFailures_outside ?_, fun hm hm' => ?_⟩
    · rw [holds_iff, holds_iff]
      exact hout
    · have hmarks : marks = pressureMarks cav[i] p' ++ rateMarks cav[i] p p' :=
        cavernFailures_inside ((holds_iff t m).2 hm) ((holds_iff t m').2 hm')
      refine ⟨?_, ?_, ?_, ?_, fun r rest hr => marks_order (hmarks ▸ hr)⟩
      all_goals
        rw [hmarks, List.mem_append, mem_pressureMarks, mem_rateMarks]
        simp
  · exact ⟨cavern_mem_slotFailures copy k n c masses r i, fun rest h => slotFailures_first_cavern h⟩

end Sys2Proof.Machine
end

section
/-! SUPPORT. The table of a run, slot by slot (R36 to R45). -/

namespace Sys2Proof.Machine

variable (copy : RunCopy)

/-! ### One slot -/

/-- The masses that slot `k` ends with (R43, R44). -/
def massesAfter (k : Nat) (c : Carry) : Vector Nat 4 :=
  Vector.ofFn fun i : Fin 4 => endMass copy.caverns (massChange copy (saturated (netPower copy k))) c.masses[i] i

/-- The reasons marked in slot `k` (R36). -/
def failuresAt (k : Nat) (c : Carry) : List (Reason × Nat) :=
  slotFailures copy k (netPower copy k) c (massesAfter copy k c)

section
variable (k : Nat) (c : Carry)

theorem runSlot_interval : (runSlot copy k c).1.interval = copy.interval + k := rfl
theorem runSlot_net : (runSlot copy k c).1.net = netPower copy k := rfl
theorem runSlot_chargeCap : (runSlot copy k c).1.chargeCap = chargeCapOf copy k := rfl
theorem runSlot_dischargeCap : (runSlot copy k c).1.dischargeCap = dischargeCapOf copy k := rfl
theorem runSlot_heat : (runSlot copy k c).1.heat = (heatStage copy c.heat (saturated (netPower copy k))).1 := rfl
theorem runSlot_dump : (runSlot copy k c).1.dump = (heatStage copy c.heat (saturated (netPower copy k))).2.2 := rfl
theorem runSlot_caverns : (runSlot copy k c).1.caverns = Vector.ofFn fun i : Fin 4 =>
    if copy.caverns[i].inService then
      some ⟨(massesAfter copy k c)[i], copy.caverns[i].table.recordedPressure (massesAfter copy k c)[i]⟩ else none := rfl
theorem runSlot_next_heat : (runSlot copy k c).2.heat = (runSlot copy k c).1.heat := rfl
theorem runSlot_next_zeros : (runSlot copy k c).2.zeros = if netPower copy k = 0 then c.zeros + 1 else 0 := rfl
theorem runSlot_next_ref : (runSlot copy k c).2.ref = (directionOfNet (netPower copy k)).or c.ref := by
  change (match directionOfNet (netPower copy k) with | some d => some d | none => c.ref) = _
  cases directionOfNet (netPower copy k) <;> rfl

end

section
variable {copy} {k : Nat} {c : Carry}

/-- The status and the failing cavern that marks give: those of the first, or OK and 0 (R36, R45). -/
def verdict : List (Reason × Nat) → SlotStatus × Nat
  | [] => (.ok, 0)
  | (r, i) :: _ => (.fail r, i)

theorem runSlot_verdict : ((runSlot copy k c).1.status, (runSlot copy k c).1.failCavern) = verdict (failuresAt copy k c) := by
  change (match failuresAt copy k c with | [] => (SlotStatus.ok, 0) | (r, i) :: _ => (SlotStatus.fail r, i)) = _
  cases failuresAt copy k c <;> rfl

/-- A slot in which no reason is marked is OK (R36). -/
theorem runSlot_of_noFailure (h : failuresAt copy k c = []) :
    (runSlot copy k c).1.status = .ok ∧ (runSlot copy k c).1.failCavern = 0 :=
  Prod.mk.inj (runSlot_verdict.trans (congrArg verdict h))

/-- A slot takes the first reason marked, with its cavern (R36). -/
theorem runSlot_of_failure {r : Reason} {i : Nat} {rest : List (Reason × Nat)} (h : failuresAt copy k c = (r, i) :: rest) :
    (runSlot copy k c).1.status = .fail r ∧ (runSlot copy k c).1.failCavern = i :=
  Prod.mk.inj (runSlot_verdict.trans (congrArg verdict h))

/-- A slot shows a reason exactly where that is the first marked (R36). -/
theorem runSlot_fail_iff (r : Reason) :
    (runSlot copy k c).1.status = .fail r ↔ ((failuresAt copy k c).head?.map Prod.fst) = some r := by
  cases h : failuresAt copy k c with
  | nil => simp [(runSlot_of_noFailure h).1]
  | cons x rest =>
    obtain ⟨r', i⟩ := x
    simp [(runSlot_of_failure h).1]

end

/-! ### What a slot begins from -/

/-- What slot `k` begins from (R36, R39). -/
def carryAt : Nat → Carry
  | 0 => Carry.start copy
  | k + 1 => (runSlot copy k (carryAt k)).2

theorem runSlots_getElem? (count k j : Nat) {sl : ProjSlot} (h : (runSlots copy k count (carryAt copy k))[j]? = some sl) :
    j < count ∧ sl = (runSlot copy (k + j) (carryAt copy (k + j))).1 := by
  induction count generalizing k j with
  | zero => simp [runSlots] at h
  | succ count ih =>
    cases j with
    | zero =>
      obtain rfl := Option.some.inj h
      exact ⟨Nat.succ_pos _, rfl⟩
    | succ j =>
      obtain ⟨hlt, hsl⟩ := ih (k + 1) j h
      exact ⟨Nat.succ_lt_succ hlt, by rw [hsl, Nat.add_right_comm, Nat.add_assoc]⟩

/-- Slot `k` of the table is slot `k` of the run (R36). -/
theorem runTable_getElem? {k : Nat} {sl : ProjSlot} (h : (runTable copy)[k]? = some sl) :
    sl = (runSlot copy k (carryAt copy k)).1 := by
  obtain ⟨-, hsl⟩ := runSlots_getElem? copy horizon 0 k h
  rwa [Nat.zero_add] at hsl

theorem runTable_length : (runTable copy).length = 288 := by
  simpa using congrArg List.length (tableNames_runTable copy)

/-- The content that a slot ends with lies below the capacity where that which it begins from does (R41). -/
theorem heatStage_le {h : Nat} (hh : h ≤ copy.capacity) (n : Int) : (heatStage copy h n).1 ≤ copy.capacity := by
  rcases Int.lt_trichotomy n 0 with hn | rfl | hn
  · rw [heatStage_discharge copy h hn]
    exact ((Nat.sub_le _ _).trans (Nat.sub_le _ _)).trans hh
  · exact (Nat.sub_le _ _).trans hh
  · rw [heatStage_charge copy h hn]
    exact Nat.min_le_left _ _

theorem carryAt_heat_le (k : Nat) : (carryAt copy k).heat ≤ copy.capacity := by
  induction k with
  | zero => exact Nat.min_le_right _ _
  | succ k ih =>
    rw [carryAt, runSlot_next_heat, runSlot_heat]
    exact heatStage_le copy ih _

/-- The mass that an eligible cavern begins slot `k + 1` with stands in the record of slot `k` (R43, R45). -/
theorem carryAt_mass_of_record (k : Nat) {i : Fin 4} (hs : copy.caverns[i].inService = true) :
    (runSlot copy k (carryAt copy k)).1.caverns[i]
      = some ⟨(carryAt copy (k + 1)).masses[i], copy.caverns[i].table.recordedPressure (carryAt copy (k + 1)).masses[i]⟩ := by
  rw [runSlot_caverns, Fin.getElem_fin, Vector.getElem_ofFn, if_pos hs]
  rfl

/-! ### The reference of stage 3 (R39) -/

theorem directionOfNet_eq_none {n : Int} : directionOfNet n = none ↔ n = 0 := by
  unfold directionOfNet
  split_ifs <;> simp <;> omega

/-- The last slot before `k` with a net power is `j`. -/
def lastMoving (k j : Nat) : Prop := j < k ∧ netPower copy j ≠ 0 ∧ ∀ m, j < m → m < k → netPower copy m = 0

/-- The reference of slot `k` and the zero slots since it: those of the last slot with a net power, or else the direction
(R39). -/
theorem carryAt_reference (k : Nat) :
    (∃ j, lastMoving copy k j ∧ (carryAt copy k).ref = directionOfNet (netPower copy j) ∧ (carryAt copy k).zeros = k - 1 - j) ∨
    ((∀ j, j < k → netPower copy j = 0) ∧ (carryAt copy k).ref = copy.direction ∧ (carryAt copy k).zeros = k) := by
  induction k with
  | zero => exact .inr ⟨nofun, rfl, rfl⟩
  | succ k ih =>
    have href : (carryAt copy (k + 1)).ref = (directionOfNet (netPower copy k)).or (carryAt copy k).ref :=
      runSlot_next_ref copy k _
    have hzeros : (carryAt copy (k + 1)).zeros = if netPower copy k = 0 then (carryAt copy k).zeros + 1 else 0 :=
      runSlot_next_zeros copy k _
    by_cases hn : netPower copy k = 0
    · rw [directionOfNet_eq_none.2 hn, Option.none_or] at href
      rw [if_pos hn] at hzeros
      rcases ih with ⟨j, ⟨hjk, hj, hbetween⟩, hr, hz⟩ | ⟨hall, hr, hz⟩
      · refine .inl ⟨j, ⟨Nat.lt_succ_of_lt hjk, hj, fun m hjm hm => ?_⟩, href.trans hr, by omega⟩
        rcases Nat.lt_succ_iff_lt_or_eq.1 hm with hlt | rfl
        · exact hbetween m hjm hlt
        · exact hn
      · refine .inr ⟨fun j hj => ?_, href.trans hr, by omega⟩
        rcases Nat.lt_succ_iff_lt_or_eq.1 hj with hlt | rfl
        · exact hall j hlt
        · exact hn
    · rw [if_neg hn] at hzeros
      refine .inl ⟨k, ⟨Nat.lt_succ_self k, hn, fun m hkm hm => by omega⟩, ?_, by omega⟩
      obtain ⟨d, hd⟩ := Option.ne_none_iff_exists'.1 (mt directionOfNet_eq_none.1 hn)
      rw [href, hd, Option.some_or]

/-- Slot `k` turns against the last slot before it with a net power, or with none against the direction, too soon (R39). -/
def opposed (k : Nat) : Prop :=
  (∃ j, j < k ∧ netPower copy j ≠ 0 ∧ (∀ m, j < m → m < k → netPower copy m = 0) ∧
    netPower copy j * netPower copy k < 0 ∧ k - 1 - j < copy.changeoverGap) ∨
  ((∀ j, j < k → netPower copy j = 0) ∧ k < copy.changeoverGap ∧
    ((copy.direction = some .charge ∧ netPower copy k < 0) ∨ (copy.direction = some .discharge ∧ 0 < netPower copy k)))

/-- A net power fails against a reference of the other direction that is too near (R39). -/
theorem changeoverFails_iff (gap : Nat) (ref : Option Direction) (zeros : Nat) (n : Int) :
    changeoverFails gap ref zeros n = true ↔
      zeros < gap ∧ ((ref = some .charge ∧ n < 0) ∨ (ref = some .discharge ∧ 0 < n)) := by
  unfold changeoverFails directionOfNet
  rcases Int.lt_trichotomy n 0 with hn | rfl | hn
  · have hpos : ¬0 < n := by omega
    cases ref with
    | none => simp
    | some d => cases d <;> simp [hn, hpos]
  · cases ref <;> simp
  · have hneg : ¬n < 0 := by omega
    cases ref with
    | none => simp
    | some d => cases d <;> simp [hn, hneg]

/-- Against the direction of a net power, a net power fails by the sign of their product (R39). -/
theorem opposite_iff (m n : Int) :
    ((directionOfNet m = some .charge ∧ n < 0) ∨ (directionOfNet m = some .discharge ∧ 0 < n)) ↔ m * n < 0 := by
  rw [mul_neg_iff]
  unfold directionOfNet
  rcases Int.lt_trichotomy m 0 with hm | rfl | hm
  · have hpos : ¬0 < m := by omega
    simp [hm, hpos]
  · simp
  · have hneg : ¬m < 0 := by omega
    simp [hm, hneg]

/-- There is one last slot with a net power. -/
theorem lastMoving_unique {k j j' : Nat} (h : lastMoving copy k j) (h' : lastMoving copy k j') : j = j' := by
  obtain ⟨hj, hn, hz⟩ := h
  obtain ⟨hj', hn', hz'⟩ := h'
  rcases Nat.lt_trichotomy j j' with hlt | heq | hgt
  · exact absurd (hz j' hlt hj') hn'
  · exact heq
  · exact absurd (hz' j hgt hj) hn

/-- Stage 3 fails exactly in a slot that turns too soon (R39). -/
theorem changeoverFails_carryAt_iff (k : Nat) :
    changeoverFails copy.changeoverGap (carryAt copy k).ref (carryAt copy k).zeros (netPower copy k) = true
      ↔ opposed copy k := by
  rw [changeoverFails_iff, opposed]
  rcases carryAt_reference copy k with ⟨j, hj, href, hzeros⟩ | ⟨hall, href, hzeros⟩
  · rw [href, hzeros, opposite_iff]
    constructor
    · rintro ⟨hgap, hprod⟩
      obtain ⟨hjk, hn, hz⟩ := hj
      exact .inl ⟨j, hjk, hn, hz, hprod, hgap⟩
    · rintro (⟨j', hjk, hn, hz, hprod, hgap⟩ | ⟨hall, -⟩)
      · obtain rfl := lastMoving_unique copy hj ⟨hjk, hn, hz⟩
        exact ⟨hgap, hprod⟩
      · obtain ⟨hjk, hn, -⟩ := hj
        exact absurd (hall j hjk) hn
  · rw [href, hzeros]
    constructor
    · rintro ⟨hgap, hdir⟩
      exact .inr ⟨hall, hgap, hdir⟩
    · rintro (⟨j, hjk, hn, -⟩ | ⟨-, hgap, hdir⟩)
      · exact absurd (hall j hjk) hn
      · exact ⟨hgap, hdir⟩

end Sys2Proof.Machine
end

section
/-! SUPPORT. The first reason marked in a slot of a run (R36 to R45). -/

namespace Sys2Proof.Machine

variable (copy : RunCopy)

/-! ### The conditions of the first stages -/

theorem gridFails_iff (n : Int) :
    gridFails copy n = true ↔ (copy.importLimit : Int) < n ∨ (copy.exportLimit : Int) < -n := by simp [gridFails]

theorem capacityFails_iff (k : Nat) (n : Int) :
    capacityFails copy k n = true ↔
      (0 < n ∧ (chargeCapOf copy k : Int) < n) ∨ (n < 0 ∧ (dischargeCapOf copy k : Int) < -n) := by
  simp [capacityFails]

theorem totalWeight_eq_zero_iff (cav : Vector CavernInput 4) :
    totalWeight cav = 0 ↔ ∀ i : Fin 4, cav[i].eligible = false := by
  rw [totalWeight_eq_sum, Finset.sum_eq_zero_iff]
  refine ⟨fun h i => ?_, fun h i _ => if_neg (by rw [h i]; exact Bool.false_ne_true)⟩
  rw [not_eligible_iff]
  intro hpart
  have hzero : cav[i].part = 0 := h i (Finset.mem_univ i)
  rw [CavernInput.part, if_pos ((eligible_iff _).2 hpart)] at hzero
  obtain ⟨-, hw, -⟩ := hpart
  omega

/-! ### The first reason -/

/-- The marks of the stages after the third (R36). -/
def laterMarks (k : Nat) (c : Carry) : List (Reason × Nat) :=
  markIf (heatStage copy c.heat (saturated (netPower copy k))).2.1 .heatShort
    ++ (markIf (totalWeight copy.caverns = 0 ∧ netPower copy k ≠ 0) .noCavern
      ++ (List.finRange 4).flatMap
        (cavernMarks copy.caverns (fun i => c.masses[i]) fun i => (massesAfter copy k c)[i]))

theorem failuresAt_eq (k : Nat) (c : Carry) :
    failuresAt copy k c = markIf (gridFails copy (netPower copy k)) .grid
      ++ (markIf (capacityFails copy k (netPower copy k)) .capacity
        ++ (markIf (changeoverFails copy.changeoverGap c.ref c.zeros (netPower copy k)) .changeover
          ++ laterMarks copy k c)) := by
  rw [failuresAt, slotFailures_eq, slotMarks, laterMarks]
  simp only [List.append_assoc]

theorem mem_cavernFailures {c : CavernInput} {m m' : Nat} {r : Reason} (h : r ∈ cavernFailures c m m') :
    r = .tableRange ∨ r = .massLow ∨ r = .massHigh ∨ r = .rate := by
  by_cases hin : c.table.holds m = true ∧ c.table.holds m' = true
  · rw [cavernFailures_inside hin.1 hin.2, List.mem_append, mem_pressureMarks, mem_rateMarks] at h
    tauto
  · rw [cavernFailures_outside hin] at h
    exact .inl (List.mem_singleton.1 h)

/-- The later stages mark none of the first three reasons, and no slot is marked LATE (R10, R36). -/
theorem fst_of_mem_laterMarks {k : Nat} {c : Carry} {x : Reason × Nat} (h : x ∈ laterMarks copy k c) :
    x.1 ≠ .grid ∧ x.1 ≠ .capacity ∧ x.1 ≠ .changeover ∧ x.1 ≠ .late := by
  simp only [laterMarks, List.mem_append, mem_markIf, List.mem_flatMap, mem_cavernMarks] at h
  obtain ⟨-, rfl⟩ | ⟨-, rfl⟩ | ⟨i, -, -, hr, -⟩ := h
  · simp
  · simp
  · obtain hr | hr | hr | hr := mem_cavernFailures hr <;> simp [hr]

/-- The first reason marked, stage by stage (R36). -/
theorem firstReason_eq (k : Nat) (c : Carry) :
    (failuresAt copy k c).head?.map Prod.fst =
      if gridFails copy (netPower copy k) then some .grid
      else if capacityFails copy k (netPower copy k) then some .capacity
      else if changeoverFails copy.changeoverGap c.ref c.zeros (netPower copy k) then some .changeover
      else (laterMarks copy k c).head?.map Prod.fst := by
  rw [failuresAt_eq]
  simp only [markIf]
  split_ifs <;> rfl

/-- The first reason of the later stages is none of the first three, nor LATE. -/
theorem laterReason_ne {k : Nat} {c : Carry} {r : Reason} (h : (laterMarks copy k c).head?.map Prod.fst = some r) :
    r ≠ .grid ∧ r ≠ .capacity ∧ r ≠ .changeover ∧ r ≠ .late := by
  obtain ⟨x, hx, rfl⟩ := Option.map_eq_some_iff.1 h
  exact fst_of_mem_laterMarks copy (List.mem_of_head? hx)

section
variable (k : Nat) (c : Carry)

theorem firstReason_grid_iff :
    (failuresAt copy k c).head?.map Prod.fst = some .grid ↔ gridFails copy (netPower copy k) = true := by
  have hlater := @laterReason_ne copy k c .grid
  rw [firstReason_eq]
  split_ifs with hg hc hs <;> simp_all

theorem firstReason_capacity_iff :
    (failuresAt copy k c).head?.map Prod.fst = some .capacity ↔
      ¬gridFails copy (netPower copy k) = true ∧ capacityFails copy k (netPower copy k) = true := by
  have hlater := @laterReason_ne copy k c .capacity
  rw [firstReason_eq]
  split_ifs with hg hc hs <;> simp_all

theorem firstReason_changeover_iff :
    (failuresAt copy k c).head?.map Prod.fst = some .changeover ↔
      ¬gridFails copy (netPower copy k) = true ∧ ¬capacityFails copy k (netPower copy k) = true ∧
        changeoverFails copy.changeoverGap c.ref c.zeros (netPower copy k) = true := by
  have hlater := @laterReason_ne copy k c .changeover
  rw [firstReason_eq]
  split_ifs with hg hc hs <;> simp_all

theorem firstReason_ne_late : (failuresAt copy k c).head?.map Prod.fst ≠ some .late := by
  have hlater := @laterReason_ne copy k c .late
  rw [firstReason_eq]
  split_ifs with hg hc hs <;> simp_all

end

/-- A slot of a run has a status, which is OK or a failure (R36). -/
theorem runSlot_status_ne_none (k : Nat) (c : Carry) : (runSlot copy k c).1.status ≠ .noStatus := by
  cases h : failuresAt copy k c with
  | nil => simp [(runSlot_of_noFailure h).1]
  | cons x rest => simp [(runSlot_of_failure (r := x.1) (i := x.2) h).1]

/-- An OK slot names no cavern (R45). -/
theorem runSlot_failCavern_of_ok {k : Nat} {c : Carry} (h : (runSlot copy k c).1.status = .ok) :
    (runSlot copy k c).1.failCavern = 0 := by
  cases hf : failuresAt copy k c with
  | nil => exact (runSlot_of_noFailure hf).2
  | cons x rest => simp [(runSlot_of_failure (r := x.1) (i := x.2) hf).1] at h

/-- The failures of the eligible caverns depend on the masses of those alone. -/
theorem cavernMarks_congr {cav : Vector CavernInput 4} {mass mass' after after' : Fin 4 → Nat}
    (h : ∀ i : Fin 4, cav[i].eligible = true → mass i = mass' i ∧ after i = after' i) (i : Fin 4) :
    cavernMarks cav mass after i = cavernMarks cav mass' after' i := by
  unfold cavernMarks
  split
  · rename_i he
    obtain ⟨hm, ha⟩ := h i he
    rw [hm, ha]
  · rfl

theorem inService_of_eligible {c : CavernInput} (h : c.eligible = true) : c.inService = true := ((eligible_iff c).1 h).1

/-- Settles O18: slot `k` of the table is slot `k` of the run, begun from `carryAt copy k`. -/
theorem runRecordsEverySlot : Obligations.RunRecordsEverySlot := by
  unfold Obligations.RunRecordsEverySlot
  intro copy
  refine ⟨runTable_length copy, fun k sl hsl => ?_⟩
  intro n grid beyond opp moved dM judged
  obtain rfl := runTable_getElem? copy hsl
  set c := carryAt copy k with hc
  have hgrid : gridFails copy (netPower copy k) = true ↔ grid := gridFails_iff copy _
  have hbeyond : capacityFails copy k (netPower copy k) = true ↔ beyond := capacityFails_iff copy k _
  have hopp : changeoverFails copy.changeoverGap c.ref c.zeros (netPower copy k) = true ↔ opp :=
    changeoverFails_carryAt_iff copy k
  have hafter : ∀ i : Fin 4, (massesAfter copy k c)[i] = endMass copy.caverns dM c.masses[i] i := fun i =>
    Vector.getElem_ofFn i.isLt
  have hjudged : ∀ (heat : Nat) (mass : Fin 4 → Nat), heat = c.heat →
      (∀ i : Fin 4, copy.caverns[i].inService = true → mass i = c.masses[i]) → judged heat mass := by
    rintro heat mass rfl hmass
    refine ⟨changeoverFails copy.changeoverGap c.ref c.zeros (netPower copy k), hopp, ?_⟩
    intro marks
    have hmarks : marks = failuresAt copy k c := by
      rw [failuresAt, slotFailures_eq]
      refine congrArg₂ _ (congrArg₂ _ (congrArg₂ _ (congrArg₂ _ (congrArg₂ _ ?_ ?_) rfl) rfl) ?_) ?_
      · exact if_congr hgrid.symm rfl rfl
      · exact if_congr hbeyond.symm rfl rfl
      · exact if_congr (and_congr_left' (totalWeight_eq_zero_iff _).symm) rfl rfl
      · refine congrArg (fun f => List.flatMap f (List.finRange 4)) (funext fun i => ?_)
        refine cavernMarks_congr (after := fun i => endMass copy.caverns dM (mass i) i) (fun i he => ?_) i
        have hm := hmass i (inService_of_eligible he)
        exact ⟨hm, by simp only [hafter, hm]⟩
    exact ⟨fun h => runSlot_of_noFailure (hmarks ▸ h), fun r cavern rest h => runSlot_of_failure (hmarks ▸ h)⟩
  have hstart : k = 0 → c = Carry.start copy := by
    rintro rfl
    rfl
  have hprev : ∀ before, 0 < k → (runTable copy)[k - 1]? = some before → before.heat = c.heat ∧
      ∀ i : Fin 4, copy.caverns[i].inService = true → before.caverns[i].map CavernEnd.mass = some c.masses[i] := by
    intro before hk hbefore
    obtain ⟨j, rfl⟩ := Nat.exists_eq_succ_of_ne_zero (Nat.ne_of_gt hk)
    obtain rfl := runTable_getElem? copy hbefore
    exact ⟨rfl, fun i hs => by rw [Nat.succ_sub_one, carryAt_mass_of_record copy j hs]; rfl⟩
  refine ⟨fun hk => ?_, fun before hk hb => ?_, runSlot_interval copy k c, runSlot_net copy k c, runSlot_chargeCap copy k c,
    runSlot_dischargeCap copy k c, ?_, ?_, ?_, fun hk => ?_, fun before hk hb => ?_,
    fun i => ⟨fun hs => ?_, fun hs => ⟨fun hk => ?_, fun before e hk hb he => ?_⟩, fun e he => ?_⟩,
    runSlot_status_ne_none copy k c, ?_, ?_, runSlot_failCavern_of_ok copy⟩
  · exact hjudged _ _ (by rw [hstart hk]; rfl) fun i _ => by rw [hstart hk]; simp [Carry.start]
  · obtain ⟨hheat, hmass⟩ := hprev before hk hb
    refine hjudged _ _ hheat fun i hs => ?_
    obtain ⟨e, he, hm⟩ := Option.map_eq_some_iff.1 (hmass i hs)
    rw [he]
    exact hm
  · exact (runSlot_fail_iff _).trans ((firstReason_grid_iff copy k c).trans hgrid)
  · rw [runSlot_fail_iff, firstReason_capacity_iff, hgrid, hbeyond]
  · rw [runSlot_fail_iff, firstReason_changeover_iff, hgrid, hbeyond, hopp]
  · rw [runSlot_heat, runSlot_dump, hstart hk]
    rfl
  · obtain ⟨hheat, -⟩ := hprev before hk hb
    rw [runSlot_heat, runSlot_dump, hheat]
    rfl
  · rw [runSlot_caverns, Fin.getElem_fin, Vector.getElem_ofFn]
    exact if_neg (by rw [hs]; exact Bool.false_ne_true)
  · rw [carryAt_mass_of_record copy k hs, Option.map_some]
    refine congrArg some ((hafter i).trans ?_)
    rw [hstart hk]
    simp [Carry.start]
  · obtain ⟨-, hmass⟩ := hprev before hk hb
    have hm := hmass i hs
    rw [he, Option.map_some] at hm
    rw [carryAt_mass_of_record copy k hs, Option.map_some, Option.some.inj hm]
    exact congrArg some (hafter i)
  · rw [runSlot_caverns, Fin.getElem_fin, Vector.getElem_ofFn] at he
    split at he
    · obtain rfl := Option.some.inj he
      rfl
    · simp at he
  · rw [ne_eq, runSlot_fail_iff]
    exact firstReason_ne_late copy k c
  · exact carryAt_heat_le copy (k + 1)

end Sys2Proof.Machine
end

section
/-! SUPPORT. The invariants of the admission queue, the directions, the setpoints and the live table at reset (R28, R54, R128,
R132). -/

namespace Sys2Proof.Machine

/-! ### The reset state, field by field -/

theorem reset_lookup (key : Nat) : State.reset.lookup key = none := by
  have hbook : State.reset.book[slotOfKey key] = ⟨0, none⟩ := emptyBook_slot _
  simp [State.lookup, hbook]

theorem reset_train_state (i : Fin 8) : State.reset.trains[i].state = .absent := by
  have h : State.reset.trains[i] = .cleared := Vector.getElem_replicate i.isLt
  rw [h]
  rfl

theorem reset_setpoint (i : Fin 8) : State.reset.disp.setpoints[i] = none := Vector.getElem_replicate i.isLt

theorem reset_poll (i : Fin 8) : State.reset.link.polls[i] = none := Vector.getElem_replicate i.isLt

/-- No entry stands in a given state other than ABSENT at reset. -/
theorem reset_isIn (kind : TrainKind) {st : TrainState} (h : st ≠ .absent) (i : Fin 8) :
    isIn State.reset kind st i = false := by
  rw [← Bool.not_eq_true, isIn_iff, reset_train_state]
  exact fun hst => h hst.2.symm

theorem reset_not_isUp (i : Fin 8) : ¬isUp State.reset i := by
  rw [isUp, reset_train_state]
  simp

theorem reset_ratings : ratingsSound State.reset.cfg.trains := by
  unfold ratingsSound
  decide

/-! ### The invariants -/

theorem queueSound_reset : QueueSound State.reset where
  bounded := Nat.zero_le _
  distinct := List.nodup_nil
  subject run h := nomatch h
  exact key kind := by
    have hitems : itemsHeld State.reset = [] := rfl
    rw [hitems, reset_lookup]
    simp
  amendable key r h := by simp [reset_lookup] at h

theorem directionsSound_reset : DirectionsSound State.reset where
  unopposed i _ hi := absurd hi (reset_not_isUp i)
  unconfigured i _ := reset_train_state i
  polled i h := by simp [reset_poll, -Fin.getElem_fin] at h
  inFlight t i h := nomatch h

theorem setpointsSound_reset : SetpointsSound State.reset where
  placed i sp h := by simp [reset_setpoint, -Fin.getElem_fin] at h
  starting i sp h := by simp [reset_setpoint, -Fin.getElem_fin] at h
  inBand i sp h := by simp [reset_setpoint, -Fin.getElem_fin] at h
  withinGrid kind := by
    have hnone : heldOfKind State.reset kind = 0 := by simp [heldOfKind, reset_isIn]
    rw [hnone]
    exact Nat.zero_le _
  unconfigured i _ := reset_train_state i
  polled i h := by simp [reset_poll, -Fin.getElem_fin] at h
  inFlight t i h := nomatch h
  ratings := reset_ratings
  saving c h := nomatch h
  image c h := nomatch h

theorem tableSound_reset : TableSound State.reset := tableSound_of_noTables rfl rfl rfl

/-- Settles O60. -/
theorem invariantsHoldAtReset : Obligations.InvariantsHoldAtReset :=
  ⟨queueSound_reset, directionsSound_reset, setpointsSound_reset, tableSound_reset⟩

end Sys2Proof.Machine
end

section
/-! SUPPORT. The forward and the inverse map of a cavern's table (R64, R65, R79): the segment of a mass and of a pressure, and
the bounds that a table which never decreases gives. -/

namespace Sys2Proof.Machine

/-- The pressures of a table never decrease (R63). -/
def MassTable.Rising (t : MassTable) : Prop := ∀ k : Fin 16, t.p[k.castSucc] ≤ t.p[k.succ]

section Maps
variable {t : MassTable}

theorem MassTable.Rising.node_le (hr : t.Rising) {j k : Fin 17} (hjk : j ≤ k) : t.p[j] ≤ t.p[k] :=
  (Fin.monotone_iff_le_succ (f := fun k : Fin 17 => t.p[k])).2 hr hjk

/-! ### The forward map P(m) (R64) -/

theorem segment_eq_of_val {m : Nat} {i : Fin 16} (hi : i.val = min 15 ((m - t.m0) / t.step)) : t.segment m = i :=
  Fin.ext hi.symm

/-- A mass in the range lies no further than the ends of its segment (R64). -/
theorem segment_span (hs : 1 ≤ t.step) {m : Nat} (hm : m ≤ t.m0 + 16 * t.step) :
    (t.segment m).val * t.step ≤ m - t.m0 ∧ m - t.m0 ≤ (t.segment m).val * t.step + t.step := by
  have hval : (t.segment m).val = min 15 ((m - t.m0) / t.step) := rfl
  have hlow := Nat.div_mul_le_self (m - t.m0) t.step
  have hhigh := Nat.lt_div_mul_add (a := m - t.m0) (b := t.step) hs
  by_cases hq : (m - t.m0) / t.step ≤ 15
  · rw [hval, Nat.min_eq_right hq]
    exact ⟨hlow, hhigh.le⟩
  · have hq' : 16 * t.step ≤ (m - t.m0) / t.step * t.step := Nat.mul_le_mul_right _ (by omega)
    rw [hval, Nat.min_eq_left (by omega)]
    omega

/-- A greater mass lies in no lower a segment (R64). -/
theorem segment_mono {m m' : Nat} (h : m ≤ m') : t.segment m ≤ t.segment m' := by
  have hq : (m - t.m0) / t.step ≤ (m' - t.m0) / t.step := Nat.div_le_div_right (by omega)
  exact Fin.mk_le_mk.2 (by omega)

/-- A mass that stands less than a step above the foot of a segment lies in that segment (R64). -/
theorem segment_of_offset (i : Fin 16) {f : Nat} (hf : f < t.step) : t.segment (t.m0 + i.val * t.step + f) = i := by
  refine segment_eq_of_val ?_
  have hq : (t.m0 + i.val * t.step + f - t.m0) / t.step = i.val := by
    rw [show t.m0 + i.val * t.step + f - t.m0 = f + i.val * t.step by omega, Nat.add_mul_div_right _ _ (by omega),
      Nat.div_eq_of_lt hf, Nat.zero_add]
  have := i.isLt
  omega

theorem segment_top (hs : 1 ≤ t.step) : t.segment (t.m0 + 16 * t.step) = 15 := by
  refine segment_eq_of_val ?_
  rw [Nat.add_sub_cancel_left, Nat.mul_div_cancel _ hs]
  rfl

/-- P(m) from the segment of m (R64). -/
theorem pressure_of_segment {m : Nat} {i : Fin 16} (h : t.segment m = i) :
    t.pressure m = t.p[i.castSucc] + (t.p[i.succ] - t.p[i.castSucc]) * (m - t.m0 - i.val * t.step) / t.step := by
  subst h
  rfl

/-- P(m) lies between the pressures at the ends of m's segment (R64). -/
theorem pressure_between (hs : 1 ≤ t.step) (hr : t.Rising) {m : Nat} (hm : m ≤ t.m0 + 16 * t.step) :
    t.p[(t.segment m).castSucc] ≤ t.pressure m ∧ t.pressure m ≤ t.p[(t.segment m).succ] := by
  obtain ⟨i, hi⟩ : ∃ i, t.segment m = i := ⟨_, rfl⟩
  have hrise := hr i
  have hspan := segment_span hs hm
  rw [pressure_of_segment hi]
  simp only [hi] at hspan ⊢
  have hpart : (t.p[i.succ] - t.p[i.castSucc]) * (m - t.m0 - i.val * t.step) / t.step ≤ t.p[i.succ] - t.p[i.castSucc] :=
    Nat.div_le_of_le_mul (by rw [Nat.mul_comm]; exact Nat.mul_le_mul_right _ (by omega))
  exact ⟨Nat.le_add_right _ _, (Nat.add_le_add_left hpart _).trans (Nat.add_sub_cancel' hrise).le⟩

theorem pressure_top (hs : 1 ≤ t.step) (hr : t.Rising) : t.pressure (t.m0 + 16 * t.step) = t.p[16] := by
  have hrise := hr 15
  rw [pressure_of_segment (segment_top hs)]
  have hf : t.m0 + 16 * t.step - t.m0 - (15 : Fin 16).val * t.step = t.step := by
    change t.m0 + 16 * t.step - t.m0 - 15 * t.step = t.step
    omega
  rw [hf, Nat.mul_div_cancel _ hs]
  exact Nat.add_sub_cancel' hrise

theorem pressure_mono (hs : 1 ≤ t.step) (hr : t.Rising) {m m' : Nat} (h : m ≤ m') (hm' : m' ≤ t.m0 + 16 * t.step) :
    t.pressure m ≤ t.pressure m' := by
  rcases (segment_mono (t := t) h).eq_or_lt with heq | hlt
  · rw [pressure_of_segment heq, pressure_of_segment rfl]
    exact Nat.add_le_add_left (Nat.div_le_div_right (Nat.mul_le_mul_left _ (by omega))) _
  · calc t.pressure m ≤ t.p[(t.segment m).succ] := (pressure_between hs hr (h.trans hm')).2
      _ ≤ t.p[(t.segment m').castSucc] := hr.node_le (Fin.succ_le_castSucc_iff.2 hlt)
      _ ≤ t.pressure m' := (pressure_between hs hr hm').1

theorem pressure_bounds (hs : 1 ≤ t.step) (hr : t.Rising) {m : Nat} (hm : m ≤ t.m0 + 16 * t.step) :
    t.p[0] ≤ t.pressure m ∧ t.pressure m ≤ t.p[16] :=
  have hb := pressure_between hs hr hm
  ⟨(hr.node_le (Fin.zero_le _)).trans hb.1, hb.2.trans (hr.node_le (Fin.le_last _))⟩

/-! ### The inverse map M(p) (R65) -/

/-- A pressure within the table's ends lies in some segment (R65). -/
theorem exists_segment {p : Nat} (h0 : t.p[0] ≤ p) (h16 : p < t.p[16]) :
    ∃ i : Fin 16, t.p[i.castSucc] ≤ p ∧ p < t.p[i.succ] := by
  by_contra hnone
  push Not at hnone
  have hall : ∀ k : Fin 17, t.p[k] ≤ p := Fin.induction h0 hnone
  exact absurd (hall (Fin.last 16)) (Nat.not_le.2 h16)

/-- Only one segment's span holds a pressure, flat segments being empty (R65). -/
theorem segmentOf_eq (hr : t.Rising) {p : Nat} {i : Fin 16} (hlow : t.p[i.castSucc] ≤ p) (hhigh : p < t.p[i.succ]) :
    t.segmentOf p = some i := by
  have hsome : (t.segmentOf p).isSome = true := List.find?_isSome.2 ⟨i, List.mem_finRange i,
    Bool.and_eq_true_iff.2 ⟨decide_eq_true hlow, decide_eq_true hhigh⟩⟩
  obtain ⟨j, hj⟩ := Option.isSome_iff_exists.1 hsome
  have hspan := List.find?_some hj
  simp only [Bool.and_eq_true, decide_eq_true_eq] at hspan
  have hij : ¬i < j := fun h => absurd (hr.node_le (Fin.succ_le_castSucc_iff.2 h)) (by omega)
  have hji : ¬j < i := fun h => absurd (hr.node_le (Fin.succ_le_castSucc_iff.2 h)) (by omega)
  rw [hj, le_antisymm (not_lt.1 hij) (not_lt.1 hji)]

theorem mass_below {p : Nat} (h : p < t.p[0]) : t.mass p = (t.m0, .belowTable) := if_pos h

theorem mass_above {p : Nat} (h0 : t.p[0] ≤ p) (h : t.p[16] ≤ p) : t.mass p = (t.m0 + 16 * t.step, .aboveTable) := by
  rw [MassTable.mass, if_neg (Nat.not_lt.2 h0), if_pos h, MassTable.top]

theorem mass_inTable (hr : t.Rising) {p : Nat} {i : Fin 16} (hlow : t.p[i.castSucc] ≤ p) (hhigh : p < t.p[i.succ]) :
    t.mass p = (t.m0 + i.val * t.step + (p - t.p[i.castSucc]) * t.step / (t.p[i.succ] - t.p[i.castSucc]), .inTable) := by
  have h0 : t.p[0] ≤ p := (hr.node_le (Fin.zero_le i.castSucc)).trans hlow
  have h16 : p < t.p[16] := hhigh.trans_le (hr.node_le (Fin.le_last i.succ))
  simp only [MassTable.mass, if_neg (Nat.not_lt.2 h0), if_neg (Nat.not_le.2 h16), segmentOf_eq hr hlow hhigh]

/-- The part of a step that a pressure within a segment stands for is less than the step (R65). -/
theorem offset_lt {a b p s : Nat} (hs : 1 ≤ s) (hlow : a ≤ p) (hhigh : p < b) : (p - a) * s / (b - a) < s :=
  Nat.div_lt_of_lt_mul (Nat.mul_lt_mul_of_pos_right (by omega) hs)

/-- Where a pressure lies against the table: below it, above it, or in one segment (R65). -/
theorem pressure_place (t : MassTable) (p : Nat) :
    p < t.p[0] ∨ (t.p[0] ≤ p ∧ t.p[16] ≤ p) ∨ ∃ i : Fin 16, t.p[i.castSucc] ≤ p ∧ p < t.p[i.succ] := by
  by_cases h0 : p < t.p[0]
  · exact .inl h0
  · by_cases h16 : t.p[16] ≤ p
    · exact .inr (.inl ⟨Nat.not_lt.1 h0, h16⟩)
    · exact .inr (.inr (exists_segment (Nat.not_lt.1 h0) (Nat.not_le.1 h16)))

theorem mass_bounds (hs : 1 ≤ t.step) (hr : t.Rising) (p : Nat) :
    t.m0 ≤ (t.mass p).1 ∧ (t.mass p).1 ≤ t.m0 + 16 * t.step := by
  rcases pressure_place t p with h | ⟨h0, h16⟩ | ⟨i, hlow, hhigh⟩
  · rw [mass_below h]
    omega
  · rw [mass_above h0 h16]
    omega
  · rw [mass_inTable hr hlow hhigh]
    have hoff := offset_lt hs hlow hhigh
    have hi : i.val * t.step ≤ 15 * t.step := Nat.mul_le_mul_right _ (by omega)
    exact ⟨(Nat.le_add_right _ _).trans (Nat.le_add_right _ _), by dsimp only; omega⟩

/-- R79: a mass taken from a pressure within or above the table does not project above that pressure. -/
theorem pressure_mass_le (hs : 1 ≤ t.step) (hr : t.Rising) {p : Nat} (h0 : t.p[0] ≤ p) :
    t.pressure (t.mass p).1 ≤ p := by
  rcases pressure_place t p with h | ⟨h0, h16⟩ | ⟨i, hlow, hhigh⟩
  · omega
  · rw [mass_above h0 h16, pressure_top hs hr]
    exact h16
  · rw [mass_inTable hr hlow hhigh, pressure_of_segment (segment_of_offset i (offset_lt hs hlow hhigh)),
      Nat.add_assoc, Nat.add_sub_cancel_left, Nat.add_sub_cancel_left]
    have hback : (t.p[i.succ] - t.p[i.castSucc])
        * ((p - t.p[i.castSucc]) * t.step / (t.p[i.succ] - t.p[i.castSucc])) / t.step ≤ p - t.p[i.castSucc] :=
      Nat.div_le_of_le_mul ((Nat.mul_div_le _ _).trans (Nat.mul_comm _ _).le)
    omega

end Maps

/-- Settles O23, by the segment that each mass lies in. -/
theorem forwardMapFollowsTable : Obligations.ForwardMapFollowsTable := by
  unfold Obligations.ForwardMapFollowsTable
  intro t hs hr
  exact ⟨fun _ _ _ _ hi => pressure_of_segment (segment_eq_of_val hi), pressure_top hs hr,
    fun _ _ _ h hm' => pressure_mono hs hr h hm', fun _ _ hm => pressure_bounds hs hr hm, fun _ => rfl⟩

/-- Settles O24, by the one segment whose span holds a pressure. -/
theorem inverseMapNeverAbove : Obligations.InverseMapNeverAbove := by
  unfold Obligations.InverseMapNeverAbove
  intro t hs hr
  exact ⟨fun _ => mass_below, fun _ h16 h0 => mass_above h0 h16, fun _ _ => mass_inTable hr, fun _ => exists_segment,
    mass_bounds hs hr, fun _ => pressure_mass_le hs hr⟩

end Sys2Proof.Machine
end

section
/-! SUPPORT. The cavern block (R70 to R74, R78, R156): each of its operations writes the fields of one cavern, raises notices and
may set verification pending; the boundary is the fold of the four caverns' turns. -/

namespace Sys2Proof.Machine

/-! ### Reads after writes of a cavern's fields, and the order of raises and writes -/

section Writes
variable {s : State} {i : Fin 4}

theorem setCavernWork_work (w : CavernWork) : (setCavernWork i w s).caverns[i] = w := Vector.getElem_set_self i.isLt

theorem setCavernWork_twice (w w' : CavernWork) : setCavernWork i w (setCavernWork i w' s) = setCavernWork i w s := by
  simp [setCavernWork]

theorem setCavernWork_same : setCavernWork i s.caverns[i] s = s := by
  simp [setCavernWork]

theorem setCavernWork_raiseIf (w : CavernWork) (b : Bool) (n : Notice) :
    setCavernWork i w (raiseIf b n s) = raiseIf b n (setCavernWork i w s) := by
  cases b <;> rfl

theorem setCavernWork_setVerifyIf (w : CavernWork) (b : Bool) :
    setCavernWork i w (setVerifyIf b s) = setVerifyIf b (setCavernWork i w s) := by
  cases b <;> rfl

theorem raiseIf_setVerifyIf (b c : Bool) (n : Notice) :
    raiseIf b n (setVerifyIf c s) = setVerifyIf c (raiseIf b n s) := by
  cases b <;> cases c <;> rfl

/-- A cause of R30 covers one just before it. -/
theorem setVerify_setVerifyIf (b : Bool) : setVerify (setVerifyIf b s) = setVerify s := by
  cases b
  · rfl
  · simp [setVerifyIf, setVerify, Function.comp_def]

theorem setVerifyIf_engine_congr (b : Bool) {s t : State} (h : s.engine = t.engine) :
    (setVerifyIf b s).engine = (setVerifyIf b t).engine := by
  cases b
  · exact h
  · simp only [setVerifyIf, setVerify, if_true, h]

end Writes

/-! ### Mass, start mass and inhibit -/

/-- A cavern's fields once its start mass has taken the measured mass, except in UNKNOWN (R73 step 2). -/
def CavernWork.started (w : CavernWork) : CavernWork :=
  { w with startMass := if w.status = .unknown then w.startMass else w.measured.getD w.startMass }

section Parts
variable (i : Fin 4) (s : State)

theorem formMass_eq (p : Nat) :
    formMass i p s =
      raiseIf (decide ((s.cfg.caverns[i].table.mass p).2 ≠ .inTable
        ∧ (s.cfg.caverns[i].table.mass p).2 ≠ s.caverns[i].tableFlag)) .drift
      (setCavernWork i { s.caverns[i] with
        measured := some (s.cfg.caverns[i].table.mass p).1, tableFlag := (s.cfg.caverns[i].table.mass p).2 } s) := by
  simp only [formMass, Bool.decide_and]

theorem refreshStartMass_eq :
    refreshStartMass i s =
      setVerifyIf (decide (s.caverns[i].measured.getD s.caverns[i].startMass ≠ s.caverns[i].startMass))
      (setCavernWork i { s.caverns[i] with startMass := s.caverns[i].measured.getD s.caverns[i].startMass } s) := by
  simp only [refreshStartMass]
  split
  next m hm => simp only [hm, Option.getD_some]
  next hm =>
    have hkept : s.caverns[i].measured.getD s.caverns[i].startMass = s.caverns[i].startMass := by rw [hm, Option.getD_none]
    rw [hkept, decide_eq_false (not_not_intro rfl)]
    exact setCavernWork_same.symm

theorem boundaryStartMass_eq :
    boundaryStartMass i s =
      setVerifyIf (decide (s.caverns[i].started.startMass ≠ s.caverns[i].startMass))
      (setCavernWork i s.caverns[i].started s) := by
  by_cases hst : s.caverns[i].status = .unknown
  · have hkept : s.caverns[i].started = s.caverns[i] := by rw [CavernWork.started, if_pos hst]
    rw [hkept, setCavernWork_same, decide_eq_false (not_not_intro rfl)]
    simp only [boundaryStartMass, hst]
    rfl
  · have hmatch : boundaryStartMass i s = refreshStartMass i s := by
      unfold boundaryStartMass
      split
      · rfl
      · rfl
      · contradiction
    rw [hmatch, refreshStartMass_eq, CavernWork.started, if_neg hst]

end Parts

/-! ### Vote outcomes (R70 to R72) -/

/-- A cavern whose start mass a GOOD vote forms: UNKNOWN, or HELD before its first vote (R71). -/
abbrev CavernWork.StartsAfresh (w : CavernWork) : Prop := w.status = .unknown ∨ (w.status = .held ∧ w.votedP = none)

/-- A cavern's fields after a GOOD vote of pressure `p` (R71). -/
def CavernWork.votedGood (c : CavernCfg) (p : Nat) (w : CavernWork) : CavernWork :=
  { w with
    votedP := some p, status := .good, holdAge := 0, measured := some (c.table.mass p).1
    startMass := if w.StartsAfresh then (c.table.mass p).1 else w.startMass
    inhibit := cavernInhibitOf c (some p), tableFlag := (c.table.mass p).2 }

/-- A cavern's fields with a given start mass. -/
def CavernWork.withStart (m : Nat) (w : CavernWork) : CavernWork := { w with startMass := m }

/-- A cavern's fields after a NO_MAJORITY outcome (R72). -/
def CavernWork.votedNone (w : CavernWork) : CavernWork :=
  { w with status := if w.status = .good then .held else w.status, holdAge := if w.status = .good then 0 else w.holdAge }

/-- The notices of a GOOD vote of pressure `p` (R65, R78). -/
def voteRaises (c : CavernCfg) (p : Nat) (w : CavernWork) (t : State) : State :=
  raiseIf (decide (cavernInhibitOf c (some p) ≠ w.inhibit)) .cavernLimit
    (raiseIf (decide ((c.table.mass p).2 ≠ .inTable ∧ (c.table.mass p).2 ≠ w.tableFlag)) .drift t)

section Votes
variable (i : Fin 4) (flags : Disagree) (s : State)

/-- A GOOD vote up to its start mass (R71). -/
theorem goodVote_eq_match (p : Nat) :
    goodVote i p s =
      let w := s.caverns[i]
      let c := s.cfg.caverns[i]
      let t := voteRaises c p w (setCavernWork i ((w.votedGood c p).withStart w.startMass) s)
      match w.status with
      | .good => t
      | .held => if w.votedP.isSome then t else setVerify (refreshStartMass i t)
      | .unknown => setVerify (refreshStartMass i t) := by
  simp only [goodVote, formMass_eq, judgeCavernInhibit, setCavernWork_raiseIf, setCavernWork_twice, setCavernWork_work,
    setCavernWork_cfg, raiseIf_caverns, raiseIf_cfg]
  rfl

theorem goodVote_eq (p : Nat) :
    goodVote i p s = setVerifyIf (decide s.caverns[i].StartsAfresh) (voteRaises s.cfg.caverns[i] p s.caverns[i]
      (setCavernWork i (s.caverns[i].votedGood s.cfg.caverns[i] p) s)) := by
  have hfresh : ∀ h : s.caverns[i].StartsAfresh, setVerify (refreshStartMass i (voteRaises s.cfg.caverns[i] p s.caverns[i]
      (setCavernWork i ((s.caverns[i].votedGood s.cfg.caverns[i] p).withStart s.caverns[i].startMass) s))) =
    setVerify (voteRaises s.cfg.caverns[i] p s.caverns[i]
      (setCavernWork i (s.caverns[i].votedGood s.cfg.caverns[i] p) s)) := by
    intro h
    simp only [refreshStartMass_eq, setVerify_setVerifyIf, voteRaises, raiseIf_caverns, setCavernWork_raiseIf,
      setCavernWork_work, setCavernWork_twice, CavernWork.votedGood, CavernWork.withStart, if_pos h,
      Option.getD_some]
  have hkept : ∀ h : ¬s.caverns[i].StartsAfresh,
      ((s.caverns[i].votedGood s.cfg.caverns[i] p).withStart s.caverns[i].startMass)
        = s.caverns[i].votedGood s.cfg.caverns[i] p := fun h => by
    simp only [CavernWork.votedGood, CavernWork.withStart, if_neg h]
  rw [goodVote_eq_match]
  dsimp only
  split
  next hst =>
    have h : ¬s.caverns[i].StartsAfresh := by simp [CavernWork.StartsAfresh, hst, -Fin.getElem_fin]
    rw [hkept h, decide_eq_false h]
    rfl
  next hst =>
    split
    next hv =>
      have h : ¬s.caverns[i].StartsAfresh := by
        simp [CavernWork.StartsAfresh, hst, Option.isSome_iff_ne_none.1 hv, -Fin.getElem_fin]
      rw [hkept h, decide_eq_false h]
      rfl
    next hv =>
      have h : s.caverns[i].StartsAfresh := .inr ⟨hst, Option.not_isSome_iff_eq_none.1 hv⟩
      rw [hfresh h, decide_eq_true h]
      rfl
  next hst =>
    have h : s.caverns[i].StartsAfresh := .inl hst
    rw [hfresh h, decide_eq_true h]
    rfl

/-- What a GOOD outcome leaves (R70, R71). -/
theorem takeVote_good (p : Nat) :
    takeVote i (.good p) flags s = setVerifyIf (decide s.caverns[i].StartsAfresh)
      (voteRaises s.cfg.caverns[i] p s.caverns[i] (raiseIf (decide (flags ≠ s.caverns[i].disagree)) .sensorDisagree
        (setCavernWork i { s.caverns[i].votedGood s.cfg.caverns[i] p with disagree := flags } s))) := by
  simp only [takeVote, goodVote_eq, raiseIf_caverns, raiseIf_cfg, setCavernWork_work, setCavernWork_cfg, setCavernWork_raiseIf,
    setCavernWork_twice]
  rfl

/-- What a NO_MAJORITY outcome leaves (R70, R72). -/
theorem takeVote_noMajority :
    takeVote i .noMajority flags s = raiseIf (decide (s.caverns[i].status = .good)) .cavernHeld
      (raiseIf (decide (flags ≠ s.caverns[i].disagree)) .sensorDisagree
        (setCavernWork i { s.caverns[i].votedNone with disagree := flags } s)) := by
  simp only [takeVote, noMajority, raiseIf_caverns, setCavernWork_work, setCavernWork_raiseIf, setCavernWork_twice]
  split
  next hst =>
    rw [CavernWork.votedNone, if_pos hst, if_pos hst, decide_eq_true hst]
    rfl
  all_goals
    next hst =>
      have h : s.caverns[i].status ≠ .good := by simp [hst, -Fin.getElem_fin]
      rw [CavernWork.votedNone, if_neg h, if_neg h, decide_eq_false h]
      rfl

end Votes
/-! ### The boundary (R73, R74) -/

/-- A cavern's hold age at a boundary (R73 step 1). -/
def CavernWork.nextAge (w : CavernWork) : Nat :=
  if w.status = .good then w.holdAge else if w.holdAge < 65535 then w.holdAge + 1 else 65535

/-- A held cavern is lost as its hold age gets to the limit (R73 step 1). -/
abbrev CavernWork.LostAt (limit : Nat) (w : CavernWork) : Prop := w.status = .held ∧ limit ≤ w.nextAge

/-- A cavern's fields after step 1 of R73. -/
def CavernWork.aged (limit : Nat) (w : CavernWork) : CavernWork :=
  { w with status := if w.LostAt limit then .unknown else w.status, holdAge := w.nextAge }

/-- The drift of a cavern against the mass expected of it (R74). -/
def CavernWork.driftFrom (expected : Option Nat) (w : CavernWork) : Option Int :=
  if w.status = .unknown then none else w.measured.bind fun m => expected.map fun e : Nat => (m : Int) - (e : Int)

/-- A cavern's fields after a boundary (R73). -/
def CavernWork.atBoundary (limit : Nat) (expected : Option Nat) (w : CavernWork) : CavernWork :=
  { (w.aged limit).started with drift := (w.aged limit).started.driftFrom expected }

/-- The difference read from an absent or present number, which the statement of R74 takes to the integers first. -/
theorem map_sub_lift (m : Nat) (o : Option Nat) :
    ((do let e ← o; pure (e : Int) : Option Int).map fun e => (m : Int) - e) = o.map fun e : Nat => (m : Int) - (e : Int) := by
  cases o <;> rfl

theorem incTo_eq (cap n : Nat) : incTo cap n = if n < cap then n + 1 else cap := by
  simp only [incTo, ← Nat.not_lt, ite_not]

theorem nextAge_of_good {w : CavernWork} (h : w.status = .good) : w.nextAge = w.holdAge := if_pos h

theorem nextAge_of_not_good {w : CavernWork} (h : w.status ≠ .good) : w.nextAge = incTo 65535 w.holdAge := by
  rw [CavernWork.nextAge, if_neg h, incTo_eq]

/-- What step 3 finds of the engine (R74). -/
theorem endedMass_congr {s t : State} (hclosed : t.engine.closed = s.engine.closed) (hlive : t.engine.live = s.engine.live) :
    endedMass t = endedMass s := by
  funext ended i
  simp only [endedMass, State.liveAt, hclosed, hlive]

theorem setVerifyIf_closed (b : Bool) (s : State) : (setVerifyIf b s).engine.closed = s.engine.closed := by cases b <;> rfl

theorem setVerifyIf_live (b : Bool) (s : State) : (setVerifyIf b s).engine.live = s.engine.live := by cases b <;> rfl

section Boundary
variable (ended : Nat) (i : Fin 4) (s : State)

theorem ageCavern_eq :
    ageCavern i s = raiseIf (decide (s.caverns[i].LostAt s.cfg.site.holdLimit)) .cavernUnknown
      (setCavernWork i (s.caverns[i].aged s.cfg.site.holdLimit) s) := by
  by_cases hlost : s.caverns[i].LostAt s.cfg.site.holdLimit
  · have ⟨hheld, hage⟩ := hlost
    have hnext : s.caverns[i].nextAge = incTo 65535 s.caverns[i].holdAge := by
      rw [nextAge_of_not_good (by simp [hheld, -Fin.getElem_fin])]
    rw [hnext] at hage
    rw [decide_eq_true hlost, CavernWork.aged, if_pos hlost, hnext]
    simp only [ageCavern, hheld, if_pos hage]
    rfl
  · rw [decide_eq_false hlost, CavernWork.aged, if_neg hlost]
    simp only [ageCavern]
    split
    next hst =>
      rw [nextAge_of_good hst]
      exact setCavernWork_same.symm
    next hst =>
      have hnext := nextAge_of_not_good (w := s.caverns[i]) (by simp [hst, -Fin.getElem_fin])
      rw [if_neg fun hage => hlost ⟨hst, hnext ▸ hage⟩, hnext]
      rfl
    next hst =>
      rw [nextAge_of_not_good (by simp [hst, -Fin.getElem_fin])]
      rfl

theorem formDrift_eq :
    formDrift ended i s = raiseIf ((s.caverns[i].driftFrom (endedMass s ended i)).any fun d =>
        decide (s.cfg.caverns[i].driftLimit < d.natAbs)) .drift
      (setCavernWork i { s.caverns[i] with drift := s.caverns[i].driftFrom (endedMass s ended i) } s) := by
  simp only [formDrift]
  split
  next m e hm he =>
    have hst : s.caverns[i].status ≠ .unknown := fun hst => by rw [if_pos hst] at hm; cases hm
    rw [if_neg hst] at hm
    rw [CavernWork.driftFrom, if_neg hst, hm, he]
    rfl
  next hnone =>
    have hdrift : s.caverns[i].driftFrom (endedMass s ended i) = none := by
      unfold CavernWork.driftFrom
      split
      · rfl
      next hst =>
        rw [Option.bind_eq_none_iff]
        intro m hm
        exact Option.map_eq_none_iff.2
          (Option.eq_none_iff_forall_ne_some.2 fun e he => hnone m e ((if_neg hst).trans hm) he)
    rw [hdrift]
    rfl

theorem cavernBoundary_eq :
    cavernBoundary ended i s =
      let w := s.caverns[i]
      let after := w.atBoundary s.cfg.site.holdLimit (endedMass s ended i)
      setVerifyIf (decide (after.startMass ≠ w.startMass))
        (raiseIf (after.drift.any fun d => decide (s.cfg.caverns[i].driftLimit < d.natAbs)) .drift
        (raiseIf (decide (w.LostAt s.cfg.site.holdLimit)) .cavernUnknown (setCavernWork i after s))) := by
  have hended : endedMass (boundaryStartMass i (ageCavern i s)) = endedMass s :=
    endedMass_congr (by simp only [boundaryStartMass_eq, ageCavern_eq, setVerifyIf_closed, setCavernWork_engine, raiseIf_engine])
      (by simp only [boundaryStartMass_eq, ageCavern_eq, setVerifyIf_live, setCavernWork_engine, raiseIf_engine])
  rw [cavernBoundary, formDrift_eq, hended]
  simp only [boundaryStartMass_eq, ageCavern_eq, setVerifyIf_caverns, setVerifyIf_cfg, raiseIf_caverns, raiseIf_cfg,
    setCavernWork_work, setCavernWork_cfg, setCavernWork_setVerifyIf, setCavernWork_raiseIf, setCavernWork_twice,
    raiseIf_setVerifyIf]
  rfl

end Boundary

/-! ### Each operation writes one cavern -/

section Pass
variable {β : Type} {view : State → β} {f : Fin 4 → State → State} {after : Fin 4 → β → CavernWork → CavernWork}
  (hwrite : ∀ i s, (f i s).caverns = s.caverns.set i (after i (view s) s.caverns[i]))
include hwrite

theorem caverns_self_of_write (i : Fin 4) (s : State) : (f i s).caverns[i] = after i (view s) s.caverns[i] := by
  rw [hwrite]
  exact Vector.getElem_set_self i.isLt

theorem caverns_other_of_write {i j : Fin 4} (hij : i ≠ j) (s : State) : (f i s).caverns[j] = s.caverns[j] := by
  rw [hwrite]
  exact Vector.getElem_set_ne _ _ fun h => hij (Fin.ext h)

theorem foldl_caverns_not_mem {l : List (Fin 4)} {j : Fin 4} (hj : j ∉ l) (s : State) :
    (l.foldl (fun s i => f i s) s).caverns[j] = s.caverns[j] := by
  induction l generalizing s with
  | nil => rfl
  | cons i l ih =>
    obtain ⟨hji, hjl⟩ := List.ne_and_not_mem_of_not_mem_cons hj
    rw [List.foldl_cons, ih hjl, caverns_other_of_write hwrite hji.symm]

/-- A pass over the caverns, each of which is written from its own fields and from what the pass keeps, leaves each as its own
turn does. -/
theorem foldl_caverns_mem (hkeep : ∀ i s, view (f i s) = view s) {l : List (Fin 4)} (hl : l.Nodup) {j : Fin 4} (hj : j ∈ l)
    (s : State) : (l.foldl (fun s i => f i s) s).caverns[j] = (f j s).caverns[j] := by
  induction l generalizing s with
  | nil => cases hj
  | cons i l ih =>
    obtain ⟨hil, hl⟩ := List.nodup_cons.1 hl
    rw [List.foldl_cons]
    by_cases hij : i = j
    · subst hij
      exact foldl_caverns_not_mem hwrite hil _
    · rw [ih hl ((List.mem_cons.1 hj).resolve_left (Ne.symm hij)), caverns_self_of_write hwrite,
        caverns_self_of_write hwrite, hkeep, caverns_other_of_write hwrite hij]

end Pass

/-- The caverns' boundary leaves each cavern as its own turn does (R73). -/
theorem cavernsBoundary_work (ended : Nat) (i : Fin 4) (s : State) :
    (cavernsBoundary ended s).caverns[i] = (cavernBoundary ended i s).caverns[i] := by
  refine foldl_caverns_mem (view := fun s => (s.cfg.site.holdLimit, endedMass s ended))
    (after := fun i q w => w.atBoundary q.1 (q.2 i)) (fun i s => ?_) (fun i s => ?_) (List.nodup_finRange 4)
    (List.mem_finRange i) s
  · simp only [cavernBoundary_eq, setVerifyIf_caverns, raiseIf_caverns]
    rfl
  · have hended : endedMass (cavernBoundary ended i s) = endedMass s :=
      endedMass_congr (by simp only [cavernBoundary_eq, setVerifyIf_closed, raiseIf_engine, setCavernWork_engine])
        (by simp only [cavernBoundary_eq, setVerifyIf_live, raiseIf_engine, setCavernWork_engine])
    rw [hended]
    simp only [cavernBoundary_eq, setVerifyIf_cfg, raiseIf_cfg, setCavernWork_cfg]

theorem scannerBoundaryAt_scan (i : Fin 4) (s : State) : (scannerBoundaryAt i s).scan = s.scan := by
  unfold scannerBoundaryAt
  split
  · rfl
  · simp only [takeVote_noMajority, raiseIf_scan, setCavernWork_scan]

/-- The scanner's boundary leaves each cavern as its own turn does (R156). -/
theorem scannerBoundary_work (i : Fin 4) (s : State) :
    (scannerBoundary s).caverns[i] = (scannerBoundaryAt i s).caverns[i] := by
  rw [scannerBoundary, clearHanded_caverns]
  refine foldl_caverns_mem (view := State.scan) (after := fun i q w =>
      if q.handed[i] = true then w else { w.votedNone with disagree := q.flags[i] }) (fun i s => ?_) scannerBoundaryAt_scan
    (List.nodup_finRange 4) (List.mem_finRange i) s
  unfold scannerBoundaryAt
  split
  · exact congrArg State.caverns setCavernWork_same.symm
  · simp only [takeVote_noMajority, raiseIf_caverns]
    rfl

theorem scannerBoundary_scan (s : State) : (scannerBoundary s).scan = { s.scan with handed := Vector.replicate 4 false } := by
  have hpass := foldl_keeps State.scan (fun s i => scannerBoundaryAt i s) (fun s i => scannerBoundaryAt_scan i s)
    (List.finRange 4) s
  rw [scannerBoundary, clearHanded, hpass]

/-! ### The mass expected of a cavern (R55, R74) -/

section Expected
variable {s : State} {ended : Nat} {i : Fin 4} {sl : ProjSlot}

theorem endedMass_of_closed (h : s.engine.closed = some sl) (hsl : sl.interval = ended) :
    endedMass s ended i = sl.caverns[i].map CavernEnd.mass := by
  simp only [endedMass, h, Option.filter_some, hsl, decide_true, if_true, Option.bind_some]

theorem endedMass_of_notClosed (h : ∀ sl, s.engine.closed = some sl → sl.interval ≠ ended) :
    endedMass s ended i = (s.liveAt ended).bind fun sl => sl.caverns[i].map CavernEnd.mass := by
  have hnone : (s.engine.closed.filter fun sl => decide (sl.interval = ended)) = none := by
    rw [Option.filter_eq_none_iff]
    simpa using h
  simp only [endedMass, hnone]

theorem liveAt_of_first {rest : List ProjSlot} (h : s.engine.live = some (sl :: rest)) (hsl : sl.interval = ended) :
    s.liveAt ended = some sl := by
  simp [State.liveAt, h, hsl]

theorem liveAt_of_invalid (h : s.engine.live = none) : s.liveAt ended = none := by
  rw [State.liveAt, h, Option.bind_none]

end Expected

/-! ### What the operations leave outside the caverns -/

/-- A state that differs from `s` in the caverns, the engine and the notices at most. -/
def SameBesideCaverns (s t : State) : Prop :=
  { t with caverns := s.caverns, engine := s.engine, notices := s.notices } = s

section Frame
variable {s t : State}

theorem sameBesideCaverns_refl (s : State) : SameBesideCaverns s s := rfl

theorem SameBesideCaverns.setCavernWork (h : SameBesideCaverns s t) (i : Fin 4) (w : CavernWork) :
    SameBesideCaverns s (setCavernWork i w t) := h

theorem SameBesideCaverns.raiseIf (h : SameBesideCaverns s t) (b : Bool) (n : Notice) :
    SameBesideCaverns s (raiseIf b n t) := by
  cases b <;> exact h

theorem SameBesideCaverns.setVerifyIf (h : SameBesideCaverns s t) (b : Bool) : SameBesideCaverns s (setVerifyIf b t) := by
  cases b <;> exact h

end Frame

theorem cavernBoundary_frame (ended : Nat) (i : Fin 4) (s : State) : SameBesideCaverns s (cavernBoundary ended i s) := by
  rw [cavernBoundary_eq]
  exact ((((sameBesideCaverns_refl s).setCavernWork i _).raiseIf _ _).raiseIf _ _).setVerifyIf _

theorem takeVote_good_frame (i : Fin 4) (p : Nat) (flags : Disagree) (s : State) :
    SameBesideCaverns s (takeVote i (.good p) flags s) := by
  rw [takeVote_good, voteRaises]
  exact (((((sameBesideCaverns_refl s).setCavernWork i _).raiseIf _ _).raiseIf _ _).raiseIf _ _).setVerifyIf _

/-- Settles O25, by what each operation leaves of its cavern. -/
theorem cavernTakesVotesAndBoundaries : Obligations.CavernTakesVotesAndBoundaries := by
  unfold Obligations.CavernTakesVotesAndBoundaries
  intro i flags s
  refine ⟨fun ended => ⟨?_, ?_, ?_, cavernBoundary_frame ended i s, fun sl => endedMass_of_closed, fun hclosed => ⟨?_, ?_⟩,
      cavernsBoundary_work ended i s⟩, ⟨scannerBoundary_scan s, ?_⟩, fun p => ⟨?_, ?_, ?_, takeVote_good_frame i p flags s⟩,
    takeVote_noMajority i flags s⟩
  · rw [cavernBoundary_eq]
    simp only [setVerifyIf_caverns, raiseIf_caverns, map_sub_lift]
    rfl
  · rw [cavernBoundary_eq]
    exact setVerifyIf_engine_congr _ (by simp only [raiseIf_engine, setCavernWork_engine])
  · rw [cavernBoundary_eq, setVerifyIf_notices]
    simp only [map_sub_lift]
    exact raiseIf_notices_congr _ _ (raiseIf_notices_congr _ _ rfl)
  · intro sl rest hlive hsl
    rw [endedMass_of_notClosed hclosed, liveAt_of_first hlive hsl, Option.bind_some]
  · intro hlive
    rw [endedMass_of_notClosed hclosed, liveAt_of_invalid hlive, Option.bind_none]
  · rw [scannerBoundary_work, scannerBoundaryAt]
    split <;> rfl
  · rw [takeVote_good, setVerifyIf_caverns, voteRaises, raiseIf_caverns, raiseIf_caverns, raiseIf_caverns]
    rfl
  · rw [takeVote_good]
    exact setVerifyIf_engine_congr _ (by simp only [voteRaises, raiseIf_engine, setCavernWork_engine])
  · rw [takeVote_good, setVerifyIf_notices]
    exact raiseIf_notices_congr _ _ (raiseIf_notices_congr _ _ (raiseIf_notices_congr _ _ rfl))

end Sys2Proof.Machine
end

section
/-! SUPPORT. READ commands of every block and refused requests (R68, R95, R118, R140, R158, R170, R190, R201): each answers and
changes nothing but the port. -/

namespace Sys2Proof.Machine

/-! ### Numbers that name an entry -/

theorem cavernOf_eq_none {n : Nat} (h : n = 0 ∨ 4 < n) : cavernOf n = none := dif_neg (by omega)

theorem cavernOf_succ (i : Fin 4) : cavernOf (i.val + 1) = some i := dif_pos (by omega)

theorem entryOf_eq_none {n : Nat} (h : n = 0 ∨ 8 < n) : entryOf n = none := dif_neg (by omega)

theorem entryOf_succ (i : Fin 8) : entryOf (i.val + 1) = some i := dif_pos (by omega)

theorem channelOf_eq_none {n : Nat} (h : 24 ≤ n) : channelOf n = none := dif_neg (by omega)

theorem channelOf_val (ch : Fin 24) : channelOf ch.val = some ch := dif_pos ch.isLt

/-! ### The reads taken in IDLE -/

section Taken
variable {s : State} (h : s.port.state = .idle)
include h

theorem exec_readCavern_idle (n : Nat) : exec (.readCavern n) s = .next (readCavernAct n s.taken) :=
  congrArg Host.Outcome.next (station_idle h _)

theorem exec_readStore_idle : exec .readStore s = .next (readStoreAct s.taken) :=
  congrArg Host.Outcome.next (station_idle h _)

theorem exec_readDispatch_idle : exec .readDispatch s = .next (readDispatchAct s.taken) :=
  congrArg Host.Outcome.next (station_idle h _)

theorem exec_readTrain_idle (n : Nat) : exec (.readTrain n) s = .next (readTrainAct n s.taken) :=
  congrArg Host.Outcome.next (station_idle h _)

theorem exec_readChannel_idle (n : Nat) : exec (.readChannel n) s = .next (readChannelAct n s.taken) :=
  congrArg Host.Outcome.next (station_idle h _)

theorem exec_readClock_idle : exec .readClock s = .next (readClockAct s.taken) :=
  congrArg Host.Outcome.next (station_idle h _)

theorem exec_identify_idle : exec .identify s = .next (identifyAct s.taken) :=
  congrArg Host.Outcome.next (station_idle h _)

theorem exec_unknownCommand_idle (r : RefusedRequest) :
    exec (.unknownCommand r) s = .next (s.answered (refusalResult r) .empty) :=
  congrArg Host.Outcome.next (station_idle h _)

end Taken

/-! ### What the reads carry -/

/-- The seconds left on a timer lie less than a second from the milliseconds left (R118; log entry 7). -/
theorem secondsOf_bounds (free ms : Nat) : ms / 1000 ≤ secondsOf free ms ∧ secondsOf free ms * 1000 < ms + 1000 := by
  unfold secondsOf
  split <;> omega

/-- The clock is UNSET or ARMED: there is no current interval (R157, R159). -/
abbrev Clock.Stopped (c : Clock) : Prop := c.mode = .unset ∨ c.mode = .armed

theorem running_of_stopped {c : Clock} (h : c.Stopped) : c.running = false := by
  rcases h with h | h <;> rw [Clock.running, h]

theorem running_of_not_stopped {c : Clock} (h : ¬c.Stopped) : c.running = true := by
  rw [running_iff]
  cases hm : c.mode <;> simp [hm] at h ⊢

theorem numbered_of_stopped {c : Clock} (h : c.Stopped) : c.numbered = none := by
  rw [Clock.numbered, running_of_stopped h, if_neg Bool.false_ne_true]

theorem numbered_of_not_stopped {c : Clock} (h : ¬c.Stopped) : c.numbered = some c.interval := by
  rw [Clock.numbered, if_pos (running_of_not_stopped h)]

/-- READ_CLOCK carries the elapsed time except in UNSET and ARMED (R170). -/
theorem clockView_eq (s : State) :
    clockView s = { clockView s with elapsed := if s.clock.Stopped then none else some (s.now - s.clock.origin) } := by
  unfold clockView
  by_cases h : s.clock.Stopped
  · rw [if_pos h, running_of_stopped h, if_neg Bool.false_ne_true]
  · rw [if_neg h, if_pos (running_of_not_stopped h)]

/-- The first interval from which an entry counts, as READ_TRAIN carries it (R118; log entry 40). -/
theorem countsFrom_numbered (cfg : TrainCfg) (w : TrainWork) (c : Clock) :
    c.numbered.bind (countsFrom cfg w) =
      if cfg.configured = false ∨ c.Stopped then none else countsFrom { cfg with configured := true } w c.interval := by
  by_cases hc : c.Stopped
  · rw [if_pos (.inr hc), numbered_of_stopped hc, Option.bind_none]
  · rw [numbered_of_not_stopped hc, Option.bind_some]
    cases hcfg : cfg.configured with
    | false => rw [if_pos (.inl rfl), countsFrom, hcfg]; rfl
    | true => rw [if_neg (by simp [hc]), ← hcfg]

/-- Settles O28, command by command. -/
theorem readsAndRefusals : Obligations.ReadsAndRefusals := by
  unfold Obligations.ReadsAndRefusals
  intro s h
  refine ⟨fun i => ?_, fun n hn => ?_, exec_readStore_idle h, exec_readDispatch_idle h, fun i => ?_, fun n hn => ?_,
    fun ch => ?_, fun n hn => ?_, ?_, exec_identify_idle h, exec_unknownCommand_idle h _,
    fun _ => exec_unknownCommand_idle h _, fun _ => exec_unknownCommand_idle h _⟩
  · rw [exec_readCavern_idle h, readCavernAct, cavernOf_succ]
    rfl
  · rw [exec_readCavern_idle h, readCavernAct, cavernOf_eq_none hn]
    rfl
  · refine ⟨s.trains[i].timer.map fun t => secondsOf s.free (t.expiry - s.now), ?_, Option.isSome_map, ?_⟩
    · rw [exec_readTrain_idle h, readTrainAct, entryOf_succ]
      simp only [taken_clock, countsFrom_numbered]
      rfl
    · intro t sec ht hsec
      rw [ht, Option.map_some, Option.some.injEq] at hsec
      exact hsec ▸ secondsOf_bounds _ _
  · rw [exec_readTrain_idle h, readTrainAct, entryOf_eq_none hn]
    rfl
  · rw [exec_readChannel_idle h, readChannelAct, channelOf_val]
    rfl
  · rw [exec_readChannel_idle h, readChannelAct, channelOf_eq_none hn]
    rfl
  · rw [exec_readClock_idle h, readClockAct, clockView_eq]
    rfl

end Sys2Proof.Machine
end

section
/-! SUPPORT. SET_CAVERN and LOAD_CAVERN_TABLE (R63, R66, R67, R78): their ranges as propositions, and the state that one taken
leaves. -/

namespace Sys2Proof.Machine

/-! ### Ranges and codes -/

theorem within_iff (lo hi : Nat) (o : Option Nat) : within lo hi o = true ↔ ∀ v ∈ o, lo ≤ v ∧ v ≤ hi := by
  simp [within, Option.all_eq_true]

theorem flagOf_of_le {n : Nat} (h : n ≤ 1) : flagOf n = some (n == 1) := by
  interval_cases n <;> rfl

theorem le_one_of_flagOf {n : Nat} (h : (flagOf n).isSome = true) : n ≤ 1 := by
  unfold flagOf at h
  split at h <;> simp at h ⊢

theorem isCode_flagOf_iff (o : Option Nat) : isCode flagOf o = true ↔ ∀ v ∈ o, v ≤ 1 := by
  rw [isCode, Option.all_eq_true]
  exact ⟨fun h v hv => le_one_of_flagOf (h v hv), fun h v hv => by rw [flagOf_of_le (h v hv), Option.isSome_some]⟩

/-- A set-or-clear field in range takes the value its code stands for (R203). -/
theorem codeOr_flagOf {o : Option Nat} (h : ∀ v ∈ o, v ≤ 1) (kept : Bool) :
    codeOr flagOf o kept = (o.map fun v => v == 1).getD kept := by
  cases o with
  | none => rfl
  | some v => rw [codeOr, Option.bind_some, flagOf_of_le (h v rfl), Option.map_some]

/-- The given values of a SET_CAVERN lie in their ranges (R66). -/
def cavernValuesOk (p : CavernParams) : Prop :=
  (∀ v ∈ p.inService, v ≤ 1) ∧ (∀ v ∈ p.weight, v ≤ 15) ∧ (∀ v ∈ p.pMin, v ≤ 30000) ∧
    (∀ v ∈ p.pMax, v ≤ 30000) ∧ (∀ v ∈ p.rateLimit, 1 ≤ v ∧ v ≤ 500) ∧ (∀ v ∈ p.driftLimit, v ≤ 50000000)

theorem cavernInRange_iff (p : CavernParams) : cavernInRange p = true ↔ cavernValuesOk p := by
  simp only [cavernInRange, Bool.and_eq_true, isCode_flagOf_iff, within_iff, Nat.zero_le, true_and, and_assoc,
    cavernValuesOk]

/-- The fields that runs read, compared as one tuple (R67). -/
theorem runFieldsDiffer_eq (a b : CavernCfg) :
    a.runFieldsDiffer b = decide ((a.inService, a.weight, a.pMin, a.pMax, a.rateLimit)
      ≠ (b.inService, b.weight, b.pMin, b.pMax, b.rateLimit)) := by
  simp only [CavernCfg.runFieldsDiffer, ne_eq, Prod.mk.injEq, not_and_or, Bool.decide_or, Bool.or_assoc]

/-! ### A judged inhibit as a cause of a recompute (R78, R123) -/

section Judged
variable {i : Fin 4} {s t : State}

theorem judgeCavernInhibit_same (h : cavernInhibitOf s.cfg.caverns[i] s.caverns[i].votedP = s.caverns[i].inhibit) :
    judgeCavernInhibit i s = s := by
  simp only [judgeCavernInhibit, h, ne_eq, not_true_eq_false, decide_false]
  exact setCavernWork_same

theorem judgeCavernInhibit_changed (h : cavernInhibitOf s.cfg.caverns[i] s.caverns[i].votedP ≠ s.caverns[i].inhibit) :
    judgeCavernInhibit i s = raise .cavernLimit (setCavernWork i { s.caverns[i] with
      inhibit := cavernInhibitOf s.cfg.caverns[i] s.caverns[i].votedP } s) := by
  rw [judgeCavernInhibit, decide_eq_true h]
  rfl

theorem recomputeIfBanned_same (hc : t.caverns = s.caverns) (hst : t.store = s.store) (hd : t.disp = s.disp) :
    recomputeIfBanned s t = t := by
  simp [recomputeIfBanned, recomputeIf, banInputs, hc, hst, hd]

theorem recomputeIfBanned_changed (h : t.caverns[i].inhibit ≠ s.caverns[i].inhibit) :
    recomputeIfBanned s t = recompute t := by
  have hban : banInputs t ≠ banInputs s := fun heq => by
    simp only [banInputs, Prod.mk.injEq, List.map_inj_left] at heq
    exact h (heq.1 i (List.mem_finRange i))
  rw [recomputeIfBanned, recomputeIf, if_pos (decide_eq_true hban)]

end Judged

/-! ### SET_CAVERN (R66, R67) -/

theorem setCavernCfg_cavern (i : Fin 4) (c : CavernCfg) (s : State) : (setCavernCfg i c s).cfg.caverns[i] = c :=
  Vector.getElem_set_self i.isLt

/-- A SET_CAVERN taken, before its inhibit is judged (R67). -/
def cavernSet (i : Fin 4) (new : CavernCfg) (s : State) : State :=
  setVerifyIf (new.runFieldsDiffer s.cfg.caverns[i]) (setCavernCfg i new s)

section Settings
variable {s : State} {i : Fin 4}

theorem exec_setCavern_idle (h : s.port.state = .idle) (hsave : s.nv.saving = none) (p : CavernParams) :
    exec (.setCavern p) s = .next (setCavernAct p s.taken) :=
  congrArg Host.Outcome.next ((station_idle h _).trans (settingsWrite_idle (s := s.taken) hsave _))

variable {p : CavernParams}

theorem setCavernAct_badNumber (h : p.number = 0 ∨ 4 < p.number) : setCavernAct p s = reply .badValue s := by
  rw [setCavernAct, cavernOf_eq_none h]

/-- The settings once a SET_CAVERN in range is taken (R66). -/
theorem updated_eq (h : ∀ v ∈ p.inService, v ≤ 1) (c : CavernCfg) :
    c.updated p = { c with
      inService := (p.inService.map fun v => v == 1).getD c.inService, weight := p.weight.getD c.weight
      pMin := p.pMin.getD c.pMin, pMax := p.pMax.getD c.pMax, rateLimit := p.rateLimit.getD c.rateLimit
      driftLimit := p.driftLimit.getD c.driftLimit } := by
  rw [CavernCfg.updated, codeOr_flagOf h]

variable (hi : p.number = i.val + 1)
include hi

theorem setCavernAct_refused
    (h : ¬cavernValuesOk p ∨ (s.cfg.caverns[i].updated p).pMax ≤ (s.cfg.caverns[i].updated p).pMin) :
    setCavernAct p s = reply .badValue s := by
  have hguard : ¬(cavernInRange p && decide ((s.cfg.caverns[i].updated p).pMin < (s.cfg.caverns[i].updated p).pMax)) = true := by
    rw [Bool.and_eq_true, cavernInRange_iff, decide_eq_true_eq]
    exact fun ⟨hok, hlt⟩ => h.elim (· hok) (Nat.not_le.2 hlt)
  simp only [setCavernAct, hi, cavernOf_succ, if_neg hguard]

theorem setCavernAct_taken {new : CavernCfg} (hnew : s.cfg.caverns[i].updated p = new) (hok : cavernValuesOk p)
    (hlt : new.pMin < new.pMax) :
    setCavernAct p s = reply .done (recomputeIfBanned s (judgeCavernInhibit i (cavernSet i new s))) := by
  have hguard : (cavernInRange p && decide (new.pMin < new.pMax)) = true := by
    rw [Bool.and_eq_true, cavernInRange_iff, decide_eq_true_eq]
    exact ⟨hok, hlt⟩
  simp only [setCavernAct, hi, cavernOf_succ, hnew, if_pos hguard]
  rfl

end Settings

section Set
variable (i : Fin 4) (new : CavernCfg) (s : State)

theorem cavernSet_cavern : (cavernSet i new s).cfg.caverns[i] = new := by
  rw [cavernSet, setVerifyIf_cfg, setCavernCfg_cavern]

theorem cavernSet_caverns : (cavernSet i new s).caverns = s.caverns := setVerifyIf_caverns _ _

theorem reply_cavernSet_taken : reply .done (cavernSet i new s.taken) = (cavernSet i new s).answered .done .empty := by
  unfold cavernSet
  rw [taken_cfg]
  cases new.runFieldsDiffer s.cfg.caverns[i] <;> rfl

variable {i new s}

/-- A SET_CAVERN that gives the inhibit already held changes the settings alone (R78). -/
theorem judged_cavernSet_same (h : cavernInhibitOf new s.caverns[i].votedP = s.caverns[i].inhibit) :
    recomputeIfBanned s (judgeCavernInhibit i (cavernSet i new s)) = cavernSet i new s := by
  rw [judgeCavernInhibit_same (by rw [cavernSet_cavern, cavernSet_caverns, h])]
  exact recomputeIfBanned_same (cavernSet_caverns i new s) (setVerifyIf_store _ _) (setVerifyIf_disp _ _)

/-- A SET_CAVERN that changes the inhibit raises CAVERN_LIMIT and makes the dispatch unit recompute (R78, R123). -/
theorem judged_cavernSet_changed (h : cavernInhibitOf new s.caverns[i].votedP ≠ s.caverns[i].inhibit) :
    recomputeIfBanned s (judgeCavernInhibit i (cavernSet i new s)) =
      recompute (raise .cavernLimit (setCavernWork i
        { s.caverns[i] with inhibit := cavernInhibitOf new s.caverns[i].votedP } (cavernSet i new s))) := by
  rw [judgeCavernInhibit_changed (by rwa [cavernSet_cavern, cavernSet_caverns]), cavernSet_cavern, cavernSet_caverns]
  refine recomputeIfBanned_changed (i := i) ?_
  rw [raise_caverns, setCavernWork_work]
  exact h

end Set

/-! ### LOAD_CAVERN_TABLE (R63) -/

/-- The values of a LOAD_CAVERN_TABLE are taken (R63). -/
def cavernTableGood (p : CavernTableParams) : Prop :=
  1 ≤ p.step ∧ p.step ≤ 250000000 ∧ p.m0 + 16 * p.step ≤ 4000000000 ∧
    (∀ k : Fin 17, p.pressures[k] ≤ 30000) ∧ (∀ k : Fin 16, p.pressures[k.castSucc] ≤ p.pressures[k.succ])

theorem vector_all_iff {n : Nat} (v : Vector Nat n) (q : Nat → Bool) :
    v.toList.all q = true ↔ ∀ k : Fin n, q v[k] = true := by
  simp [Fin.forall_iff]

/-- Each number of a rising vector is at most the next (R63). -/
theorem rising_iff {n : Nat} (v : Vector Nat (n + 1)) : rising v = true ↔ ∀ k : Fin n, v[k.castSucc] ≤ v[k.succ] := by
  rw [rising, List.all_eq_true, List.forall_mem_iff_forall_getElem]
  simp [Fin.forall_iff]

theorem cavernTableOk_iff (p : CavernTableParams) : cavernTableOk p = true ↔ cavernTableGood p := by
  simp only [cavernTableOk, Bool.and_eq_true, decide_eq_true_eq, vector_all_iff, rising_iff, and_assoc, cavernTableGood]

section Load
variable {s : State} {i : Fin 4} {p : CavernTableParams}

theorem exec_loadCavernTable_idle (h : s.port.state = .idle) (hsave : s.nv.saving = none) :
    exec (.loadCavernTable p) s = .next (loadCavernTableAct p s.taken) :=
  congrArg Host.Outcome.next ((station_idle h _).trans (settingsWrite_idle (s := s.taken) hsave _))

theorem loadCavernTableAct_refused (h : p.number = 0 ∨ 4 < p.number ∨ ¬cavernTableGood p) :
    loadCavernTableAct p s = reply .badValue s := by
  unfold loadCavernTableAct
  split
  · rfl
  next i hi =>
    have hbad : ¬cavernTableOk p = true := by
      rw [cavernTableOk_iff]
      rcases h with h | h | h
      · rw [cavernOf_eq_none (.inl h)] at hi; cases hi
      · rw [cavernOf_eq_none (.inr h)] at hi; cases hi
      · exact h
    rw [if_neg hbad]

/-- The state with a cavern's new table written (R63). -/
def tableWritten (i : Fin 4) (p : CavernTableParams) (s : State) : State :=
  setCavernCfg i { s.cfg.caverns[i] with table := ⟨p.m0, p.step, p.pressures⟩ } s

theorem loadCavernTableAct_taken (hi : p.number = i.val + 1) (hgood : cavernTableGood p) :
    loadCavernTableAct p s = reply .done (setVerify (boundaryStartMass i (remeasure i (tableWritten i p s)))) := by
  simp only [loadCavernTableAct, hi, cavernOf_succ, if_pos ((cavernTableOk_iff p).2 hgood)]
  rfl

theorem tableWritten_table (i : Fin 4) (p : CavernTableParams) (s : State) :
    (tableWritten i p s).cfg.caverns[i].table = ⟨p.m0, p.step, p.pressures⟩ := by
  rw [tableWritten, setCavernCfg_cavern]

theorem reply_tableWritten_taken (i : Fin 4) (p : CavernTableParams) (w : CavernWork) (b : Bool) (s : State) :
    reply .done (setVerify (raiseIf b .drift (setCavernWork i w (tableWritten i p s.taken))))
      = (setVerify (raiseIf b .drift (setCavernWork i w (tableWritten i p s)))).answered .done .empty := by
  cases b <;> rfl

theorem started_of_unmeasured {w : CavernWork} (h : w.measured = none) : w.started = w := by
  cases w
  subst h
  simp only [CavernWork.started, Option.getD_none, ite_self]

/-- With neither a voted pressure nor a measured mass the figures stay (R63). -/
theorem remeasured_unvoted (hv : s.caverns[i].votedP = none) (hm : s.caverns[i].measured = none) :
    setVerify (boundaryStartMass i (remeasure i s)) = setVerify s := by
  have hre : remeasure i s = s := by simp only [remeasure, hv]
  rw [hre, boundaryStartMass_eq, setVerify_setVerifyIf, started_of_unmeasured hm, setCavernWork_same]

/-- A voted pressure gives the mass and its flag on the new table, and the start mass except in UNKNOWN (R63, R73). -/
theorem remeasured_voted {v : Nat} (hv : s.caverns[i].votedP = some v) :
    setVerify (boundaryStartMass i (remeasure i s)) =
      let q := s.cfg.caverns[i].table.mass v
      let w := s.caverns[i]
      setVerify (raiseIf (decide (q.2 ≠ .inTable ∧ q.2 ≠ w.tableFlag)) .drift
        (setCavernWork i { w with
          measured := some q.1, tableFlag := q.2, startMass := if w.status = .unknown then w.startMass else q.1 } s)) := by
  have hre : remeasure i s = formMass i v s := by simp only [remeasure, hv]
  rw [hre, boundaryStartMass_eq, setVerify_setVerifyIf, formMass_eq]
  simp only [raiseIf_caverns, setCavernWork_work, setCavernWork_raiseIf, setCavernWork_twice]
  rfl

end Load

/-- Settles O22, by what each command taken leaves. -/
theorem cavernSettings : Obligations.CavernSettings := by
  unfold Obligations.CavernSettings
  refine ⟨fun p s h hsave => ⟨fun hn => ?_, fun i hi => ?_⟩,
    fun p s h hsave => ⟨fun hbad => ?_, fun i hi hgood => ⟨fun hv hm => ?_, fun v hv => ?_⟩⟩⟩
  · rw [exec_setCavern_idle h hsave, setCavernAct_badNumber hn, reply_taken]
  · intro old new runsRead ban
    have hnew : ∀ hok : cavernValuesOk p, s.taken.cfg.caverns[i].updated p = new := fun hok => updated_eq hok.1 old
    have hreads : new.runFieldsDiffer old = runsRead := runFieldsDiffer_eq new old
    have hban : cavernInhibitOf new s.taken.caverns[i].votedP = ban := by
      unfold cavernInhibitOf
      rfl
    refine ⟨fun hbad => ?_, fun hok hlt hsame => ?_, fun hok hlt hchanged => ?_⟩
    · rw [exec_setCavern_idle h hsave, setCavernAct_refused (s := s.taken) hi hbad, reply_taken]
    · rw [exec_setCavern_idle h hsave, setCavernAct_taken hi (hnew hok) hok hlt,
        judged_cavernSet_same (hban.trans hsame), reply_cavernSet_taken, cavernSet, hreads]
      rfl
    · rw [exec_setCavern_idle h hsave, setCavernAct_taken hi (hnew hok) hok hlt,
        judged_cavernSet_changed (hban ▸ hchanged), hban, cavernSet, setCavernWork_setVerifyIf, taken_cfg,
        hreads]
      rfl
  · rw [exec_loadCavernTable_idle h hsave, loadCavernTableAct_refused hbad, reply_taken]
  · rw [exec_loadCavernTable_idle h hsave, loadCavernTableAct_taken hi hgood,
      remeasured_unvoted (s := tableWritten i p s.taken) hv hm]
    rfl
  · intro q w'
    rw [exec_loadCavernTable_idle h hsave, loadCavernTableAct_taken hi hgood,
      remeasured_voted (s := tableWritten i p s.taken) hv]
    simp only [tableWritten_table, reply_tableWritten_taken]
    rfl

end Sys2Proof.Machine
end

section
/-! SUPPORT. The map C(t) of temperature to heat content (R85): the one segment whose span holds a temperature. -/

namespace Sys2Proof.Machine

/-- The temperatures of a table rise strictly (R84). -/
def StoreCfg.Rising (c : StoreCfg) : Prop := ∀ k : Fin 8, c.temps[k.castSucc] < c.temps[k.succ]

section Content
variable {c : StoreCfg} {t : Int}

theorem StoreCfg.Rising.node_le (hr : c.Rising) {j k : Fin 9} (hjk : j ≤ k) : c.temps[j] ≤ c.temps[k] :=
  (Fin.strictMono_iff_lt_succ (f := fun k : Fin 9 => c.temps[k])).2 hr |>.monotone hjk

/-- A temperature within the table's ends lies in some segment (R85). -/
theorem exists_tempSegment (h0 : c.temps[0] ≤ t) (h8 : t < c.temps[8]) :
    ∃ i : Fin 8, c.temps[i.castSucc] ≤ t ∧ t < c.temps[i.succ] := by
  by_contra hnone
  push Not at hnone
  have hall : ∀ k : Fin 9, c.temps[k] ≤ t := Fin.induction h0 hnone
  exact absurd (hall (Fin.last 8)) (Int.not_le.2 h8)

/-- A segment that begins at or below a temperature is no higher than one that ends above it (R85). -/
theorem StoreCfg.Rising.segment_le (hr : c.Rising) {i j : Fin 8} (hi : c.temps[i.castSucc] ≤ t)
    (hj : t < c.temps[j.succ]) : i ≤ j :=
  not_lt.1 fun hji => absurd (hi.trans_lt hj) (Int.not_lt.2 (hr.node_le (Fin.succ_le_castSucc_iff.2 hji)))

/-- Only one segment's span holds a temperature (R85). -/
theorem StoreCfg.Rising.segment_unique (hr : c.Rising) {i j : Fin 8} (hi : c.temps[i.castSucc] ≤ t ∧ t < c.temps[i.succ])
    (hj : c.temps[j.castSucc] ≤ t ∧ t < c.temps[j.succ]) : i = j :=
  le_antisymm (hr.segment_le hi.1 hj.2) (hr.segment_le hj.1 hi.2)

theorem tempSegmentOf_eq (hr : c.Rising) {i : Fin 8} (hi : c.temps[i.castSucc] ≤ t ∧ t < c.temps[i.succ]) :
    c.segmentOf t = some i := by
  have hsome : (c.segmentOf t).isSome = true := List.find?_isSome.2 ⟨i, List.mem_finRange i,
    Bool.and_eq_true_iff.2 ⟨decide_eq_true hi.1, decide_eq_true hi.2⟩⟩
  obtain ⟨j, hj⟩ := Option.isSome_iff_exists.1 hsome
  have hspan := List.find?_some hj
  simp only [Bool.and_eq_true, decide_eq_true_eq] at hspan
  rw [hj, hr.segment_unique hspan hi]

theorem contentOf_below (h : t < c.temps[0]) : c.contentOf t = c.contents[0] := if_pos h

theorem contentOf_above (hr : c.Rising) (h : c.temps[8] ≤ t) : c.contentOf t = c.contents[8] := by
  have h0 : c.temps[0] ≤ t := (hr.node_le (Fin.zero_le (Fin.last 8))).trans h
  rw [StoreCfg.contentOf, if_neg (Int.not_lt.2 h0), if_pos h]

theorem contentOf_segment (hr : c.Rising) {i : Fin 8} (hlow : c.temps[i.castSucc] ≤ t) (hhigh : t < c.temps[i.succ]) :
    c.contentOf t = c.contents[i.castSucc]
      + (c.contents[i.succ] - c.contents[i.castSucc]) * (t - c.temps[i.castSucc]).toNat
        / (c.temps[i.succ] - c.temps[i.castSucc]).toNat := by
  have h0 : c.temps[0] ≤ t := (hr.node_le (Fin.zero_le i.castSucc)).trans hlow
  have h8 : t < c.temps[8] := hhigh.trans_le (hr.node_le (Fin.le_last i.succ))
  simp only [StoreCfg.contentOf, if_neg (Int.not_lt.2 h0), if_neg (Int.not_le.2 h8), tempSegmentOf_eq hr ⟨hlow, hhigh⟩]

end Content

end Sys2Proof.Machine
end

section
/-! SUPPORT. The heat store block (R88 to R92, R94): each of its operations writes the store's fields, raises HEAT_LIMIT and may
set verification pending. -/

namespace Sys2Proof.Machine

/-! ### The order of raises and writes of the store's fields -/

section Writes
variable {s : State}

theorem setStoreWork_store (w : StoreWork) : (setStoreWork w s).store = w := rfl

theorem setStoreWork_twice (w w' : StoreWork) : setStoreWork w (setStoreWork w' s) = setStoreWork w s := rfl

theorem setStoreWork_same : setStoreWork s.store s = s := rfl

theorem setStoreWork_raiseIf (w : StoreWork) (b : Bool) (n : Notice) :
    setStoreWork w (raiseIf b n s) = raiseIf b n (setStoreWork w s) := by
  cases b <;> rfl

theorem setStoreWork_setVerifyIf (w : StoreWork) (b : Bool) :
    setStoreWork w (setVerifyIf b s) = setVerifyIf b (setStoreWork w s) := by
  cases b <;> rfl

theorem raise_eq_raiseIf (n : Notice) : raise n s = raiseIf true n s := rfl

/-- Two raises of one notice are one (R192). -/
theorem raiseIf_raiseIf (b c : Bool) (n : Notice) : raiseIf b n (raiseIf c n s) = raiseIf (b || c) n s := by
  cases b
  · rfl
  · cases c
    · rfl
    · exact raise_twice n s

/-- Two causes of R30 are one. -/
theorem setVerifyIf_setVerifyIf (b c : Bool) : setVerifyIf b (setVerifyIf c s) = setVerifyIf (b || c) s := by
  cases b
  · rfl
  · exact setVerify_setVerifyIf c

end Writes

/-! ### The start content and the inhibit -/

/-- The store's fields once its start content has taken its content (R91 step 3). -/
def StoreWork.refreshed (w : StoreWork) : StoreWork := { w with startContent := w.content.getD w.startContent }

/-- The store's fields once its start content has taken its content, except in UNKNOWN (R91 step 3). -/
def StoreWork.started (w : StoreWork) : StoreWork :=
  { w with startContent := if w.status = .unknown then w.startContent else w.content.getD w.startContent }

section Parts
variable (s : State)

theorem refreshStartContent_eq :
    refreshStartContent s = setVerifyIf (decide (s.store.refreshed.startContent ≠ s.store.startContent))
      (setStoreWork s.store.refreshed s) := by
  unfold refreshStartContent StoreWork.refreshed
  split
  next c hc => simp only [hc, Option.getD_some]
  next hc =>
    simp only [hc, Option.getD_none, ne_eq, not_true_eq_false, decide_false]
    simp only [← hc]
    rfl

theorem storeStartContent_eq :
    storeStartContent s = setVerifyIf (decide (s.store.started.startContent ≠ s.store.startContent))
      (setStoreWork s.store.started s) := by
  by_cases hst : s.store.status = .unknown
  · have hkept : s.store.started = s.store := by rw [StoreWork.started, if_pos hst]
    rw [hkept, setStoreWork_same, decide_eq_false (not_not_intro rfl)]
    simp only [storeStartContent, hst]
    rfl
  · have hmatch : storeStartContent s = refreshStartContent s := by
      unfold storeStartContent
      split
      · rfl
      · rfl
      · contradiction
    rw [hmatch, refreshStartContent_eq, StoreWork.started, if_neg hst]
    rfl

end Parts

/-! ### Temperature outcomes (R88 to R90) -/

/-- A store whose start content a mean forms: UNKNOWN, or HELD before its first mean (R89). -/
abbrev StoreWork.StartsAfresh (w : StoreWork) : Prop := w.status = .unknown ∨ (w.status = .held ∧ w.meanT = none)

/-- The store's fields after a mean of `t` over `n` results, but for its start content (R89). -/
def StoreWork.meanTaken (c : StoreCfg) (t : Int) (n : Nat) (w : StoreWork) : StoreWork :=
  { w with
    meanT := some t, validCount := n, content := some (c.contentOf t)
    status := .good, holdAge := 0, inhibit := storeInhibitOf c (some t) }

/-- The store's fields after a mean of `t` over `n` results (R89). -/
def StoreWork.goodMean (c : StoreCfg) (t : Int) (n : Nat) (w : StoreWork) : StoreWork :=
  { w.meanTaken c t n with startContent := if w.StartsAfresh then c.contentOf t else w.startContent }

/-- The store's fields after an outcome with no counted result (R90). -/
def StoreWork.noValid (w : StoreWork) : StoreWork :=
  { w with
    validCount := 0, status := if w.status = .good then .held else w.status
    holdAge := if w.status = .good then 0 else w.holdAge }

section Outcomes
variable (s : State)

/-- A GOOD mean up to its start content (R89). -/
theorem goodMean_eq_match (t : Int) (n : Nat) :
    goodMean t n s =
      let w := s.store
      let c := s.cfg.store
      let after := raiseIf (decide (storeInhibitOf c (some t) ≠ w.inhibit)) .heatLimit (setStoreWork (w.meanTaken c t n) s)
      match w.status with
      | .good => after
      | .held => if w.meanT.isSome then raise .heatLimit after else setVerify (refreshStartContent (raise .heatLimit after))
      | .unknown => setVerify (refreshStartContent (raise .heatLimit after)) := by
  simp only [goodMean, judgeStoreInhibit, setStoreWork_raiseIf, setStoreWork_twice, setStoreWork_store, setStoreWork_cfg,
    raiseIf_store]
  rfl

/-- What forms the start content afresh beside a raise (R89). -/
theorem refresh_raised (w : StoreWork) (b : Bool) :
    setVerify (refreshStartContent (raise .heatLimit (raiseIf b .heatLimit (setStoreWork w s))))
      = setVerify (raise .heatLimit (setStoreWork w.refreshed s)) := by
  rw [refreshStartContent_eq, setVerify_setVerifyIf, raise_eq_raiseIf, raiseIf_raiseIf, Bool.true_or, raiseIf_store,
    setStoreWork_store, setStoreWork_raiseIf, setStoreWork_twice]
  rfl

/-- What a GOOD mean leaves (R89). -/
theorem goodMean_eq (t : Int) (n : Nat) :
    goodMean t n s =
      let w := s.store
      let c := s.cfg.store
      setVerifyIf (decide w.StartsAfresh)
        (raiseIf (decide (w.status ≠ .good ∨ storeInhibitOf c (some t) ≠ w.inhibit)) .heatLimit
          (setStoreWork (w.goodMean c t n) s)) := by
  have hraised : s.store.status ≠ .good →
      decide (s.store.status ≠ .good ∨ storeInhibitOf s.cfg.store (some t) ≠ s.store.inhibit) = true :=
    fun hst => decide_eq_true (.inl hst)
  rw [goodMean_eq_match]
  dsimp only
  split
  next hst =>
    have hkept : ¬s.store.StartsAfresh := by simp [StoreWork.StartsAfresh, hst]
    simp only [StoreWork.goodMean, if_neg hkept, decide_eq_false hkept, hst, ne_eq, not_true_eq_false, false_or]
    rfl
  next hst =>
    rw [hraised (by simp [hst])]
    split
    next hv =>
      have hkept : ¬s.store.StartsAfresh := by simp [StoreWork.StartsAfresh, hst, Option.isSome_iff_ne_none.1 hv]
      rw [StoreWork.goodMean, if_neg hkept, decide_eq_false hkept, raise_eq_raiseIf, raiseIf_raiseIf, Bool.true_or]
      rfl
    next hv =>
      have hfresh : s.store.StartsAfresh := .inr ⟨hst, Option.not_isSome_iff_eq_none.1 hv⟩
      rw [refresh_raised, StoreWork.goodMean, if_pos hfresh, decide_eq_true hfresh]
      rfl
  next hst =>
    have hfresh : s.store.StartsAfresh := .inl hst
    rw [hraised (by simp [hst]), refresh_raised, StoreWork.goodMean, if_pos hfresh, decide_eq_true hfresh]
    rfl

/-- What an outcome with no counted result leaves (R90). -/
theorem noValid_eq :
    noValid s = raiseIf (decide (s.store.status = .good)) .heatLimit (setStoreWork s.store.noValid s) := by
  simp only [noValid]
  split
  next hst =>
    rw [StoreWork.noValid, if_pos hst, if_pos hst, decide_eq_true hst]
    rfl
  all_goals
    next hst =>
      have h : s.store.status ≠ .good := by simp [hst]
      rw [StoreWork.noValid, if_neg h, if_neg h, decide_eq_false h]
      rfl

/-- The counted results under the one condition of R88. -/
theorem countedTemps_eq (results : List ChanResult) :
    countedTemps results = (results.filterMap ChanResult.value).filter fun v => decide (-400 ≤ v ∧ v ≤ 7000) := by
  simp only [countedTemps, Bool.decide_and]

variable {s} {results : List ChanResult}

theorem takeTemperatures_none (h : countedTemps results = []) :
    takeTemperatures results s = raiseIf (decide (s.store.status = .good)) .heatLimit
      (setStoreWork { s.store.noValid with heard := true } s) := by
  simp only [takeTemperatures, h, noValid_eq]
  rfl

theorem takeTemperatures_some {l : List Int} (h : countedTemps results = l) (hl : l ≠ []) :
    takeTemperatures results s =
      let w := { s.store with heard := true }
      let t := l.sum.fdiv l.length
      setVerifyIf (decide s.store.StartsAfresh)
        (raiseIf (decide (s.store.status ≠ .good ∨ storeInhibitOf s.cfg.store (some t) ≠ s.store.inhibit)) .heatLimit
          (setStoreWork (w.goodMean s.cfg.store t l.length) s)) := by
  cases l with
  | nil => contradiction
  | cons v l =>
    simp only [takeTemperatures, h, goodMean_eq]
    rfl

end Outcomes

/-! ### The boundary and the beginning (R91, R92) -/

/-- Silence since the previous boundary or beginning costs a GOOD store its trust (R91 step 1). -/
abbrev StoreWork.Silent (w : StoreWork) : Prop := w.status = .good ∧ w.heard = false

/-- The store's hold age at a boundary (R91 steps 1 and 2). -/
def StoreWork.nextAge (w : StoreWork) : Nat :=
  if w.Silent then 1 else if w.status = .good then w.holdAge else if w.holdAge < 65535 then w.holdAge + 1 else 65535

/-- A held store, or one held at this boundary, is lost as its hold age gets to the limit (R91 step 2). -/
abbrev StoreWork.LostAt (limit : Nat) (w : StoreWork) : Prop := (w.Silent ∨ w.status = .held) ∧ limit ≤ w.nextAge

/-- The store's fields after steps 1 and 2 of R91. -/
def StoreWork.aged (limit : Nat) (w : StoreWork) : StoreWork :=
  { w with
    status := if w.LostAt limit then .unknown else if w.Silent then .held else w.status
    holdAge := w.nextAge }

/-- The store's fields after a boundary (R91). -/
def StoreWork.atBoundary (limit : Nat) (w : StoreWork) : StoreWork := { (w.aged limit).started with heard := false }

section Age
variable {w : StoreWork}

theorem StoreWork.nextAge_silent (h : w.Silent) : w.nextAge = 1 := if_pos h

theorem StoreWork.nextAge_heard (h : ¬w.Silent) (hst : w.status = .good) : w.nextAge = w.holdAge := by
  rw [StoreWork.nextAge, if_neg h, if_pos hst]

theorem StoreWork.nextAge_of_not_good (hst : w.status ≠ .good) : w.nextAge = incTo 65535 w.holdAge := by
  rw [StoreWork.nextAge, if_neg fun h => hst h.1, if_neg hst, incTo_eq]

/-- Only a boundary at which a store is lost makes it UNKNOWN or ends that (R91). -/
theorem aged_unknown_iff (limit : Nat) : (w.aged limit).status = .unknown ↔ w.LostAt limit ∨ w.status = .unknown := by
  by_cases hlost : w.LostAt limit
  · rw [StoreWork.aged, if_pos hlost]
    exact iff_of_true rfl (.inl hlost)
  · rw [StoreWork.aged, if_neg hlost, or_iff_right hlost]
    split
    next hsilent => simp [hsilent.1]
    next => rfl

theorem not_unknown_of_lostAt {limit : Nat} (h : w.LostAt limit) : w.status ≠ .unknown := by
  obtain ⟨⟨hgood, -⟩ | hheld, -⟩ := h
  · simp [hgood]
  · simp [hheld]

end Age

section Boundary
variable (s : State)

/-- A HELD store grows older by one boundary, and is lost at the limit (R91 step 2). -/
theorem storeAge_held (h : s.store.status = .held) :
    storeAge s =
      let age := incTo 65535 s.store.holdAge
      let lost := decide (s.cfg.site.holdLimit ≤ age)
      setVerifyIf lost (raiseIf lost .heatLimit
        (setStoreWork { s.store with holdAge := age, status := if s.cfg.site.holdLimit ≤ age then .unknown else .held } s)) := by
  simp only [storeAge, h]
  split
  next hage =>
    rw [decide_eq_true hage]
    rfl
  next hage =>
    rw [decide_eq_false hage]
    rfl

/-- What steps 1 and 2 of R91 leave. -/
theorem storeAge_storeSilence :
    storeAge (storeSilence s) =
      let lost := s.store.LostAt s.cfg.site.holdLimit
      setVerifyIf (decide lost) (raiseIf (decide (s.store.Silent ∨ lost)) .heatLimit
        (setStoreWork (s.store.aged s.cfg.site.holdLimit) s)) := by
  by_cases hsilent : s.store.Silent
  · have hlost : s.store.LostAt s.cfg.site.holdLimit ↔ s.cfg.site.holdLimit ≤ 1 := by
      rw [StoreWork.LostAt, StoreWork.nextAge_silent hsilent, and_iff_right (.inl hsilent)]
    have hheld : storeSilence s = raiseIf true .heatLimit (setStoreWork { s.store with status := .held, holdAge := 0 } s) :=
      if_pos hsilent
    rw [hheld, storeAge_held _ (by rw [raiseIf_store, setStoreWork_store])]
    simp only [raiseIf_store, raiseIf_cfg, setStoreWork_store, setStoreWork_cfg, setStoreWork_raiseIf, setStoreWork_twice,
      raiseIf_raiseIf, Bool.or_true, StoreWork.aged, StoreWork.nextAge_silent hsilent, hlost, if_pos hsilent,
      decide_eq_true hsilent, Bool.decide_or, Bool.true_or]
    rfl
  · have hheard : storeSilence s = s := if_neg hsilent
    rw [hheard]
    by_cases hheld : s.store.status = .held
    · have hnext := StoreWork.nextAge_of_not_good (w := s.store) (by simp [hheld])
      rw [storeAge_held s hheld]
      simp only [StoreWork.LostAt, StoreWork.aged, hnext, hsilent, hheld, or_true, true_and, false_or, if_false]
    · have hlost : ¬s.store.LostAt s.cfg.site.holdLimit := fun h => h.1.elim hsilent hheld
      dsimp only
      rw [decide_eq_false hlost, decide_eq_false (not_or_intro hsilent hlost), StoreWork.aged, if_neg hlost, if_neg hsilent]
      unfold storeAge
      split
      next hst =>
        rw [StoreWork.nextAge_heard hsilent hst]
        rfl
      next hst => exact absurd hst hheld
      next hst =>
        rw [StoreWork.nextAge_of_not_good (by simp [hst])]
        rfl

/-- What a boundary leaves (R91). -/
theorem storeBoundary_eq :
    storeBoundary s =
      let w := s.store
      let lost := w.LostAt s.cfg.site.holdLimit
      let after := w.atBoundary s.cfg.site.holdLimit
      setVerifyIf (decide (lost ∨ after.startContent ≠ w.startContent))
        (raiseIf (decide (w.Silent ∨ lost)) .heatLimit (setStoreWork after s)) := by
  simp only [storeBoundary, storeStartContent_eq, storeAge_storeSilence, setVerifyIf_store, raiseIf_store, setStoreWork_store,
    setStoreWork_setVerifyIf, setStoreWork_raiseIf, setStoreWork_twice, setVerifyIf_setVerifyIf]
  rw [Bool.or_comm, ← Bool.decide_or]
  rfl

/-- What a beginning leaves (R92). -/
theorem storeBegin_eq :
    storeBegin s = setVerifyIf (decide (s.store.started.startContent ≠ s.store.startContent))
      (setStoreWork { s.store.started with heard := false } s) := by
  simp only [storeBegin, storeStartContent_eq, setVerifyIf_store, setStoreWork_store, setStoreWork_setVerifyIf,
    setStoreWork_twice]

/-- The dispatch unit recomputes at a boundary that loses the store (R91, R123). -/
theorem takeBoundary_store (ended n : Nat) :
    takeBoundary ended n .store s = recomputeIf (decide (s.store.LostAt s.cfg.site.holdLimit)) (storeBoundary s) := by
  have hstatus : (storeBoundary s).store.status = (s.store.aged s.cfg.site.holdLimit).status := by
    rw [storeBoundary_eq, setVerifyIf_store, raiseIf_store]
    rfl
  have hchange : (decide ((storeBoundary s).store.status = .unknown) != decide (s.store.status = .unknown))
      = decide (s.store.LostAt s.cfg.site.holdLimit) := by
    rw [hstatus]
    simp only [aged_unknown_iff]
    by_cases hlost : s.store.LostAt s.cfg.site.holdLimit
    · rw [decide_eq_true hlost, decide_eq_true (.inl hlost), decide_eq_false (not_unknown_of_lostAt hlost)]
      rfl
    · simp only [hlost, false_or, bne_self_eq_false, decide_false]
  exact congrArg (recomputeIf · (storeBoundary s)) hchange

end Boundary

/-! ### What the operations leave outside the store -/

/-- A state that differs from `s` in the store, the engine and the notices at most. -/
def SameBesideStore (s t : State) : Prop := { t with store := s.store, engine := s.engine, notices := s.notices } = s

/-- A write of the store's fields beside a raise and a cause of R30 leaves the rest. -/
theorem sameBesideStore_written (w : StoreWork) (b c : Bool) (n : Notice) (s : State) :
    SameBesideStore s (setVerifyIf b (raiseIf c n (setStoreWork w s))) := by
  cases b <;> cases c <;> rfl

/-- Settles O27, by what each operation leaves of the store, and by the one segment whose span holds a temperature. -/
theorem storeFollowsTemperatures : Obligations.StoreFollowsTemperatures := by
  unfold Obligations.StoreFollowsTemperatures
  refine ⟨fun results s => ?_, fun ended n s => ?_, fun c t hr => ⟨contentOf_below, contentOf_above hr, fun h0 h8 => ?_,
    fun _ => contentOf_segment hr⟩⟩
  · intro w counted t
    have hcounted : countedTemps results = counted := countedTemps_eq results
    refine ⟨fun hnone => takeTemperatures_none (hcounted.trans hnone), fun hsome => ?_⟩
    have ht : t = _ := takeTemperatures_some hcounted hsome
    rw [ht]
    refine ⟨?_, ?_, ?_, sameBesideStore_written _ _ _ _ s⟩
    · rw [setVerifyIf_store, raiseIf_store, setStoreWork_store]
      rfl
    · exact setVerifyIf_engine_congr _ (by rw [raiseIf_engine, setStoreWork_engine])
    · rw [setVerifyIf_notices]
      exact raiseIf_notices_congr _ _ rfl
  · intro w silent held age lost status start t
    have ht : t = _ := storeBoundary_eq s
    refine ⟨?_, ?_, ?_, ?_, takeBoundary_store s ended n, ?_⟩
    · rw [ht, setVerifyIf_store, raiseIf_store]
      rfl
    · rw [ht]
      exact setVerifyIf_engine_congr _ (by rw [raiseIf_engine, setStoreWork_engine])
    · rw [ht, setVerifyIf_notices]
      exact raiseIf_notices_congr _ _ rfl
    · rw [ht]
      exact sameBesideStore_written _ _ _ _ s
    · rw [storeBegin_eq, setVerifyIf_store]
      rfl
  · obtain ⟨i, hi⟩ := exists_tempSegment h0 h8
    exact ⟨i, hi, fun _ hj => StoreCfg.Rising.segment_unique hr hj hi⟩

end Sys2Proof.Machine
end

section
/-! SUPPORT. SET_STORE and LOAD_STORE_TABLE (R84 to R87, R94): their ranges as propositions, and the state that one taken
leaves. -/

namespace Sys2Proof.Machine

/-! ### Ranges -/

theorem withinInt_iff (lo hi : Int) (o : Option Int) : withinInt lo hi o = true ↔ ∀ v ∈ o, lo ≤ v ∧ v ≤ hi := by
  simp [withinInt, Option.all_eq_true]

/-- The given values of a SET_STORE lie in the ranges that depend on no other field (R82, R86). -/
def storeValuesOk (p : StoreParams) : Prop :=
  (∀ v ∈ p.capacity, v ≤ 4000000) ∧ (∀ v ∈ p.capturePermille, v ≤ 1000) ∧ (∀ v ∈ p.drawPermille, v ≤ 1000) ∧
    (∀ v ∈ p.lossPpm, v ≤ 1000) ∧ (∀ v ∈ p.yieldG, 1000 ≤ v ∧ v ≤ 20000) ∧ (∀ v ∈ p.useG, 1000 ≤ v ∧ v ≤ 20000) ∧
    (∀ v ∈ p.tMaxCharge, -400 ≤ v ∧ v ≤ 7000) ∧ (∀ v ∈ p.tMinDischarge, -400 ≤ v ∧ v ≤ 7000)

theorem storeInRange_iff (p : StoreParams) : storeInRange p = true ↔ storeValuesOk p := by
  simp only [storeInRange, Bool.and_eq_true, within_iff, withinInt_iff, Nat.zero_le, true_and, and_assoc, storeValuesOk]

/-- A SET_STORE that would leave the settings `new` is taken (R86). -/
def storeSettingsGood (p : StoreParams) (new : StoreCfg) : Prop :=
  storeValuesOk p ∧ new.heatFloor ≤ new.capacity ∧ new.tMinDischarge < new.tMaxCharge

/-- The fields that runs read, compared as one tuple (R87). -/
theorem storeRunFieldsDiffer_eq (a b : StoreCfg) :
    a.runFieldsDiffer b =
      decide ((a.capacity, a.heatFloor, a.capturePermille, a.drawPermille, a.lossPpm, a.yieldG, a.useG)
        ≠ (b.capacity, b.heatFloor, b.capturePermille, b.drawPermille, b.lossPpm, b.yieldG, b.useG)) := by
  simp only [StoreCfg.runFieldsDiffer, ne_eq, Prod.mk.injEq, not_and_or, Bool.decide_or, Bool.or_assoc]

/-- The values of a LOAD_STORE_TABLE are taken (R84). -/
def storeTableGood (p : StoreTableParams) : Prop :=
  (∀ k : Fin 9, -400 ≤ p.temps[k] ∧ p.temps[k] ≤ 7000 ∧ p.contents[k] ≤ 4000000) ∧
    (∀ k : Fin 8, p.temps[k.castSucc] < p.temps[k.succ] ∧ p.contents[k.castSucc] ≤ p.contents[k.succ])

theorem intVector_all_iff {n : Nat} (v : Vector Int n) (q : Int → Bool) :
    v.toList.all q = true ↔ ∀ k : Fin n, q v[k] = true := by
  simp [Fin.forall_iff]

/-- Each number of a strictly rising vector is below the next (R84). -/
theorem strictlyRising_iff {n : Nat} (v : Vector Int (n + 1)) :
    strictlyRising v = true ↔ ∀ k : Fin n, v[k.castSucc] < v[k.succ] := by
  rw [strictlyRising, List.all_eq_true, List.forall_mem_iff_forall_getElem]
  simp [Fin.forall_iff]

theorem storeTableOk_iff (p : StoreTableParams) : storeTableOk p = true ↔ storeTableGood p := by
  simp only [storeTableOk, Bool.and_eq_true, decide_eq_true_eq, intVector_all_iff, vector_all_iff, strictlyRising_iff,
    rising_iff, storeTableGood, forall_and]
  tauto

/-! ### SET_STORE (R86, R87, R94) -/

/-- A SET_STORE taken, before its inhibit is judged (R86, R87). -/
def storeSet (new : StoreCfg) (s : State) : State := setVerifyIf (new.runFieldsDiffer s.cfg.store) (setStoreCfg new s)

section Settings
variable {s t : State} {p : StoreParams} {new : StoreCfg}

theorem exec_setStore_idle (h : s.port.state = .idle) (hsave : s.nv.saving = none) (p : StoreParams) :
    exec (.setStore p) s = .next (setStoreAct p s.taken) :=
  congrArg Host.Outcome.next ((station_idle h _).trans (settingsWrite_idle (s := s.taken) hsave _))

/-- What SET_STORE examines (R86). -/
theorem storeSettings_guard_iff :
    (storeInRange p && decide (new.heatFloor ≤ new.capacity) && decide (new.tMinDischarge < new.tMaxCharge)) = true
      ↔ storeSettingsGood p new := by
  simp only [Bool.and_eq_true, storeInRange_iff, decide_eq_true_eq, and_assoc, storeSettingsGood]

theorem setStoreAct_refused (h : ¬storeSettingsGood p (s.cfg.store.updated p)) : setStoreAct p s = reply .badValue s :=
  if_neg (mt storeSettings_guard_iff.1 h)

theorem setStoreAct_taken (hnew : s.cfg.store.updated p = new) (h : storeSettingsGood p new) :
    setStoreAct p s = reply .done (recomputeIfBanned s (judgeStoreInhibit (storeSet new s))) := by
  subst hnew
  exact if_pos (storeSettings_guard_iff.2 h)

theorem judgeStoreInhibit_same (h : storeInhibitOf s.cfg.store s.store.meanT = s.store.inhibit) :
    judgeStoreInhibit s = s := by
  simp only [judgeStoreInhibit, h, ne_eq, not_true_eq_false, decide_false]
  exact setStoreWork_same

theorem judgeStoreInhibit_changed (h : storeInhibitOf s.cfg.store s.store.meanT ≠ s.store.inhibit) :
    judgeStoreInhibit s =
      raise .heatLimit (setStoreWork { s.store with inhibit := storeInhibitOf s.cfg.store s.store.meanT } s) := by
  rw [judgeStoreInhibit, decide_eq_true h]
  rfl

theorem recomputeIfBanned_storeChanged (h : t.store.inhibit ≠ s.store.inhibit) : recomputeIfBanned s t = recompute t := by
  have hban : banInputs t ≠ banInputs s := fun heq => by
    simp only [banInputs, Prod.mk.injEq] at heq
    exact h heq.2.1
  rw [recomputeIfBanned, recomputeIf, if_pos (decide_eq_true hban)]

end Settings

section Set
variable (new : StoreCfg) (s : State)

theorem storeSet_cfg : (storeSet new s).cfg.store = new := by rw [storeSet, setVerifyIf_cfg, setStoreCfg]

theorem storeSet_store : (storeSet new s).store = s.store := setVerifyIf_store _ _

theorem reply_storeSet_taken : reply .done (storeSet new s.taken) = (storeSet new s).answered .done .empty := by
  unfold storeSet
  rw [taken_cfg]
  cases new.runFieldsDiffer s.cfg.store <;> rfl

variable {new s}

/-- A SET_STORE that gives the inhibit already held changes the settings alone (R94). -/
theorem judged_storeSet_same (h : storeInhibitOf new s.store.meanT = s.store.inhibit) :
    recomputeIfBanned s (judgeStoreInhibit (storeSet new s)) = storeSet new s := by
  rw [judgeStoreInhibit_same (by rw [storeSet_cfg, storeSet_store, h])]
  exact recomputeIfBanned_same (setVerifyIf_caverns _ _) (storeSet_store new s) (setVerifyIf_disp _ _)

/-- A SET_STORE that changes the inhibit raises HEAT_LIMIT and makes the dispatch unit recompute (R94, R123). -/
theorem judged_storeSet_changed (h : storeInhibitOf new s.store.meanT ≠ s.store.inhibit) :
    recomputeIfBanned s (judgeStoreInhibit (storeSet new s)) =
      recompute (raise .heatLimit
        (setStoreWork { s.store with inhibit := storeInhibitOf new s.store.meanT } (storeSet new s))) := by
  rw [judgeStoreInhibit_changed (by rwa [storeSet_cfg, storeSet_store]), storeSet_cfg, storeSet_store]
  exact recomputeIfBanned_storeChanged h

end Set

/-! ### LOAD_STORE_TABLE (R84) -/

/-- The state with the store's new table written (R84). -/
def storeTableWritten (p : StoreTableParams) (s : State) : State :=
  setStoreCfg { s.cfg.store with temps := p.temps, contents := p.contents } s

section Load
variable {s : State} {p : StoreTableParams}

theorem exec_loadStoreTable_idle (h : s.port.state = .idle) (hsave : s.nv.saving = none) (p : StoreTableParams) :
    exec (.loadStoreTable p) s = .next (loadStoreTableAct p s.taken) :=
  congrArg Host.Outcome.next ((station_idle h _).trans (settingsWrite_idle (s := s.taken) hsave _))

theorem loadStoreTableAct_refused (h : ¬storeTableGood p) : loadStoreTableAct p s = reply .badValue s :=
  if_neg (mt (storeTableOk_iff p).1 h)

theorem loadStoreTableAct_taken (h : storeTableGood p) :
    loadStoreTableAct p s = reply .done (storeStartContent (recontent (storeTableWritten p s))) :=
  if_pos ((storeTableOk_iff p).2 h)

/-- With neither a mean temperature nor a content the figures stay (R84). -/
theorem recontent_unmeasured (ht : s.store.meanT = none) (hc : s.store.content = none) :
    storeStartContent (recontent s) = s := by
  have hre : recontent s = s := by simp only [recontent, ht]
  have hkept : s.store.started.startContent = s.store.startContent := by
    simp only [StoreWork.started, hc, Option.getD_none, ite_self]
  have hstarted : s.store.started = s.store := congrArg (fun m => { s.store with startContent := m }) hkept
  rw [hre, storeStartContent_eq, hstarted, decide_eq_false (not_not_intro rfl)]
  rfl

/-- The store's fields with the content `c`, which the start content takes except in UNKNOWN (R84, R91 step 3). -/
def StoreWork.recontented (c : Nat) (w : StoreWork) : StoreWork :=
  { w with content := some c, startContent := if w.status ≠ .unknown then c else w.startContent }

/-- A mean temperature gives the content on the new table, and the start content except in UNKNOWN (R84). -/
theorem recontent_measured {t : Int} (ht : s.store.meanT = some t) :
    storeStartContent (recontent s) =
      let c := s.cfg.store.contentOf t
      setVerifyIf (decide (s.store.status ≠ .unknown ∧ c ≠ s.store.startContent))
        (setStoreWork (s.store.recontented c) s) := by
  have hre : recontent s = setStoreWork { s.store with content := some (s.cfg.store.contentOf t) } s := by
    simp only [recontent, ht]
  rw [hre, storeStartContent_eq, setStoreWork_store, setStoreWork_twice]
  by_cases hst : s.store.status = .unknown
  · simp only [StoreWork.started, StoreWork.recontented, hst, ne_eq, not_true_eq_false, if_true, if_false, false_and]
  · simp only [StoreWork.started, StoreWork.recontented, hst, ne_eq, not_false_eq_true, if_true, if_false, true_and,
      Option.getD_some]

theorem reply_storeTableWritten_taken (p : StoreTableParams) (w : StoreWork) (b : Bool) (s : State) :
    reply .done (setVerifyIf b (setStoreWork w (storeTableWritten p s.taken)))
      = (setVerifyIf b (setStoreWork w (storeTableWritten p s))).answered .done .empty := by
  cases b <;> rfl

end Load

/-- Settles O26, by what each command taken leaves. -/
theorem storeSettings : Obligations.StoreSettings := by
  unfold Obligations.StoreSettings
  refine ⟨fun p s h hsave => ?_, fun p s h hsave => ⟨fun hbad => ?_, fun hgood ht hc => ?_, fun t hgood ht => ?_⟩⟩
  · intro old new inRange good runsRead ban
    have hnew : s.taken.cfg.store.updated p = new := rfl
    have hreads : new.runFieldsDiffer old = runsRead := storeRunFieldsDiffer_eq new old
    have hban : storeInhibitOf new s.taken.store.meanT = ban := by
      unfold storeInhibitOf
      rfl
    rw [exec_setStore_idle h hsave]
    refine ⟨fun hbad => ?_, fun hgood hsame => ?_, fun hgood hchanged => ?_⟩
    · rw [setStoreAct_refused (s := s.taken) hbad, reply_taken]
    · rw [setStoreAct_taken hnew hgood, judged_storeSet_same (hban.trans hsame), reply_storeSet_taken, ← hreads]
      rfl
    · rw [setStoreAct_taken hnew hgood, judged_storeSet_changed (hban ▸ hchanged), storeSet,
        setStoreWork_setVerifyIf, taken_cfg, ← hreads, ← hban]
      rfl
  · rw [exec_loadStoreTable_idle h hsave, loadStoreTableAct_refused hbad, reply_taken]
  · rw [exec_loadStoreTable_idle h hsave, loadStoreTableAct_taken hgood,
      recontent_unmeasured (s := storeTableWritten p s.taken) ht hc]
    rfl
  · rw [exec_loadStoreTable_idle h hsave, loadStoreTableAct_taken hgood,
      recontent_measured (s := storeTableWritten p s.taken) ht]
    exact congrArg _ (reply_storeTableWritten_taken p _ _ s)

end Sys2Proof.Machine
end

section
/-! SUPPORT. A roster entry's move into a state (R105, R117, R129, R131, R179, R182): what it leaves of the dispatch unit, the link
and the engine, each said once. -/

namespace Sys2Proof.Machine

section Move
variable (i : Fin 8) (new : TrainState) (timer : Option Timer) (s : State)

/-- What a move leaves of the dispatch unit: the changeover record and the setpoints (R129, R131). -/
theorem moveTrain_disp :
    (moveTrain i new timer s).disp = { s.disp with
      changeKind := if s.trains[i].state = .running ∧ new ≠ .running then some s.cfg.trains[i].kind else s.disp.changeKind
      changeCount := if s.trains[i].state = .running ∧ new ≠ .running then 0 else s.disp.changeCount
      setpoints := if new.keepsSetpoint then s.disp.setpoints else s.disp.setpoints.set i none } := by
  simp only [moveTrain, setVerifyIf_disp, notePollMark_disp]
  unfold dropSetpoint noteLeftRunning
  split <;> split <;> rfl

/-- What a move leaves of the link: the entry's poll mark and its failure count (R179, R182). -/
theorem moveTrain_link :
    (moveTrain i new timer s).link = { s.link with
      polls := if new.bound = false then s.link.polls.set i none
        else if s.trains[i].state.bound then s.link.polls else s.link.polls.set i (some ⟨true, none⟩)
      counters := if new.bound && !s.trains[i].state.bound then
        s.link.counters.set i { s.link.counters[i] with consecutive := 0 } else s.link.counters } := by
  simp only [moveTrain, setVerifyIf_link]
  unfold notePollMark
  cases new.bound <;> cases s.trains[i].state.bound <;> simp

/-- What a move leaves of the engine: a change of group and an entry into RESTING are causes of R30 (R105, R117). -/
theorem moveTrain_engine :
    (moveTrain i new timer s).engine =
      (setVerifyIf (decide (s.trains[i].state.group ≠ new.group ∨ new = .resting)) s).engine := by
  simp only [moveTrain, Bool.decide_or]
  exact setVerifyIf_engine_congr _ (by simp)

/-- A move leaves all else as it was. -/
theorem moveTrain_frame :
    { moveTrain i new timer s with trains := s.trains, disp := s.disp, link := s.link, engine := s.engine } = s := by
  simp

end Move

/-! ### The IDENT line (R101) -/

/-- An IDENT of the line is in flight to an entry (R101). -/
theorem identInFlight_eq (i : Fin 8) (s : State) :
    identInFlight i s = s.link.slot.any fun x => decide (x.entry = some i ∧ x.origin = .ident) := by
  unfold identInFlight
  cases s.link.slot <;> simp

/-- An entry joins the line where it is neither in line nor in flight (R101; log entry 20). -/
theorem putIdent_eq (i : Fin 8) (s : State) :
    putIdent i s = { s with link := { s.link with
      idents := if i ∈ s.link.idents ∨ identInFlight i s = true then s.link.idents else s.link.idents ++ [i] } } := by
  unfold putIdent
  split <;> rfl

/-! ### The three kinds of state, as the rules list them -/

theorem keepsSetpoint_iff (st : TrainState) : st.keepsSetpoint = true ↔ st = .starting ∨ st = .running ∨ st = .lost := by
  cases st <;> decide

theorem bound_eq_decide (st : TrainState) : st.bound = decide (st ≠ .absent ∧ st ≠ .withdrawn) := by
  cases st <;> rfl

theorem bound_iff (st : TrainState) : st.bound = true ↔ st ≠ .absent ∧ st ≠ .withdrawn := by
  simp [bound_eq_decide]

/-- Settles O29, by what a move leaves of each part of the state. -/
theorem entryEntersState : Obligations.EntryEntersState := by
  unfold Obligations.EntryEntersState
  intro i new timer s old group binds t
  have hgroup : TrainState.group = group := funext fun st => by cases st <;> rfl
  have hbinds : TrainState.bound = binds := funext bound_eq_decide
  refine ⟨moveTrain_trains s i new timer, ?_, ?_, ?_, moveTrain_frame i new timer s⟩
  · simp only [t, moveTrain_disp, keepsSetpoint_iff, old]
  · rw [← hbinds]
    exact moveTrain_link i new timer s
  · rw [← hgroup]
    exact moveTrain_engine i new timer s

end Sys2Proof.Machine
end

section
/-! SUPPORT. SET_OUTAGE, WITHDRAW, RESTORE, RELEASE and REBIND (R108, R112 to R115): the checks they share, and what each act
leaves. -/

namespace Sys2Proof.Machine

/-! ### The commands taken in IDLE -/

section Taken
variable {s : State} (h : s.port.state = .idle)
include h

theorem exec_setOutage_idle (p : OutageParams) : exec (.setOutage p) s = .next (setOutageAct p s.taken) :=
  congrArg Host.Outcome.next (station_idle h _)

theorem exec_withdraw_idle (n : Nat) :
    exec (.withdraw n) s = .next (entryCommand n TrainState.withdrawable withdrawAct s.taken) :=
  congrArg Host.Outcome.next (station_idle h _)

theorem exec_restore_idle (n : Nat) :
    exec (.restore n) s = .next (entryCommand n (fun st => decide (st = .withdrawn)) restoreAct s.taken) :=
  congrArg Host.Outcome.next (station_idle h _)

theorem exec_release_idle (n : Nat) :
    exec (.release n) s = .next (entryCommand n (fun st => decide (st = .lockedOut)) releaseAct s.taken) :=
  congrArg Host.Outcome.next (station_idle h _)

theorem exec_rebind_idle (n : Nat) :
    exec (.rebind n) s = .next (entryCommand n TrainState.rebindable rebindAct s.taken) :=
  congrArg Host.Outcome.next (station_idle h _)

end Taken

/-! ### The checks that four of them share (R108, R112 to R114) -/

section Checks
variable {allowed : TrainState → Bool} {act : Fin 8 → State → State} {s : State}

theorem entryCommand_outside {n : Nat} (hn : n = 0 ∨ 8 < n) : entryCommand n allowed act s = reply .badValue s := by
  rw [entryCommand, entryOf_eq_none hn]

variable {i : Fin 8}

theorem entryCommand_unconfigured (hc : s.cfg.trains[i].configured = false) :
    entryCommand (i.val + 1) allowed act s = reply .noRecord s := by
  simp only [entryCommand, entryOf_succ, hc, Bool.not_false, if_true]

theorem entryCommand_refused (hc : s.cfg.trains[i].configured = true) (ha : allowed s.trains[i].state = false) :
    entryCommand (i.val + 1) allowed act s = reply .wrongState s := by
  simp only [entryCommand, entryOf_succ, hc, ha, Bool.not_true, Bool.false_eq_true, if_false]

theorem entryCommand_allowed (hc : s.cfg.trains[i].configured = true) (ha : allowed s.trains[i].state = true) :
    entryCommand (i.val + 1) allowed act s = reply .done (act i s) := by
  simp only [entryCommand, entryOf_succ, hc, ha, Bool.not_true, Bool.false_eq_true, if_false, if_true]

end Checks

theorem withdrawable_eq_false {st : TrainState}
    (h : st = .starting ∨ st = .running ∨ st = .stopping ∨ st = .withdrawn) : st.withdrawable = false := by
  rcases h with rfl | rfl | rfl | rfl <;> rfl

theorem withdrawable_eq_true {st : TrainState}
    (h : st = .ready ∨ st = .resting ∨ st = .lockedOut ∨ st = .lost ∨ st = .absent) : st.withdrawable = true := by
  rcases h with rfl | rfl | rfl | rfl | rfl <;> rfl

theorem rebindable_eq_false {st : TrainState} (ha : st ≠ .absent) (hr : st ≠ .ready) (hw : st ≠ .withdrawn) :
    st.rebindable = false := by
  cases st <;> trivial

theorem rebindable_eq_true {st : TrainState} (h : st = .absent ∨ st = .withdrawn) : st.rebindable = true := by
  rcases h with rfl | rfl <;> rfl

/-! ### The acts -/

section Acts
variable (i : Fin 8) (s : State)

theorem withdrawAct_eq :
    withdrawAct i s =
      let t := moveTrain i .withdrawn none s
      recompute { t with
        trains := t.trains.set i { s.trains[i] with state := .withdrawn, timer := none, lockout := none, runCount := 0 }
        link := { t.link with
          idents := s.link.idents.filter fun j => j != i
          slot := s.link.slot.map (Txn.withoutIdentAfter i) } } := by
  simp [withdrawAct, withdrawIdent, setTrain, moveTrain_trains, moveTrain_link]

theorem restoreAct_eq :
    restoreAct i s =
      let t := moveTrain i .absent none s
      recompute (putIdent i { t with
        trains := t.trains.set i { s.trains[i] with state := .absent, timer := none, bindFault := none } }) := by
  simp [restoreAct, setTrain, moveTrain_trains]

theorem releaseAct_eq :
    releaseAct i s =
      let t := moveTrain i .ready none s
      recompute { t with
        trains := t.trains.set i { s.trains[i] with state := .ready, timer := none, lockout := none } } := by
  simp [releaseAct, setTrain, moveTrain_trains]

variable {i s}

theorem rebindAct_ready (h : s.trains[i].state = .ready) :
    rebindAct i s = recompute (putIdent i (moveTrain i .absent none s)) := if_pos h

theorem rebindAct_unbound (h : s.trains[i].state = .absent ∨ s.trains[i].state = .withdrawn) :
    rebindAct i s = putIdent i s :=
  if_neg fun hr => by rcases h with h | h <;> rw [h] at hr <;> cases hr

end Acts

/-! ### SET_OUTAGE (R115) -/

/-- A window list that SET_OUTAGE refuses (R115). -/
def badWindows (l : List Window) : Prop := 4 < l.length ∨ ∃ o ∈ l, o.last < o.first

theorem badWindows_iff (l : List Window) :
    (decide (4 < l.length) || l.any fun w => decide (w.last < w.first)) = true ↔ badWindows l := by
  simp [badWindows]

theorem setOutageAct_outside {n : Nat} (hn : n = 0 ∨ 8 < n) (l : List Window) (s : State) :
    setOutageAct ⟨n, l⟩ s = reply .badValue s := by
  simp only [setOutageAct, entryOf_eq_none hn]

section Outage
variable {i : Fin 8} {l : List Window} {s : State}

theorem setOutageAct_bad (hl : badWindows l) : setOutageAct ⟨i.val + 1, l⟩ s = reply .badValue s := by
  rw [setOutageAct, entryOf_succ]
  exact if_pos ((badWindows_iff l).2 hl)

theorem setOutageAct_unconfigured (hl : ¬badWindows l) (hc : s.cfg.trains[i].configured = false) :
    setOutageAct ⟨i.val + 1, l⟩ s = reply .noRecord s := by
  rw [setOutageAct, entryOf_succ]
  exact (if_neg (mt (badWindows_iff l).1 hl)).trans (if_pos (by rw [hc]; rfl))

theorem setOutageAct_taken (hl : ¬badWindows l) (hc : s.cfg.trains[i].configured = true) :
    setOutageAct ⟨i.val + 1, l⟩ s = reply .done (setVerifyIf (decide (l ≠ s.trains[i].outages))
      (setTrain i { s.trains[i] with outages := l } s)) := by
  rw [setOutageAct, entryOf_succ]
  exact (if_neg (mt (badWindows_iff l).1 hl)).trans (if_neg (by rw [hc]; decide))

theorem reply_setOutage_taken (b : Bool) (w : TrainWork) :
    reply .done (setVerifyIf b (setTrain i w s.taken)) = (setVerifyIf b (setTrain i w s)).answered .done .empty := by
  cases b <;> rfl

end Outage

theorem reply_putIdent_taken (i : Fin 8) (s : State) :
    reply .done (putIdent i s.taken) = (putIdent i s).answered .done .empty := by
  rw [putIdent_eq, putIdent_eq]
  rfl

/-- Settles O31, command by command: the number, then a configured entry, then its state. -/
theorem entryCommands : Obligations.EntryCommands := by
  unfold Obligations.EntryCommands
  intro s h
  simp only [exec_setOutage_idle h, exec_withdraw_idle h, exec_restore_idle h, exec_release_idle h, exec_rebind_idle h]
  refine ⟨fun n hn => ⟨fun l => ?_, ?_, ?_, ?_, ?_⟩, fun i => ⟨fun l hl => ?_, fun hc => ?_, fun hc => ?_⟩⟩
  · rw [setOutageAct_outside hn, reply_taken]
  · rw [entryCommand_outside hn, reply_taken]
  · rw [entryCommand_outside hn, reply_taken]
  · rw [entryCommand_outside hn, reply_taken]
  · rw [entryCommand_outside hn, reply_taken]
  · rw [setOutageAct_bad hl, reply_taken]
  · refine ⟨fun l hl => ?_, ?_, ?_, ?_, ?_⟩
    · rw [setOutageAct_unconfigured (s := s.taken) hl hc, reply_taken]
    · rw [entryCommand_unconfigured (s := s.taken) hc, reply_taken]
    · rw [entryCommand_unconfigured (s := s.taken) hc, reply_taken]
    · rw [entryCommand_unconfigured (s := s.taken) hc, reply_taken]
    · rw [entryCommand_unconfigured (s := s.taken) hc, reply_taken]
  · refine ⟨fun l hl => ?_, fun hst => ?_, fun hst => ?_, fun hst => ?_, fun hst => ?_, fun hst => ?_, fun hst => ?_,
      fun ha hr hw => ?_, fun hst => ?_, fun hst => ?_⟩
    · rw [setOutageAct_taken (s := s.taken) hl hc]
      exact congrArg _ (reply_setOutage_taken _ _)
    · rw [entryCommand_refused (s := s.taken) hc (withdrawable_eq_false hst), reply_taken]
    · rw [entryCommand_allowed (s := s.taken) hc (withdrawable_eq_true hst), withdrawAct_eq]
      rfl
    · rw [entryCommand_refused (s := s.taken) hc (decide_eq_false hst), reply_taken]
    · rw [entryCommand_allowed (s := s.taken) hc (decide_eq_true hst), restoreAct_eq]
      rfl
    · rw [entryCommand_refused (s := s.taken) hc (decide_eq_false hst), reply_taken]
    · rw [entryCommand_allowed (s := s.taken) hc (decide_eq_true hst), releaseAct_eq]
      rfl
    · rw [entryCommand_refused (s := s.taken) hc (rebindable_eq_false ha hr hw), reply_taken]
    · rw [entryCommand_allowed (s := s.taken) hc (rebindable_eq_true hst), rebindAct_unbound (s := s.taken) hst,
        reply_putIdent_taken]
    · rw [entryCommand_allowed (s := s.taken) hc (by rw [taken_trains, hst]; rfl), rebindAct_ready (s := s.taken) hst]

end Sys2Proof.Machine
end

section
/-! SUPPORT. The roster's timers, periodic IDENTs and poll marks, and the roster at a boundary (R101, R107, R111, R179). -/

namespace Sys2Proof.Machine

/-! ### One entry's turn at a boundary (R111) -/

/-- The rest of an entry is over at a boundary (R111 step 2). -/
def restEnds (c : TrainCfg) (w : TrainWork) : Bool :=
  decide (c.configured = true ∧ w.state = .resting ∧ w.restCount ≤ 1)

theorem restEnds_iff (c : TrainCfg) (w : TrainWork) :
    restEnds c w = true ↔ c.configured = true ∧ w.state = .resting ∧ w.restCount ≤ 1 := decide_eq_true_iff

/-- The working fields that the boundary into `n` leaves of a configured entry (R111). -/
def TrainWork.boundary (n : Nat) (rested : Bool) (w : TrainWork) : TrainWork :=
  { w with
    runCount := if w.state = .running then (if w.runCount < 255 then w.runCount + 1 else 255) else w.runCount
    restCount := if w.state = .resting then w.restCount - 1 else w.restCount
    state := if rested then .ready else w.state
    timer := if rested then none else w.timer
    outages := w.outages.filter fun o => decide (n ≤ o.last) }

/-- The working fields that the boundary into `n` leaves of an entry; one that is not configured takes no part (R111). -/
def boundaryWork (n : Nat) (c : TrainCfg) (w : TrainWork) : TrainWork :=
  if c.configured = false then w else w.boundary n (restEnds c w)

/-- The state with the roster's working fields and the setpoints given. -/
def State.withRoster (s : State) (trains : Vector TrainWork 8) (setpoints : Vector (Option Setpoint) 8) : State :=
  { s with trains := trains, disp := { s.disp with setpoints := setpoints } }

theorem withRoster_self (s : State) : s.withRoster s.trains s.disp.setpoints = s := rfl

theorem incTo_eq_min (cap n : Nat) : incTo cap n = min cap (n + 1) := by
  unfold incTo
  split <;> omega

section Turn
variable (n : Nat) (i : Fin 8) (s : State)

/-- The end of a rest moves the entry to READY and drops its setpoint, and no other part of the state follows (R129). -/
theorem moveTrain_restEnds (h : s.trains[i].state = .resting) :
    moveTrain i .ready none s =
      s.withRoster (s.trains.set i { s.trains[i] with state := .ready, timer := none }) (s.disp.setpoints.set i none) := by
  rw [Fin.getElem_fin] at h
  simp [moveTrain, setTrain, noteLeftRunning, dropSetpoint, notePollMark, setVerifyIf, State.withRoster, h,
    TrainState.keepsSetpoint, TrainState.bound, TrainState.group]

theorem rosterCount_eq (hc : s.cfg.trains[i].configured = true) :
    rosterCount i s = s.withRoster
      (s.trains.set i { s.trains[i].boundary n (restEnds s.cfg.trains[i] s.trains[i]) with outages := s.trains[i].outages })
      (if restEnds s.cfg.trains[i] s.trains[i] then s.disp.setpoints.set i none else s.disp.setpoints) := by
  simp only [rosterCount, Fin.getElem_fin] at hc ⊢
  split
  next hst =>
    have hends : ¬restEnds s.cfg.trains[i.val] s.trains[i.val] = true := by simp [restEnds, hst]
    have hcap : incTo 255 s.trains[i.val].runCount =
        if s.trains[i.val].runCount < 255 then s.trains[i.val].runCount + 1 else 255 := by
      rw [incTo_eq_min]
      split <;> omega
    simp [setTrain, State.withRoster, TrainWork.boundary, hst, hends, hcap]
  next hst =>
    unfold restBoundary
    by_cases hleft : s.trains[i.val].restCount - 1 = 0
    · have hends : restEnds s.cfg.trains[i.val] s.trains[i.val] = true := (restEnds_iff _ _).2 ⟨hc, hst, by omega⟩
      simp only [Fin.getElem_fin, if_pos hleft]
      rw [moveTrain_restEnds]
      · simp [setTrain, State.withRoster, TrainWork.boundary, hst, hends]
      · simp [setTrain, hst]
    · have hends : ¬restEnds s.cfg.trains[i.val] s.trains[i.val] = true := by
        rw [restEnds_iff]
        exact fun ⟨_, _, h⟩ => hleft (by omega)
      simp [setTrain, State.withRoster, TrainWork.boundary, hst, hends, hleft]
  next hrun hrest =>
    have hends : ¬restEnds s.cfg.trains[i.val] s.trains[i.val] = true := by
      rw [restEnds_iff]
      exact fun ⟨_, h, _⟩ => hrest h
    have hkept : { s.trains[i.val].boundary n (restEnds s.cfg.trains[i.val] s.trains[i.val]) with
        outages := s.trains[i.val].outages } = s.trains[i.val] := by
      simp only [TrainWork.boundary, if_neg hends, if_neg hrun, if_neg hrest]
    rw [hkept, if_neg hends, Vector.set_getElem_self, withRoster_self]

/-- One entry's turn writes its working fields, and drops its setpoint where its rest is over (R111). -/
theorem rosterBoundaryAt_eq :
    rosterBoundaryAt n i s = s.withRoster
      (s.trains.set i (boundaryWork n s.cfg.trains[i] s.trains[i]))
      (if restEnds s.cfg.trains[i] s.trains[i] then s.disp.setpoints.set i none else s.disp.setpoints) := by
  unfold rosterBoundaryAt
  by_cases hc : s.cfg.trains[i].configured = true
  · rw [if_pos hc, rosterCount_eq n i s hc]
    rw [Fin.getElem_fin] at hc
    simp [setTrain, State.withRoster, boundaryWork, TrainWork.boundary, hc]
  · rw [if_neg hc]
    rw [Fin.getElem_fin] at hc
    simp [State.withRoster, boundaryWork, restEnds, hc]

end Turn

/-! ### Every entry's turn -/

/-- The state after the entries of a list have taken the boundary into `n`. -/
def afterTurns (n : Nat) (l : List (Fin 8)) (s : State) : State :=
  s.withRoster
    (Vector.ofFn fun j => if j ∈ l then boundaryWork n s.cfg.trains[j] s.trains[j] else s.trains[j])
    (Vector.ofFn fun j =>
      if j ∈ l ∧ restEnds s.cfg.trains[j] s.trains[j] then none else s.disp.setpoints[j])

/-- The entries take the boundary one by one, each on its own fields alone (R111). -/
theorem foldl_rosterBoundaryAt (n : Nat) {l : List (Fin 8)} (hl : l.Nodup) (s : State) :
    l.foldl (fun s i => rosterBoundaryAt n i s) s = afterTurns n l s := by
  induction l generalizing s with
  | nil => simp [afterTurns, State.withRoster]
  | cons i l ih =>
    obtain ⟨hi, hl⟩ := List.nodup_cons.1 hl
    rw [List.foldl_cons, ih hl, rosterBoundaryAt_eq]
    have hother : ∀ j, j ≠ i → i.val ≠ j.val := fun j hj h => hj (Fin.ext h.symm)
    refine congrArg₂ s.withRoster (congrArg Vector.ofFn (funext fun j => ?_)) (congrArg Vector.ofFn (funext fun j => ?_))
    · by_cases hj : j = i
      · subst hj
        simp [State.withRoster, hi]
      · simp [State.withRoster, hj, hother j hj]
    · by_cases hj : j = i
      · subst hj
        cases restEnds s.cfg.trains[j.val] s.trains[j.val] <;> simp [State.withRoster, hi]
      · cases restEnds s.cfg.trains[i.val] s.trains[i.val] <;> simp [State.withRoster, hj, hother j hj]

/-- The roster takes the boundary, and the dispatch unit recomputes (R111, R123). -/
theorem rosterBoundary_eq (n : Nat) (s : State) : rosterBoundary n s = recompute (afterTurns n (List.finRange 8) s) :=
  congrArg recompute (foldl_rosterBoundaryAt n (List.nodup_finRange 8) s)

/-! ### Timers (R107) -/

section Timers
variable {i : Fin 8} {s : State}

theorem lockOut_eq (cause : LockoutCause) :
    lockOut i cause s =
      let t := moveTrain i .lockedOut none s
      raise .trainFault
        { t with trains := t.trains.set i { s.trains[i] with state := .lockedOut, timer := none, lockout := some cause } } := by
  simp [lockOut, setTrain, moveTrain_trains]

theorem timerRanOut_of_expired {kind : TimerKind} {st : TrainState} {e : Nat} (hst : s.trains[i].state = st)
    (ht : s.trains[i].timer = some ⟨kind, e⟩) (he : e ≤ s.now) : timerRanOut i kind st s = true := by
  simp only [timerRanOut, ht, hst, he, decide_true, Bool.and_true]

theorem timerRanOut_of_none {kind : TimerKind} {st : TrainState} (ht : s.trains[i].timer = none) :
    timerRanOut i kind st s = false := by
  simp only [timerRanOut, ht, Bool.and_false]

end Timers

/-! ### Events of an entry, by its number -/

theorem onEntry_succ (i : Fin 8) (f : Fin 8 → State → State) (s : State) : onEntry (i.val + 1) f s = f i s := by
  rw [onEntry, entryOf_succ]

section Events
variable (i : Fin 8) (s : State)

theorem exec_startTimerExpiry_succ : exec (.startTimerExpiry (i.val + 1)) s = .next (startTimedOut i s) :=
  congrArg Host.Outcome.next (onEntry_succ i _ s)

theorem exec_stopTimerExpiry_succ : exec (.stopTimerExpiry (i.val + 1)) s = .next (stopTimedOut i s) :=
  congrArg Host.Outcome.next (onEntry_succ i _ s)

theorem exec_periodicIdent_succ : exec (.periodicIdent (i.val + 1)) s = .next (periodicIdentAct i s) :=
  congrArg Host.Outcome.next (onEntry_succ i _ s)

theorem exec_pollDue_succ : exec (.pollDue (i.val + 1)) s = .next (pollFallsDue i s) :=
  congrArg Host.Outcome.next (onEntry_succ i _ s)

end Events

/-! ### Periodic IDENTs and poll marks (R101, R179) -/

section Due
variable {i : Fin 8} {s : State} {m : Nat}

theorem identIsDue_of_passed (hc : s.cfg.trains[i].configured = true) (hst : s.trains[i].state = .absent)
    (hm : s.trains[i].identDue = some m) (hle : m ≤ s.now) : identIsDue i s = true := by
  simp only [identIsDue, hc, hst, hm, hle, Option.any_some, decide_true, Bool.and_true]

theorem identIsDue_of_none (hm : s.trains[i].identDue = none) : identIsDue i s = false := by
  simp only [identIsDue, hm, Option.any_none, Bool.and_false]

theorem identInFlight_of_other (h : ∀ x ∈ s.link.slot, x.entry ≠ some i) : identInFlight i s = false := by
  rw [identInFlight_eq, Option.any_eq_false]
  exact fun x hx => by simp [h x hx]

theorem periodicIdentAct_due (h : identIsDue i s = true) :
    periodicIdentAct i s = putIdent i (setTrain i { s.trains[i] with identDue := none } s) := if_pos h

theorem putIdent_waiting (h : i ∈ s.link.idents) : putIdent i s = s := if_pos (.inl h)

theorem putIdent_joins (h : i ∉ s.link.idents) (hf : identInFlight i s = false) :
    putIdent i s = { s with link := { s.link with idents := s.link.idents ++ [i] } } :=
  if_neg (by simp [h, hf])

theorem pollFallsDue_passed {due : Bool} (hp : s.link.polls[i] = some ⟨due, some m⟩) (hm : m ≤ s.now) :
    pollFallsDue i s = { s with link := { s.link with polls := s.link.polls.set i (some ⟨true, none⟩) } } := by
  simp only [pollFallsDue, hp, Option.any_some, hm, decide_true, if_true]

theorem pollFallsDue_noMoment {due : Bool} (hp : s.link.polls[i] = some ⟨due, none⟩) : pollFallsDue i s = s := by
  simp only [pollFallsDue, hp, Option.any_none, Bool.false_eq_true, if_false]

theorem pollFallsDue_noMark (hp : s.link.polls[i] = none) : pollFallsDue i s = s := by
  simp only [pollFallsDue, hp]

end Due

/-- Settles O32: the roster's boundary by every entry's turn, and each event by what it finds. -/
theorem timersAndBoundaryCounts : Obligations.TimersAndBoundaryCounts := by
  unfold Obligations.TimersAndBoundaryCounts
  refine ⟨fun ended n s => ?_, fun i s => ?_⟩
  · intro rested
    refine ⟨afterTurns n (List.finRange 8) s, rosterBoundary_eq n s, fun i => ⟨?_, ?_⟩, rfl⟩
    · simp [afterTurns, State.withRoster, restEnds_iff, rested]
    · simp [afterTurns, State.withRoster, boundaryWork, TrainWork.boundary, restEnds_iff, rested]
  · intro n w lockedOut
    have hlocked : ∀ cause, lockedOut cause = lockOut i cause s := fun cause => (lockOut_eq cause).symm
    simp only [n, exec_startTimerExpiry_succ, exec_stopTimerExpiry_succ, exec_periodicIdent_succ, exec_pollDue_succ, hlocked]
    refine ⟨fun e hst ht he => ?_, fun e hst ht he => ?_, fun ht => ⟨?_, ?_⟩, fun m hc hst hm hle => ⟨fun hi hx => ?_,
      fun hi => ?_⟩, fun hm => ?_, fun due m hp hm => ?_, fun due hp => ?_, fun hp => ?_⟩
    · rw [startTimedOut, if_pos (timerRanOut_of_expired hst ht he)]
    · rw [stopTimedOut, if_pos (timerRanOut_of_expired hst ht he)]
    · rw [startTimedOut, timerRanOut_of_none ht, if_neg Bool.false_ne_true]
    · rw [stopTimedOut, timerRanOut_of_none ht, if_neg Bool.false_ne_true]
    · rw [periodicIdentAct_due (identIsDue_of_passed hc hst hm hle)]
      exact congrArg _ (putIdent_joins (s := setTrain i _ s) hi (identInFlight_of_other hx))
    · rw [periodicIdentAct_due (identIsDue_of_passed hc hst hm hle)]
      exact congrArg _ (putIdent_waiting (s := setTrain i _ s) hi)
    · rw [periodicIdentAct, identIsDue_of_none hm, if_neg Bool.false_ne_true]
    · rw [pollFallsDue_passed hp hm]
    · rw [pollFallsDue_noMoment hp]
    · rw [pollFallsDue_noMark hp]

end Sys2Proof.Machine
end

section
/-! SUPPORT. What a STATUS does to its entry (R106, R110): the state it moves to, and what follows. -/

namespace Sys2Proof.Machine

/-! ### Where a STATUS moves an entry -/

/-- The state that a STATUS leaves its entry in (R106, R110): `rested` is the state after a stop, and `may` says that a LOST
train may be running. -/
def nextState (rested : TrainState) (may : Bool) : TrainState → ReportedState → TrainState
  | .ready, .starting => .stopping
  | .ready, .running => .stopping
  | .ready, .stopping => .stopping
  | .ready, .fault => .lockedOut
  | .starting, .running => .running
  | .starting, .stopping => .stopping
  | .starting, .fault => .lockedOut
  | .running, .stopped => rested
  | .running, .stopping => .stopping
  | .running, .fault => .lockedOut
  | .stopping, .stopped => rested
  | .stopping, .fault => .lockedOut
  | .resting, .starting => .stopping
  | .resting, .running => .stopping
  | .resting, .fault => .lockedOut
  | .lost, .fault => .lockedOut
  | .lost, .stopped => .resting
  | .lost, .stopping => .stopping
  | .lost, .running => if may then .running else .stopping
  | .lost, .starting => if may then .starting else .stopping
  | st, _ => st

/-- The state of an entry that has stopped (R106). -/
def TrainCfg.restedState (c : TrainCfg) : TrainState := if c.minRest = 0 then .ready else .resting

/-- The state that a STATUS moves an entry to. -/
def statusState (i : Fin 8) (st : ReportedState) (s : State) : TrainState :=
  nextState s.cfg.trains[i].restedState (mayBeRunning i s) s.trains[i].state st

/-- A train runs unbidden: it reports that it starts or runs, and its entry neither asked for it nor may be running (R106,
R110). -/
def runsUnbidden (old : TrainState) (st : ReportedState) (may : Bool) : Bool :=
  decide (((old = .ready ∨ old = .resting) ∧ (st = .starting ∨ st = .running)) ∨
    (old = .lost ∧ (st = .starting ∨ st = .running) ∧ ¬may = true))

/-- What follows a move to a state that a STATUS reaches; `unbidden` says that the train runs unbidden. -/
def enterReported (i : Fin 8) (new : TrainState) (unbidden : Bool) (s : State) : State :=
  match new with
  | .stopping => if unbidden then stopUnbidden i s else enterStopping i s
  | .lockedOut => lockOut i .reported s
  | .ready => moveTrain i .ready none s
  | .resting => enterResting i s
  | .running => if s.trains[i].state = .lost then moveTrain i .running none s else enterRunning i s
  | .starting => holdNothing i (moveTrain i .starting (startTimer i s) s)
  | _ => s

theorem restedState_eq_ready_or (c : TrainCfg) : c.restedState = .ready ∨ c.restedState = .resting := by
  unfold TrainCfg.restedState
  split
  · exact .inl rfl
  · exact .inr rfl

theorem restAfterStop_eq (i : Fin 8) (s : State) :
    restAfterStop i s = enterReported i s.cfg.trains[i].restedState false s := by
  unfold restAfterStop TrainCfg.restedState
  split <;> rfl

/-- The end of a loss moves the entry to the state that the STATUS gives (R110). -/
theorem recoverLost_eq (i : Fin 8) (st : ReportedState) {s : State} (h : s.trains[i].state = .lost) :
    recoverLost i st s =
      enterReported i (nextState s.cfg.trains[i].restedState (mayBeRunning i s) .lost st)
        (runsUnbidden .lost st (mayBeRunning i s)) s := by
  rw [Fin.getElem_fin] at h
  cases st <;> cases hm : mayBeRunning i s <;> simp [recoverLost, nextState, runsUnbidden, enterReported, hm, h]

theorem restedState_ne_running (c : TrainCfg) : c.restedState ≠ .running := by
  rcases restedState_eq_ready_or c with h | h <;> rw [h] <;> decide

theorem restedState_ne_stopping (c : TrainCfg) : c.restedState ≠ .stopping := by
  rcases restedState_eq_ready_or c with h | h <;> rw [h] <;> decide

theorem nextState_lost_ne (rested : TrainState) (may : Bool) (st : ReportedState) : nextState rested may .lost st ≠ .lost := by
  cases st <;> cases may <;> simp [nextState]

/-- A STATUS leaves its entry as it was, or moves it to the state that it gives. -/
theorem statusMove_eq (i : Fin 8) (st : ReportedState) (s : State) :
    statusMove i st s =
      if statusState i st s = s.trains[i].state then s
      else enterReported i (statusState i st s) (runsUnbidden s.trains[i].state st (mayBeRunning i s)) s := by
  unfold statusMove statusState
  cases hw : s.trains[i].state
  case lost =>
    rw [if_neg (nextState_lost_ne _ _ st)]
    exact recoverLost_eq i st hw
  case running =>
    cases st <;> simp [nextState, restAfterStop_eq, enterReported, runsUnbidden, restedState_ne_running]
  case stopping =>
    cases st <;> simp [nextState, restAfterStop_eq, enterReported, runsUnbidden, restedState_ne_stopping]
  case starting =>
    rw [Fin.getElem_fin] at hw
    cases st <;> simp [nextState, enterReported, runsUnbidden, hw]
  all_goals cases st <;> simp [nextState, enterReported, runsUnbidden]

/-- A STATUS moves no entry to ABSENT, WITHDRAWN or LOST. -/
theorem nextState_reached (c : TrainCfg) {may : Bool} {old : TrainState} {st : ReportedState}
    (h : nextState c.restedState may old st ≠ old) :
    nextState c.restedState may old st ≠ .absent ∧ nextState c.restedState may old st ≠ .withdrawn ∧
      nextState c.restedState may old st ≠ .lost := by
  have hrest := restedState_eq_ready_or c
  generalize c.restedState = rested at h hrest ⊢
  rcases hrest with rfl | rfl <;> cases old <;> cases st <;> cases may <;> simp [nextState] at h ⊢

theorem statusState_reached {i : Fin 8} {st : ReportedState} {s : State} (h : statusState i st s ≠ s.trains[i].state) :
    statusState i st s ≠ .absent ∧ statusState i st s ≠ .withdrawn ∧ statusState i st s ≠ .lost :=
  nextState_reached _ h

/-- Only a move to STOPPING comes of a train that runs unbidden. -/
theorem statusState_of_unbidden {i : Fin 8} {st : ReportedState} {s : State}
    (h : runsUnbidden s.trains[i].state st (mayBeRunning i s) = true) : statusState i st s = .stopping := by
  unfold statusState
  generalize mayBeRunning i s = may at h ⊢
  simp only [runsUnbidden, decide_eq_true_iff] at h
  rcases h with ⟨hw | hw, rfl | rfl⟩ | ⟨hw, rfl | rfl, hm⟩ <;> rw [hw]
  all_goals simp_all [nextState]

/-! ### What a move leaves -/

section Moves
variable (i : Fin 8) (s : State)

@[simp] theorem moveTrain_cmds (new : TrainState) (timer : Option Timer) :
    (moveTrain i new timer s).link.cmds = s.link.cmds := by
  rw [moveTrain_link]

variable {new : TrainState} (unbidden : Bool)

/-- What a STATUS's move leaves of the entry's working fields (R106, R110). -/
theorem enterReported_trains (h : new ≠ .absent ∧ new ≠ .withdrawn ∧ new ≠ .lost) :
    (enterReported i new unbidden s).trains = s.trains.set i { s.trains[i] with
      state := new
      timer := if new = .stopping then stopTimer i s else if new = .starting then startTimer i s else none
      restCount := if new = .resting then s.cfg.trains[i].minRest else s.trains[i].restCount
      runCount := if new = .running ∧ s.trains[i].state ≠ .lost then 0 else s.trains[i].runCount
      lockout := if new = .lockedOut then some .reported else s.trains[i].lockout } := by
  cases new <;> simp only [enterReported] <;> simp at h
  case running =>
    by_cases hl : s.trains[i.val].state = .lost <;> simp [moveTrain_trains, enterRunning, setTrain, hl]
  case stopping => cases unbidden <;> simp [stopUnbidden, enterStopping, moveTrain_trains]
  case starting => simp [holdNothing, moveTrain_trains]
  case ready => simp [moveTrain_trains]
  case resting => simp [enterResting_trains]
  case lockedOut => simp [lockOut_trains]

theorem enterReported_cmds (h : unbidden = true → new = .stopping) :
    (enterReported i new unbidden s).link.cmds = if unbidden then enqueue ⟨i, .stop⟩ s.link.cmds else s.link.cmds := by
  cases unbidden
  case true =>
    rw [h rfl]
    simp [enterReported, stopUnbidden, enterStopping, issue]
  case false =>
    cases new <;> simp only [enterReported] <;>
      simp [enterStopping, holdNothing, enterResting, lockOut, enterRunning]
    split <;> simp

theorem enterReported_notices :
    (enterReported i new unbidden s).notices = (if new = .lockedOut then raise .trainFault s else s).notices := by
  cases new <;> simp only [enterReported] <;> simp [holdNothing, enterResting]
  case running => split <;> simp [enterRunning]
  case stopping => split <;> simp [stopUnbidden, enterStopping]
  case lockedOut => simp [lockOut, raise]

theorem enterReported_starting_setpoints :
    (enterReported i .starting unbidden s).disp.setpoints[i] = s.disp.setpoints[i].map fun q => { q with held := 0 } := by
  simp [enterReported, holdNothing, moveTrain_setpoints, TrainState.keepsSetpoint]

end Moves

/-! ### A STATUS taken (R104, R106) -/

/-- The state with a STATUS as the last report of its entry (R104). -/
def reported (i : Fin 8) (r : Report) (s : State) : State := setTrain i { s.trains[i] with report := some r } s

section Status
variable {i : Fin 8} {r : Report} {s : State}

theorem reported_work : (reported i r s).trains[i] = { s.trains[i] with report := some r } :=
  Vector.getElem_set_self i.isLt

theorem reported_state (j : Fin 8) : (reported i r s).trains[j].state = s.trains[j].state := by
  by_cases hj : j = i
  · rw [hj, reported_work]
  · exact congrArg TrainWork.state (Vector.getElem_set_ne i.isLt j.isLt fun h => hj (Fin.ext h.symm))

/-- A LOST train may be running where it has a setpoint and no entry of the other kind is up (R110). -/
theorem mayBeRunning_iff : mayBeRunning i s = true ↔
    s.disp.setpoints[i] ≠ none ∧ ∀ j : Fin 8, s.cfg.trains[j].kind = s.cfg.trains[i].kind.other →
      s.trains[j].state ≠ .starting ∧ s.trains[j].state ≠ .running := by
  rw [mayBeRunning, Bool.and_eq_true, Option.isSome_iff_ne_none, Bool.not_eq_true', ← Bool.not_eq_true, anyUp_iff]
  simp only [not_exists, not_and, not_or]

theorem mayBeRunning_reported : mayBeRunning i (reported i r s) = mayBeRunning i s := by
  rw [Bool.eq_iff_iff, mayBeRunning_iff, mayBeRunning_iff]
  simp only [reported_state]
  rfl

theorem statusState_reported (st : ReportedState) : statusState i st (reported i r s) = statusState i st s := by
  rw [statusState, mayBeRunning_reported, reported_state]
  rfl

/-- A STATUS that leaves the state of its entry is its last report alone. -/
theorem takeStatus_stays (h : statusState i r.state s = s.trains[i].state) : takeStatus i r s = reported i r s := by
  rw [← statusState_reported, ← reported_state (r := r) i] at h
  exact (statusMove_eq i r.state (reported i r s)).trans (if_pos h)

theorem takeStatus_moves (h : statusState i r.state s ≠ s.trains[i].state) :
    takeStatus i r s =
      enterReported i (statusState i r.state s) (runsUnbidden s.trains[i].state r.state (mayBeRunning i s))
        (reported i r s) := by
  have h' := h
  rw [← statusState_reported, ← reported_state (r := r) i] at h'
  refine (statusMove_eq i r.state (reported i r s)).trans ((if_neg h').trans ?_)
  rw [statusState_reported, mayBeRunning_reported, reported_state]

/-- The working fields that a STATUS leaves of an entry that it moves (R106, R110). -/
theorem takeStatus_trains_moves (h : statusState i r.state s ≠ s.trains[i].state) :
    (takeStatus i r s).trains = s.trains.set i { s.trains[i] with
      report := some r
      state := statusState i r.state s
      timer := if statusState i r.state s = .stopping then stopTimer i s
        else if statusState i r.state s = .starting then startTimer i s else none
      restCount := if statusState i r.state s = .resting then s.cfg.trains[i].minRest else s.trains[i].restCount
      runCount := if statusState i r.state s = .running ∧ s.trains[i].state ≠ .lost then 0 else s.trains[i].runCount
      lockout := if statusState i r.state s = .lockedOut then some .reported else s.trains[i].lockout } := by
  rw [takeStatus_moves h, enterReported_trains i _ _ (statusState_reached h), reported_work]
  exact Vector.set_set ..

theorem takeStatus_work_moves (h : statusState i r.state s ≠ s.trains[i].state) :
    (takeStatus i r s).trains[i] = { s.trains[i] with
      report := some r
      state := statusState i r.state s
      timer := if statusState i r.state s = .stopping then stopTimer i s
        else if statusState i r.state s = .starting then startTimer i s else none
      restCount := if statusState i r.state s = .resting then s.cfg.trains[i].minRest else s.trains[i].restCount
      runCount := if statusState i r.state s = .running ∧ s.trains[i].state ≠ .lost then 0 else s.trains[i].runCount
      lockout := if statusState i r.state s = .lockedOut then some .reported else s.trains[i].lockout } := by
  rw [takeStatus_trains_moves h]
  exact Vector.getElem_set_self i.isLt

/-- The entry of a STATUS stands in the state that the STATUS gives. -/
theorem takeStatus_state : (takeStatus i r s).trains[i].state = statusState i r.state s := by
  by_cases h : statusState i r.state s = s.trains[i].state
  · rw [takeStatus_stays h, reported_state, h]
  · rw [takeStatus_work_moves h]

theorem takeStatus_report : (takeStatus i r s).trains[i].report = some r := by
  by_cases h : statusState i r.state s = s.trains[i].state
  · rw [takeStatus_stays h, reported_work]
  · rw [takeStatus_work_moves h]

theorem takeStatus_others {j : Fin 8} (hj : j ≠ i) : (takeStatus i r s).trains[j] = s.trains[j] := by
  have hne : i.val ≠ j.val := fun h => hj (Fin.ext h.symm)
  by_cases h : statusState i r.state s = s.trains[i].state
  · rw [takeStatus_stays h]
    simp [reported, setTrain, hne]
  · rw [takeStatus_trains_moves h]
    simp [hne]

theorem takeStatus_cmds :
    (takeStatus i r s).link.cmds =
      if runsUnbidden s.trains[i].state r.state (mayBeRunning i s) then enqueue ⟨i, .stop⟩ s.link.cmds
      else s.link.cmds := by
  by_cases h : statusState i r.state s = s.trains[i].state
  · rw [takeStatus_stays h, if_neg]
    · rfl
    · intro hu
      rw [statusState_of_unbidden hu] at h
      rw [← h] at hu
      simp [runsUnbidden] at hu
  · rw [takeStatus_moves h, enterReported_cmds i _ _ statusState_of_unbidden]
    rfl

theorem takeStatus_notices :
    (takeStatus i r s).notices =
      (if statusState i r.state s = .lockedOut ∧ s.trains[i].state ≠ .lockedOut then raise .trainFault s else s).notices := by
  by_cases h : statusState i r.state s = s.trains[i].state
  · rw [takeStatus_stays h, if_neg fun ⟨hn, ho⟩ => ho (h ▸ hn)]
    rfl
  · rw [takeStatus_moves h, enterReported_notices]
    by_cases hn : statusState i r.state s = .lockedOut
    · rw [if_pos hn, if_pos ⟨hn, fun ho => h (hn.trans ho.symm)⟩]
      rfl
    · rw [if_neg hn, if_neg fun ⟨hn', _⟩ => hn hn']
      rfl

theorem takeStatus_lockout :
    (takeStatus i r s).trains[i].lockout =
      if statusState i r.state s = .lockedOut ∧ s.trains[i].state ≠ .lockedOut then some .reported
      else s.trains[i].lockout := by
  by_cases h : statusState i r.state s = s.trains[i].state
  · rw [takeStatus_stays h, reported_work, if_neg fun ⟨hn, ho⟩ => ho (h ▸ hn)]
  · rw [takeStatus_work_moves h]
    exact if_congr ⟨fun hn => ⟨hn, fun ho => h (hn.trans ho.symm)⟩, And.left⟩ rfl rfl

theorem takeStatus_starting_setpoint (h : statusState i r.state s = .starting) (hw : s.trains[i].state = .lost) :
    (takeStatus i r s).disp.setpoints[i] = s.disp.setpoints[i].map fun q => { q with held := 0 } := by
  rw [takeStatus_moves (by rw [h, hw]; decide), h, enterReported_starting_setpoints]
  rfl

/-- An entry that is ABSENT, WITHDRAWN or LOCKED_OUT moves by no STATUS (R104, R106). -/
theorem statusState_unmoved (st : ReportedState)
    (h : s.trains[i].state = .absent ∨ s.trains[i].state = .withdrawn ∨ s.trains[i].state = .lockedOut) :
    statusState i st s = s.trains[i].state := by
  unfold statusState
  rcases h with h | h | h <;> rw [h] <;> cases st <;> rfl

end Status

end Sys2Proof.Machine
end

section
/-! SUPPORT. What an ANNOUNCE does to its entry (R102 to R104): the bind_fault, the report, the ratings and the binding. -/

namespace Sys2Proof.Machine

/-! ### The checks and the report (R102, R104) -/

/-- The last report that an ANNOUNCE leaves; its kW and its fault code are free (log entry 8). -/
def announcedReport (st : ReportedState) (free : Nat) : Report :=
  ⟨st, Config.announceKw free % 150001, (Config.announceFault free).toNat⟩

theorem announcedReport_kw (st : ReportedState) (free : Nat) : (announcedReport st free).kw ≤ 150000 :=
  Nat.le_of_lt_succ (Nat.mod_lt _ (by decide))

theorem announcedReport_fault (st : ReportedState) (free : Nat) : (announcedReport st free).fault < 65536 :=
  (Config.announceFault free).isLt

/-- The state with the bind_fault that an ANNOUNCE gives, IDENTITY raised where it is a new fault (R102). -/
theorem setBindFault_announceFault (i : Fin 8) (c : TrainCfg) (a : Announce) (s : State) :
    setBindFault i (announceFaultOf c a) s =
      raiseIf (decide (announceFaultOf c a ≠ none ∧ announceFaultOf c a ≠ s.trains[i].bindFault)) .identity
        (setTrain i { s.trains[i] with bindFault := announceFaultOf c a } s) := by
  have hfault : (decide (announceFaultOf c a = some .kind) || decide (announceFaultOf c a = some .identity)) =
      decide (announceFaultOf c a ≠ none) := by
    unfold announceFaultOf
    split_ifs <;> rfl
  rw [setBindFault, hfault, Bool.decide_and]

/-- The state with an ANNOUNCE checked and reported (R102, R104). -/
def announced (i : Fin 8) (a : Announce) (f : Option BindFault) (s : State) : State :=
  { s with
    trains := s.trains.set i { s.trains[i] with bindFault := f, report := some (announcedReport a.state s.free) }
    free := s.free + 1 }

theorem reportAnnounced_setBindFault (i : Fin 8) (a : Announce) (c : TrainCfg) (s : State) :
    reportAnnounced i a.state (setBindFault i (announceFaultOf c a) s) =
      raiseIf (decide (announceFaultOf c a ≠ none ∧ announceFaultOf c a ≠ s.trains[i].bindFault)) .identity
        (announced i a (announceFaultOf c a) s) := by
  rw [setBindFault_announceFault]
  generalize decide (announceFaultOf c a ≠ none ∧ announceFaultOf c a ≠ s.trains[i].bindFault) = b
  cases b <;> simp [reportAnnounced, setTrain, announced, announcedReport, raiseIf, raise]

/-! ### The ratings (R103) -/

/-- The ratings that an ANNOUNCE gives are new (R103). -/
def TrainCfg.newRatings (c : TrainCfg) (a : Announce) : Bool :=
  decide ((c.rerated a).ratedKw ≠ c.ratedKw ∨ (c.rerated a).minStableKw ≠ c.minStableKw)

/-- An ANNOUNCE gives ratings and nothing else (R103). -/
theorem rerated_eq (c : TrainCfg) (a : Announce) :
    c.rerated a = { c with ratedKw := (c.rerated a).ratedKw, minStableKw := (c.rerated a).minStableKw } := by
  unfold TrainCfg.rerated
  split <;> rfl

theorem rerated_ratedKw (c : TrainCfg) (a : Announce) :
    (c.rerated a).ratedKw = if c.holdRating = true then c.ratedKw else max 1000 (min 150000 a.ratedKw) := by
  unfold TrainCfg.rerated
  split <;> rfl

theorem rerated_minStableKw (c : TrainCfg) (a : Announce) :
    (c.rerated a).minStableKw = if c.holdRating = true then c.minStableKw else min (c.rerated a).ratedKw a.minStableKw := by
  unfold TrainCfg.rerated
  split <;> rfl

theorem newRatings_eq_false_iff (c : TrainCfg) (a : Announce) : c.newRatings a = false ↔ c.rerated a = c := by
  rw [TrainCfg.newRatings, decide_eq_false_iff_not, not_or, not_not, not_not]
  exact ⟨fun ⟨hr, hm⟩ => by rw [rerated_eq, hr, hm], fun h => by rw [h]; exact ⟨rfl, rfl⟩⟩

theorem setTrainCfg_self (i : Fin 8) (s : State) : setTrainCfg i s.cfg.trains[i] s = s := by
  simp [setTrainCfg]

/-- A changed rating of an entry that is not LOST is a cause of R30 and nothing else (R103, R125). -/
theorem takeRatings_eq {i : Fin 8} {s : State} (a : Announce) (h : s.trains[i].state ≠ .lost) :
    takeRatings i a s = setVerifyIf (s.cfg.trains[i].newRatings a) (setTrainCfg i (s.cfg.trains[i].rerated a) s) := by
  unfold takeRatings
  cases hn : s.cfg.trains[i].newRatings a
  · rw [newRatings_eq_false_iff] at hn
    rw [if_pos hn, hn, setTrainCfg_self]
    rfl
  · have hne : s.cfg.trains[i].rerated a ≠ s.cfg.trains[i] := fun he => by
      rw [(newRatings_eq_false_iff _ _).2 he] at hn
      cases hn
    exact (if_neg hne).trans (if_neg h)

/-! ### Binding (R102 step 3) -/

/-- The state of an entry that binds in an announced state (R102). -/
def boundState : ReportedState → TrainState
  | .stopped => .ready
  | .fault => .lockedOut
  | .starting => .resting
  | .running => .resting
  | .stopping => .resting

section Binding
variable {i : Fin 8} (st : ReportedState) {s : State}

theorem bindAs_trains :
    (bindAs i st s).trains = s.trains.set i { s.trains[i] with
      state := boundState st
      timer := none
      restCount := if st = .stopped ∨ st = .fault then s.trains[i].restCount else s.cfg.trains[i].minRest
      lockout := if st = .fault then some .reported else s.trains[i].lockout } := by
  cases st <;> simp [bindAs, boundState, moveTrain_trains, lockOut_trains, enterResting_trains]

theorem bindAs_notices : (bindAs i st s).notices = (raiseIf (decide (st = .fault)) .trainFault s).notices := by
  cases st <;> simp [bindAs, enterResting, lockOut, raiseIf, raise]

theorem bindAs_frame :
    { bindAs i st s with
      trains := s.trains, link := s.link, disp := s.disp, engine := s.engine, notices := s.notices } = s := by
  cases st <;> simp [bindAs, enterResting, lockOut]

variable (h : s.trains[i].state = .absent)
include h

/-- A binding issues a STOP to a train that does not stand still, and its poll falls due at once (R102, R179). -/
theorem bindAs_link :
    (bindAs i st s).link = { s.link with
      cmds := if st = .stopped ∨ st = .fault then s.link.cmds else enqueue ⟨i, .stop⟩ s.link.cmds
      polls := s.link.polls.set i (some ⟨true, none⟩)
      counters := s.link.counters.set i { s.link.counters[i] with consecutive := 0 } } := by
  rw [Fin.getElem_fin] at h
  cases st <;> simp [bindAs, enterResting, lockOut, issue, moveTrain_link, TrainState.bound, h]

theorem bindAs_disp : (bindAs i st s).disp = { s.disp with setpoints := s.disp.setpoints.set i none } := by
  rw [Fin.getElem_fin] at h
  cases st <;> simp [bindAs, enterResting, lockOut, moveTrain_disp, TrainState.keepsSetpoint, h]

/-- A binding is a cause of R30 where the entry will count for some slot (R117). -/
theorem bindAs_engine : (bindAs i st s).engine = (setVerifyIf (decide (st ≠ .fault)) s).engine := by
  rw [Fin.getElem_fin] at h
  cases st <;> simp [bindAs, enterResting, lockOut, moveTrain_engine, TrainState.group, h]

end Binding

end Sys2Proof.Machine
end

section
/-! SUPPORT. The replies of a train, as the roster takes them (R102 to R104, R106, R110). -/

namespace Sys2Proof.Machine

/-! ### An ANNOUNCE by the state of its entry -/

/-- The state in which an ANNOUNCE that passes the checks binds its entry: reported, with its ratings (R102, R103). -/
def bindsFrom (i : Fin 8) (a : Announce) (s : State) : State :=
  setVerifyIf (s.cfg.trains[i].newRatings a)
    (setTrainCfg i (s.cfg.trains[i].rerated a) (announced i a none s))

section BindsFrom
variable (i : Fin 8) (a : Announce) (s : State)

theorem bindsFrom_work : (bindsFrom i a s).trains[i] =
    { s.trains[i] with bindFault := none, report := some (announcedReport a.state s.free) } := by
  simp [bindsFrom, announced]

theorem bindsFrom_trains_set (w : TrainWork) : (bindsFrom i a s).trains.set i w = s.trains.set i w := by
  simp [bindsFrom, announced]

theorem bindsFrom_cfg : (bindsFrom i a s).cfg =
    { s.cfg with trains := s.cfg.trains.set i (s.cfg.trains[i].rerated a) } := setVerifyIf_cfg ..

theorem bindsFrom_minRest : (bindsFrom i a s).cfg.trains[i].minRest = s.cfg.trains[i].minRest := by
  rw [bindsFrom_cfg, rerated_eq]
  simp

theorem bindsFrom_link : (bindsFrom i a s).link = s.link := setVerifyIf_link ..

theorem bindsFrom_disp : (bindsFrom i a s).disp = s.disp := setVerifyIf_disp ..

theorem bindsFrom_engine (b : Bool) :
    (setVerifyIf b (bindsFrom i a s)).engine = (setVerifyIf (b || s.cfg.trains[i].newRatings a) s).engine := by
  rw [bindsFrom, setVerifyIf_setVerifyIf]
  exact setVerifyIf_engine_congr _ rfl

theorem bindsFrom_frame : { bindsFrom i a s with
    trains := s.trains, cfg := s.cfg, link := s.link, disp := s.disp, engine := s.engine, notices := s.notices
    free := s.free } = s := by
  unfold bindsFrom
  cases s.cfg.trains[i].newRatings a <;> rfl

end BindsFrom

section Announces
variable {i : Fin 8} {a : Announce} {s : State}

/-- An ANNOUNCE that fails a check leaves an ABSENT entry its bind_fault alone (R102). -/
theorem takeAnnounce_faulty (h : s.trains[i].state = .absent) (hf : announceFaultOf s.cfg.trains[i] a ≠ none) :
    takeAnnounce i a s = setBindFault i (announceFaultOf s.cfg.trains[i] a) s :=
  (if_pos h).trans (if_neg hf)

/-- An ANNOUNCE that passes the checks binds an ABSENT entry (R102 step 3). -/
theorem takeAnnounce_binds (h : s.trains[i].state = .absent) (hf : announceFaultOf s.cfg.trains[i] a = none) :
    takeAnnounce i a s = bindAs i a.state (bindsFrom i a s) := by
  have hrep := reportAnnounced_setBindFault i a s.cfg.trains[i] s
  rw [hf] at hrep
  refine (if_pos h).trans ((if_pos hf).trans (congrArg (bindAs i a.state) ?_))
  rw [hf, hrep]
  refine takeRatings_eq a ?_
  rw [Fin.getElem_fin] at h
  simp [announced, raiseIf, h]

/-- An ANNOUNCE of an entry that is not ABSENT is checked and reported, and gives a WITHDRAWN entry its ratings (R104). -/
theorem takeAnnounce_bound (h : s.trains[i].state ≠ .absent) :
    takeAnnounce i a s =
      let f := announceFaultOf s.cfg.trains[i] a
      let t := raiseIf (decide (f ≠ none ∧ f ≠ s.trains[i].bindFault)) .identity (announced i a f s)
      if s.trains[i].state = .withdrawn ∧ f = none then
        setVerifyIf (s.cfg.trains[i].newRatings a) (setTrainCfg i (s.cfg.trains[i].rerated a) t)
      else t := by
  have hstate : (raiseIf (decide (announceFaultOf s.cfg.trains[i] a ≠ none ∧
      announceFaultOf s.cfg.trains[i] a ≠ s.trains[i].bindFault)) .identity
      (announced i a (announceFaultOf s.cfg.trains[i] a) s)).trains[i].state = s.trains[i].state := by
    simp [announced]
  refine (if_neg h).trans ?_
  simp only [announceOther, reportAnnounced_setBindFault, hstate]
  split
  next hw =>
    rw [takeRatings_eq a (by rw [hstate, hw.1]; decide)]
    simp only [raiseIf_cfg]
    rfl
  next => rfl

end Announces

/-- Settles O33: a STATUS by the state that it gives, an ANNOUNCE by the state of its entry. -/
theorem repliesMoveEntries : Obligations.RepliesMoveEntries := by
  unfold Obligations.RepliesMoveEntries
  intro i s w cfg stopDue stopIssued
  refine ⟨fun r => ?_, fun a => ?_⟩
  · intro t rested other may runs unbidden
    have hmay : mayBeRunning i s = true ↔ may := by
      rw [mayBeRunning_iff]
      rfl
    have hunb : runsUnbidden s.trains[i].state r.state (mayBeRunning i s) = true ↔ unbidden := by
      rw [runsUnbidden, decide_eq_true_iff, hmay]
    have hstate : t.trains[i].state = statusState i r.state s := takeStatus_state
    rw [hstate]
    refine ⟨takeStatus_report, fun j hj => takeStatus_others hj, rfl, hmay, fun hu => ?_, fun hu => ?_,
      fun hs => ?_, fun hs => ?_, takeStatus_starting_setpoint, fun hs hw => ?_, fun hs hw => ?_, fun hs hw => ?_,
      fun hs hw => ⟨?_, ?_⟩, fun hs => ?_, fun hw => takeStatus_stays (statusState_unmoved _ hw)⟩
    · rw [takeStatus_cmds, if_pos (hunb.2 hu)]
    · rw [takeStatus_cmds, if_neg (mt hunb.1 hu)]
    · simp only [t, takeStatus_stays hs, reported_work, w]
    · simp only [t, takeStatus_work_moves hs]
      rfl
    · simp only [t, takeStatus_work_moves (ne_of_eq_of_ne hs hw.symm), if_pos hs, cfg]
    · simp only [t, takeStatus_work_moves (ne_of_eq_of_ne hs (hw ▸ by decide))]
      exact if_pos ⟨hs, hw ▸ by decide⟩
    · simp only [t, takeStatus_work_moves (ne_of_eq_of_ne hs (hw ▸ by decide))]
      exact if_neg fun h => h.2 hw
    · exact takeStatus_lockout.trans (if_pos ⟨hs, hw⟩)
    · rw [takeStatus_notices, if_pos ⟨hs, hw⟩]
    · have hkept : ¬(statusState i r.state s = .lockedOut ∧ s.trains[i].state ≠ .lockedOut) := by
        rintro ⟨hn, ho⟩
        exact hs.elim (· hn) ho
      rw [takeStatus_notices, if_neg hkept]
      exact ⟨takeStatus_lockout.trans (if_neg hkept), rfl⟩
  · intro t fault newFault rated least rerated ratings
    have hrated : (cfg.rerated a).ratedKw = rated := rerated_ratedKw cfg a
    have hleast : (cfg.rerated a).minStableKw = least := by rw [rerated_minStableKw, hrated]
    have hcfg : cfg.rerated a = { cfg with ratedKw := rated, minStableKw := least } := by
      rw [rerated_eq, hrated, hleast]
    have hnew : cfg.newRatings a = decide rerated := by rw [TrainCfg.newRatings, hrated, hleast]
    have hfault : announceFaultOf cfg a = fault := rfl
    refine ⟨fun hw hf => ?_, fun hw hf => ?_, fun hw => ?_⟩
    · exact (takeAnnounce_faulty hw hf).trans (setBindFault_announceFault i cfg a s)
    · refine ⟨announcedReport a.state s.free, rfl, announcedReport_kw _ _, announcedReport_fault _ _, ?_⟩
      have ht : t = bindAs i a.state (bindsFrom i a s) := takeAnnounce_binds hw hf
      have hbind : (bindsFrom i a s).trains[i].state = .absent := by rw [bindsFrom_work, ← hw]
      have hset : (bindsFrom i a s).cfg = ratings := by rw [bindsFrom_cfg, hcfg]
      refine ⟨?_, ?_, ?_, ?_, ?_, ?_, ?_⟩
      · rw [ht, bindAs_trains, bindsFrom_trains_set, bindsFrom_work, bindsFrom_minRest]
        rfl
      · exact ht ▸ (congrArg State.cfg (bindAs_frame a.state)).trans hset
      · rw [ht, bindAs_link a.state hbind, bindsFrom_link]
      · rw [ht, bindAs_disp a.state hbind, bindsFrom_disp]
      · rw [ht, bindAs_engine a.state hbind, bindsFrom_engine, Bool.decide_or (a.state ≠ .fault) rerated, ← hnew]
      · rw [ht, bindAs_notices]
        exact raiseIf_notices_congr _ _ (setVerifyIf_notices _ _)
      · have hframe := congrArg (fun u : State => { u with
          trains := s.trains, cfg := s.cfg, link := s.link, disp := s.disp, engine := s.engine, notices := s.notices
          free := s.free }) (bindAs_frame (i := i) (s := bindsFrom i a s) a.state)
        exact ht ▸ hframe.trans (bindsFrom_frame i a s)
    · refine ⟨announcedReport a.state s.free, rfl, announcedReport_kw _ _, announcedReport_fault _ _, ?_⟩
      intro takes
      refine (takeAnnounce_bound hw).trans ?_
      by_cases htakes : takes
      · have hverify : decide (takes ∧ rerated) = decide rerated := by simp only [htakes, true_and]
        refine (if_pos htakes).trans ?_
        rw [show s.cfg.trains[i].newRatings a = _ from hnew, show s.cfg.trains[i].rerated a = _ from hcfg, hverify,
          if_pos htakes]
        change setVerifyIf _ (setTrainCfg i _ (raiseIf (decide newFault) .identity (announced i a fault s))) = _
        cases decide rerated <;> cases decide newFault <;> rfl
      · have hverify : decide (takes ∧ rerated) = false := by simp only [htakes, false_and, decide_false]
        refine (if_neg htakes).trans ?_
        rw [hverify, if_neg htakes]
        change raiseIf (decide newFault) .identity (announced i a fault s) = _
        cases decide newFault <;> rfl

end Sys2Proof.Machine
end

section
/-! SUPPORT. What the roster's moves of one entry leave beside it: the other entries, the transaction slot, the port, the site
values, the reply marks and the open tally. -/

namespace Sys2Proof.Machine

/-- What the end of a transaction to an entry reads beside that entry's own working fields. -/
structure Aside where
  now : Nat
  port : Port
  slot : Option Txn
  site : SiteCfg
  places : Vector (Bool × TrainKind) 8
  replyMarks : Vector (Option Nat) 8
  openTally : Option OpenTally
  others : Vector TrainWork 8

/-- What stands beside entry `i`; its own working fields are left out. -/
def State.aside (i : Fin 8) (s : State) : Aside :=
  ⟨s.now, s.port, s.link.slot, s.cfg.site, s.cfg.trains.map fun c => (c.configured, c.kind), s.disp.replyMarks,
    s.disp.openTally, s.trains.set i .cleared⟩

/-- What stands beside entry `i`, but for the reply marks and the open tally, which an accepted reply changes (R122). -/
def State.beside (i : Fin 8) (s : State) : Aside :=
  { s.aside i with replyMarks := Vector.replicate 8 none, openTally := none }

theorem beside_of_aside {i : Fin 8} {s u : State} (h : u.aside i = s.aside i) : u.beside i = s.beside i :=
  congrArg (fun a : Aside => { a with replyMarks := Vector.replicate 8 none, openTally := none }) h

section Keeps
variable (i : Fin 8) (s : State)

@[simp] theorem raise_aside (n : Notice) : (raise n s).aside i = s.aside i := rfl
@[simp] theorem raiseIf_aside (b : Bool) (n : Notice) : (raiseIf b n s).aside i = s.aside i := by cases b <;> rfl
@[simp] theorem setVerifyIf_aside (b : Bool) : (setVerifyIf b s).aside i = s.aside i := by cases b <;> rfl
@[simp] theorem issue_aside (c : Cmd) : (issue c s).aside i = s.aside i := rfl
@[simp] theorem holdNothing_aside : (holdNothing i s).aside i = s.aside i := rfl
@[simp] theorem setTrain_aside (w : TrainWork) : (setTrain i w s).aside i = s.aside i := by
  simp [State.aside, setTrain]
@[simp] theorem moveTrain_aside (new : TrainState) (timer : Option Timer) :
    (moveTrain i new timer s).aside i = s.aside i := by
  simp [State.aside, moveTrain_trains, moveTrain_link, moveTrain_disp]
@[simp] theorem lockOut_aside (cause : LockoutCause) : (lockOut i cause s).aside i = s.aside i := by simp [lockOut]
@[simp] theorem enterResting_aside : (enterResting i s).aside i = s.aside i := by simp [enterResting]

@[simp] theorem enterReported_aside (new : TrainState) (unbidden : Bool) :
    (enterReported i new unbidden s).aside i = s.aside i := by
  cases new
  case running =>
    simp only [enterReported]
    split <;> simp [enterRunning]
  case stopping => cases unbidden <;> simp [enterReported, stopUnbidden, enterStopping]
  all_goals simp [enterReported]

@[simp] theorem takeStatus_aside (r : Report) : (takeStatus i r s).aside i = s.aside i := by
  by_cases h : statusState i r.state s = s.trains[i].state
  · rw [takeStatus_stays h, reported, setTrain_aside]
  · rw [takeStatus_moves h, enterReported_aside, reported, setTrain_aside]

@[simp] theorem setBindFault_aside (f : Option BindFault) : (setBindFault i f s).aside i = s.aside i := by
  simp [setBindFault]
@[simp] theorem bindAs_aside (st : ReportedState) : (bindAs i st s).aside i = s.aside i := by cases st <;> simp [bindAs]
@[simp] theorem announced_aside (a : Announce) (f : Option BindFault) : (announced i a f s).aside i = s.aside i := by
  simp [State.aside, announced]

variable {s} in
theorem setTrainCfg_aside {c : TrainCfg}
    (h : (c.configured, c.kind) = (s.cfg.trains[i].configured, s.cfg.trains[i].kind)) :
    (setTrainCfg i c s).aside i = s.aside i := by
  have hplaces : (s.cfg.trains.set i c).map (fun c => (c.configured, c.kind)) =
      s.cfg.trains.map fun c => (c.configured, c.kind) := by
    rw [Vector.map_set, h]
    exact (congrArg (Vector.set _ i.val · i.isLt) (Vector.getElem_map _ i.isLt).symm).trans (Vector.set_getElem_self _)
  simp only [State.aside, setTrainCfg, hplaces]

/-- New ratings change neither the kind of an entry nor whether it is configured (R103). -/
theorem rerated_place (c : TrainCfg) (a : Announce) :
    ((c.rerated a).configured, (c.rerated a).kind) = (c.configured, c.kind) := by
  rw [rerated_eq]

@[simp] theorem takeAnnounce_aside (a : Announce) : (takeAnnounce i a s).aside i = s.aside i := by
  by_cases h : s.trains[i].state = .absent
  · by_cases hf : announceFaultOf s.cfg.trains[i] a = none
    · rw [takeAnnounce_binds h hf, bindAs_aside, bindsFrom, setVerifyIf_aside,
        setTrainCfg_aside i (s := announced i a none s) (c := s.cfg.trains[i].rerated a) (rerated_place _ a), announced_aside]
    · rw [takeAnnounce_faulty h hf, setBindFault_aside]
  · rw [takeAnnounce_bound h]
    simp only
    split
    · have hplace := rerated_place s.cfg.trains[i] a
      rw [setVerifyIf_aside, setTrainCfg_aside i (by rw [raiseIf_cfg]; exact hplace), raiseIf_aside, announced_aside]
    · rw [raiseIf_aside, announced_aside]

@[simp] theorem declareLost_aside : (declareLost i s).aside i = s.aside i := by
  unfold declareLost
  split <;> simp

@[simp] theorem identFailed_aside : (identFailed i s).aside i = s.aside i := by
  unfold identFailed
  split <;> simp

end Keeps

end Sys2Proof.Machine
end

section
/-! SUPPORT. How a transaction to an entry ends (R101, R122, R175, R178, R181, R182, R188): the count, the roster's part, the
origin's part, and what follows. -/

namespace Sys2Proof.Machine

/-! ### The count (R181, R182) -/

/-- The slot freed, and the counters of an entry written (R175, R181). -/
def State.counting (i : Fin 8) (c : Counters) (s : State) : State :=
  { s with link := { s.link with slot := none, counters := s.link.counters.set i c } }

/-- The slot freed (R175). -/
def State.freed (s : State) : State := { s with link := { s.link with slot := none } }

section Count
variable (i : Fin 8) (s : State)

/-- The link's failures lose a bound train that is neither LOCKED_OUT nor LOST (R109). -/
theorem declareLost_eq :
    declareLost i s =
      if s.trains[i].state ≠ .absent ∧ s.trains[i].state ≠ .withdrawn ∧ s.trains[i].state ≠ .lockedOut ∧
          s.trains[i].state ≠ .lost then
        raise .trainLost (moveTrain i .lost none s)
      else s := by
  unfold declareLost
  generalize s.trains[i].state = st
  cases st <;> rfl

/-- The counters of an entry after an outcome (R181, R182). -/
def countersAfter (o : TxnOutcome) : Counters :=
  { s.link.counters[i].count o with
    consecutive := consecutiveAfter s.trains[i].state.bound s.link.counters[i].consecutive o }

/-- The error counters written, with LINK_ERRORS where their sum crosses the threshold (R181). -/
def State.errorsCounted (c' : Counters) : State :=
  raiseIf (decide (s.link.counters[i].crc + s.link.counters[i].seq ≤ s.cfg.site.errorThreshold ∧
    s.cfg.site.errorThreshold < c'.crc + c'.seq)) .linkErrors (s.counting i c')

/-- A failure counted, with the train lost at the third in a row (R181, R182). -/
def State.failureCounted (c' : Counters) : State :=
  if s.link.counters[i].consecutive = 2 ∧ c'.consecutive = 3 ∧ s.trains[i].state ≠ .absent ∧
      s.trains[i].state ≠ .withdrawn ∧ s.trains[i].state ≠ .lockedOut ∧ s.trains[i].state ≠ .lost then
    raise .trainLost (moveTrain i .lost none (s.errorsCounted i c'))
  else s.errorsCounted i c'

theorem countOutcome_freed (o : TxnOutcome) :
    countOutcome i o s.freed =
      if s.link.counters[i].consecutive < 3 ∧ (countersAfter i s o).consecutive = 3 then
        declareLost i (s.errorsCounted i (countersAfter i s o))
      else s.errorsCounted i (countersAfter i s o) := by
  simp only [State.errorsCounted, Bool.decide_and]
  rfl

/-- A GOOD outcome clears the failure count and counts no error (R181, R182). -/
theorem countOutcome_good (d : ReplyData) (payload : List Byte) :
    countOutcome i (.good d payload) s.freed = s.counting i { s.link.counters[i] with consecutive := 0 } := by
  rw [countOutcome_freed, if_neg fun h => absurd (show 0 = 3 from h.2) (by decide), State.errorsCounted, decide_eq_false]
  · rfl
  · exact fun h => absurd (lt_of_le_of_lt h.1 h.2) (lt_irrefl _)

theorem errorsCounted_work (c' : Counters) : (s.errorsCounted i c').trains[i] = s.trains[i] := by
  simp [State.errorsCounted, State.counting]

variable {s i}

theorem countOutcome_failed {o : TxnOutcome}
    (h : (countersAfter i s o).consecutive = s.link.counters[i].consecutive ∨
      (countersAfter i s o).consecutive = min 255 (s.link.counters[i].consecutive + 1)) :
    countOutcome i o s.freed = s.failureCounted i (countersAfter i s o) := by
  rw [countOutcome_freed, declareLost_eq, errorsCounted_work, State.failureCounted, ← ite_and]
  exact if_congr ((and_congr_left' (by omega)).trans and_assoc) rfl rfl

end Count

section Counters
variable (i : Fin 8) (s : State)

/-- The failure count of an entry goes up while it is bound (R182). -/
def oneFailureMore : Nat :=
  if s.trains[i].state ≠ .absent ∧ s.trains[i].state ≠ .withdrawn then min 255 (s.link.counters[i].consecutive + 1)
  else s.link.counters[i].consecutive

theorem consecutiveAfter_timeout :
    consecutiveAfter s.trains[i].state.bound s.link.counters[i].consecutive .timeout = oneFailureMore i s := by
  simp only [consecutiveAfter, bound_iff, incTo_eq_min, oneFailureMore]

theorem oneFailureMore_cases : oneFailureMore i s = s.link.counters[i].consecutive ∨
    oneFailureMore i s = min 255 (s.link.counters[i].consecutive + 1) := by
  unfold oneFailureMore
  split
  · exact .inr rfl
  · exact .inl rfl

theorem countOutcome_timeout :
    countOutcome i .timeout s.freed = s.failureCounted i { s.link.counters[i] with
      missed := min 65535 (s.link.counters[i].missed + 1), consecutive := oneFailureMore i s } := by
  have hc : countersAfter i s .timeout = { s.link.counters[i] with
      missed := min 65535 (s.link.counters[i].missed + 1), consecutive := oneFailureMore i s } := by
    rw [countersAfter, consecutiveAfter_timeout, Counters.count, incTo_eq_min]
  rw [countOutcome_failed (hc ▸ oneFailureMore_cases i s), hc]

theorem countOutcome_crc :
    countOutcome i .crc s.freed = s.failureCounted i { s.link.counters[i] with
      crc := min 65535 (s.link.counters[i].crc + 1), consecutive := oneFailureMore i s } := by
  have hc : countersAfter i s .crc = { s.link.counters[i] with
      crc := min 65535 (s.link.counters[i].crc + 1), consecutive := oneFailureMore i s } := by
    rw [countersAfter, ← consecutiveAfter_timeout, Counters.count, incTo_eq_min]
    rfl
  rw [countOutcome_failed (hc ▸ oneFailureMore_cases i s), hc]

theorem countOutcome_sequence :
    countOutcome i .sequence s.freed = s.failureCounted i { s.link.counters[i] with
      seq := min 65535 (s.link.counters[i].seq + 1), consecutive := oneFailureMore i s } := by
  have hc : countersAfter i s .sequence = { s.link.counters[i] with
      seq := min 65535 (s.link.counters[i].seq + 1), consecutive := oneFailureMore i s } := by
    rw [countersAfter, ← consecutiveAfter_timeout, Counters.count, incTo_eq_min]
    rfl
  rw [countOutcome_failed (hc ▸ oneFailureMore_cases i s), hc]

theorem countOutcome_rejected (payload : List Byte) :
    countOutcome i (.rejected payload) s.freed = s.failureCounted i { s.link.counters[i] with
      reject := min 65535 (s.link.counters[i].reject + 1) } := by
  have hc : countersAfter i s (.rejected payload) = { s.link.counters[i] with
      reject := min 65535 (s.link.counters[i].reject + 1) } := by
    rw [countersAfter, Counters.count, incTo_eq_min]
    rfl
  rw [countOutcome_failed (.inl (by rw [hc])), hc]

end Counters

end Sys2Proof.Machine
end

section
/-! SUPPORT. What follows the count as a transaction to an entry ends (R101, R122, R175, R178, R188). -/

namespace Sys2Proof.Machine

/-! ### What stands beside the entry -/

section Beside
variable {i : Fin 8} {s u : State} (h : u.beside i = s.beside i)
include h

theorem beside_place : u.cfg.trains[i].configured = s.cfg.trains[i].configured ∧
    u.cfg.trains[i].kind = s.cfg.trains[i].kind := by
  have hplace := congrArg (fun a : Aside => a.places[i]) h
  simpa [State.beside, State.aside] using hplace

theorem beside_others {j : Fin 8} (hj : j ≠ i) : u.trains[j] = s.trains[j] := by
  have hother := congrArg (fun a : Aside => a.others[j]) h
  have hne : i.val ≠ j.val := fun hv => hj (Fin.ext hv.symm)
  simpa [State.beside, State.aside, hne] using hother

end Beside

/-! ### The roster's part (R101, R175) -/

/-- A failed IDENT of the roster's gives an ABSENT or WITHDRAWN entry NO_ANSWER (R101). -/
def identUnanswered (x : Txn) (i : Fin 8) (u : State) : State :=
  if x.frame.kind = .ident ∧ x.disowned = false ∧ (u.trains[i].state = .absent ∨ u.trains[i].state = .withdrawn) then
    { u with trains := u.trains.set i { u.trains[i] with bindFault := some .noAnswer } } else u

/-- The end of an IDENT begins the period to the next while a configured entry is ABSENT (R101). -/
def identDueNext (x : Txn) (i : Fin 8) (s u : State) : State :=
  if x.frame.kind = .ident ∧ s.cfg.trains[i].configured = true ∧ u.trains[i].state = .absent then
    { u with trains := u.trains.set i { u.trains[i] with identDue := some (s.now + s.cfg.site.pollPeriod) } } else u

section Roster
variable {x : Txn} {i : Fin 8} {s u : State}

theorem identFailed_eq : identFailed i u =
    if u.trains[i].state = .absent ∨ u.trains[i].state = .withdrawn then
      setTrain i { u.trains[i] with bindFault := some .noAnswer } u else u := rfl

/-- The roster takes no part in the failure of anything but an IDENT that it owns (R100, R101). -/
theorem handRoster_failed {o : TxnOutcome} (ho : o.isGood = false) :
    (if x.disowned = true then u else handRoster i x.frame.kind o u) = identUnanswered x i u := by
  have hroster : handRoster i x.frame.kind o u = if x.frame.kind = .ident then identFailed i u else u := by
    cases o with
    | good => cases ho
    | rejected | timeout | crc | sequence | abandoned => rfl
  rw [hroster, identFailed_eq, identUnanswered, ite_and, ite_and]
  cases x.disowned
  · simp only [Bool.false_eq_true, if_false, if_true]
    rfl
  · simp

theorem identEnded_eq (h : u.beside i = s.freed.beside i) :
    (if x.frame.kind = .ident then identEnded i u else u) = identDueNext x i s u := by
  have hnow : u.now = s.now := congrArg Aside.now h
  have hsite : u.cfg.site = s.cfg.site := congrArg Aside.site h
  have hconf : u.cfg.trains[i].configured = s.cfg.trains[i].configured := (beside_place h).1
  rw [identDueNext, ite_and, ← hnow, ← hsite, ← hconf]
  rfl

theorem identUnanswered_aside : (identUnanswered x i u).aside i = u.aside i := by
  unfold identUnanswered
  split
  · exact setTrain_aside i u _
  · rfl

theorem identDueNext_aside : (identDueNext x i s u).aside i = u.aside i := by
  unfold identDueNext
  split
  · exact setTrain_aside i u _
  · rfl

theorem counting_aside (c : Counters) : (s.counting i c).aside i = s.freed.aside i := rfl

theorem failureCounted_aside (c : Counters) : (s.failureCounted i c).aside i = s.freed.aside i := by
  unfold State.failureCounted
  split <;> simp [State.errorsCounted, counting_aside]

end Roster

/-! ### A good reply (R122, R175) -/

section Good
variable (i : Fin 8) (s u : State)

/-- The dispatch unit's part of an accepted STATUS (R122): the reply mark, and the energy since the last accepted reply. -/
def acceptedEnergy (r : Report) : Nat :=
  match s.disp.replyMarks[i] with
  | none => 0
  | some m => r.kw * min (2 * s.cfg.site.pollPeriod) (s.now - m)

theorem delivers_iff (st : TrainState) : st.delivers = true ↔ st = .running ∨ st = .starting ∨ st = .stopping := by
  cases st <;> decide

theorem acceptReply_eq (r : Report) (h : u.aside i = s.aside i) :
    acceptReply i r.kw u = { u with disp := { u.disp with
      replyMarks := s.disp.replyMarks.set i (some s.now)
      openTally :=
        if u.trains[i].state = .running ∨ u.trains[i].state = .starting ∨ u.trains[i].state = .stopping then
          s.disp.openTally.map fun t => t.add s.cfg.trains[i].kind (acceptedEnergy i s r)
        else s.disp.openTally } } := by
  have hnow : u.now = s.now := congrArg Aside.now h
  have hsite : u.cfg.site = s.cfg.site := congrArg Aside.site h
  have hmarks : u.disp.replyMarks = s.disp.replyMarks := congrArg Aside.replyMarks h
  have htally : u.disp.openTally = s.disp.openTally := congrArg Aside.openTally h
  have hkind : u.cfg.trains[i].kind = s.cfg.trains[i].kind := (beside_place (beside_of_aside h)).2
  simp only [acceptReply, markReply, delivers_iff, hnow, hsite, hmarks, htally, hkind]
  rfl

theorem markReply_eq (h : u.aside i = s.aside i) :
    markReply i u = { u with disp := { u.disp with replyMarks := s.disp.replyMarks.set i (some s.now) } } := by
  rw [← show u.now = s.now from congrArg Aside.now h,
    ← show u.disp.replyMarks = s.disp.replyMarks from congrArg Aside.replyMarks h]
  rfl

end Good

/-! ### The origin's part (R178, R188) -/

/-- A forwarded message whose response is owed is answered (R188). -/
def forwardAnswered (x : Txn) (s : State) (r : Response) (u : State) : State :=
  match x.origin with
  | .passThrough f =>
    if f.owed = true ∧ s.port.state = .owed then { u with port := { u.port with state := .holding r } } else u
  | _ => u

/-- A dispatch command that fails is sent again once, and then dropped (R178). -/
def commandAgain (x : Txn) (u : State) : State :=
  match x.origin with
  | .command c false => { u with link := { u.link with reissue := some c } }
  | .command ⟨e, .set _⟩ true => { u with disp := { u.disp with
      setpoints := u.disp.setpoints.set e (u.disp.setpoints[e].map fun p => { p with issued := none }) } }
  | _ => u

section Origin
variable {x : Txn} {s u : State} {o : TxnOutcome} {r : Response} (hp : u.port = s.port)
  (hr : ∀ f, forwardResponse f o u = answerOwed f r.result r.body u)
include hp hr

theorem handOrigin_good (ho : o.isGood = true) : handOrigin x.origin o u = forwardAnswered x s r u := by
  unfold handOrigin forwardAnswered
  cases x.origin with
  | command c reissued => simp only [ho, if_true]
  | passThrough f =>
    rw [← hp]
    exact hr f
  | ident | poll | broadcast => rfl

theorem handOrigin_failed (ho : o.isGood = false) :
    handOrigin x.origin o u = commandAgain x (forwardAnswered x s r u) := by
  unfold handOrigin forwardAnswered commandAgain
  cases x.origin with
  | command c reissued =>
    obtain ⟨e, kind⟩ := c
    cases reissued <;> cases kind <;> simp [ho, commandFailed, dropCmd]
  | passThrough f =>
    rw [← hp]
    exact hr f
  | ident | poll | broadcast => rfl

end Origin

section Keeps
variable (x : Txn) (o : TxnOutcome) (u : State)

theorem answerOwed_keeps (f : Fwd) (r : ResultCode) (b : Body) :
    (answerOwed f r b u).trains = u.trains ∧ (answerOwed f r b u).link = u.link := by
  unfold answerOwed
  split <;> exact ⟨rfl, rfl⟩

theorem forwardResponse_keeps (f : Fwd) :
    (forwardResponse f o u).trains = u.trains ∧ (forwardResponse f o u).link = u.link := by
  unfold forwardResponse
  split <;> exact answerOwed_keeps u ..

theorem handOrigin_keeps :
    (handOrigin x.origin o u).trains = u.trains ∧ (handOrigin x.origin o u).link.slot = u.link.slot := by
  unfold handOrigin
  cases x.origin with
  | command c reissued => cases o.isGood <;> cases reissued <;> cases hk : c.kind <;> simp [commandFailed, dropCmd, hk]
  | passThrough f => exact ⟨(forwardResponse_keeps o u f).1, congrArg Link.slot (forwardResponse_keeps o u f).2⟩
  | ident | poll | broadcast => exact ⟨rfl, rfl⟩

end Keeps

/-! ### The end (R100, R101, R123) -/

/-- An IDENT that waited for the end joins the line (R100; log entry 20). -/
def identJoins (x : Txn) (i : Fin 8) (u : State) : State :=
  if x.identAfter = true ∧ i ∉ u.link.idents then { u with link := { u.link with idents := u.link.idents ++ [i] } } else u

/-- What the end of a transaction to entry `i` makes of a state: the waiting IDENT, and a recompute where the entry moved or
its ratings changed (R117, R123; log entry 10). -/
def settledAfter (x : Txn) (i : Fin 8) (s u : State) : State :=
  recomputeIf (decide (u.trains[i].state ≠ s.trains[i].state ∨ u.cfg.trains ≠ s.cfg.trains)) (identJoins x i u)

section Ends
variable {x : Txn} {i : Fin 8} {s u : State} {o : TxnOutcome}

/-- Where no other entry differs, the roster's states differ as the entry's do. -/
theorem trainStates_eq_iff (h : ∀ j, j ≠ i → u.trains[j] = s.trains[j]) :
    trainStates u = trainStates s ↔ u.trains[i].state = s.trains[i].state := by
  simp only [trainStates, List.map_inj_left, List.mem_finRange, true_implies]
  refine ⟨fun hall => hall i, fun hi j => ?_⟩
  by_cases hj : j = i
  · rw [hj, hi]
  · rw [h j hj]

theorem putIdent_of_slot_none (h : u.link.slot = none) :
    (if x.identAfter = true then putIdent i u else u) = identJoins x i u := by
  have hf : identInFlight i u = false := by simp only [identInFlight, h]
  simp only [identJoins, putIdent, hf, Bool.false_eq_true, or_false, ite_and, ite_not]

theorem recomputeIfMoved_settles (hslot : u.link.slot = none) (h : ∀ j, j ≠ i → u.trains[j] = s.trains[j]) :
    recomputeIfMoved s (if x.identAfter = true then putIdent i u else u) = settledAfter x i s u := by
  have htrains : (identJoins x i u).trains = u.trains := by unfold identJoins; split <;> rfl
  have hcfg : (identJoins x i u).cfg = u.cfg := by unfold identJoins; split <;> rfl
  have hstates : trainStates (identJoins x i u) = trainStates u := by rw [trainStates, htrains, trainStates]
  rw [putIdent_of_slot_none hslot, recomputeIfMoved, hstates, hcfg, settledAfter, Bool.decide_or]
  simp only [ne_eq, trainStates_eq_iff h]

/-- A transaction to an entry ends by its count, the roster's part, the origin's part and what follows. -/
theorem endTransaction_eq
    (hu : (if x.disowned = true then countOutcome i o s.freed
      else handRoster i x.frame.kind o (countOutcome i o s.freed)) = u)
    (hb : u.beside i = s.freed.beside i) :
    endTransaction x i o s = settledAfter x i s (handOrigin x.origin o (identDueNext x i s u)) := by
  have hkeeps := handOrigin_keeps x o (identDueNext x i s u)
  have hb' : (identDueNext x i s u).beside i = s.freed.beside i := (beside_of_aside identDueNext_aside).trans hb
  rw [← recomputeIfMoved_settles (hkeeps.2.trans (congrArg Aside.slot hb'))
    (fun j hj => by rw [hkeeps.1]; exact beside_others hb' hj), ← identEnded_eq hb, ← hu]
  rfl

theorem endTransaction_failed {c : Counters} {r : Response} (ho : o.isGood = false)
    (hc : countOutcome i o s.freed = s.failureCounted i c)
    (hr : ∀ f u, forwardResponse f o u = answerOwed f r.result r.body u) :
    endTransaction x i o s = settledAfter x i s (commandAgain x (forwardAnswered x s r
      (identDueNext x i s (identUnanswered x i (s.failureCounted i c))))) := by
  have ha : (identUnanswered x i (s.failureCounted i c)).aside i = s.freed.aside i :=
    identUnanswered_aside.trans (failureCounted_aside c)
  rw [endTransaction_eq (hc ▸ handRoster_failed ho) (beside_of_aside ha),
    handOrigin_failed (s := s) (congrArg Aside.port (identDueNext_aside.trans ha)) (fun f => hr f _) ho]

theorem endTransaction_good {d : ReplyData} {payload : List Byte} {r : Response} {g : State}
    (hg : s.counting i { s.link.counters[i] with consecutive := 0 } = g) (hb : (handReply i d g).beside i = g.beside i)
    (hr : ∀ f u, forwardResponse f (.good d payload) u = answerOwed f r.result r.body u) :
    endTransaction x i (.good d payload) s = settledAfter x i s (forwardAnswered x s r
      (identDueNext x i s (if x.disowned = true then g else handReply i d g))) := by
  have hfreed : g.beside i = s.freed.beside i := hg ▸ rfl
  have hb' : (if x.disowned = true then g else handReply i d g).beside i = s.freed.beside i := by
    split
    · exact hfreed
    · exact hb.trans hfreed
  rw [endTransaction_eq (by rw [countOutcome_good, hg]; rfl) hb',
    handOrigin_good (s := s) (congrArg Aside.port ((beside_of_aside identDueNext_aside).trans hb')) (fun f => hr f _) rfl]

end Ends

end Sys2Proof.Machine
end

section
/-! SUPPORT. The end of every transaction to an entry (R174, R175). -/

namespace Sys2Proof.Machine

section Awaited
variable {x : Txn} {i : Fin 8} {s : State} (hs : s.link.slot = some x) (he : x.entry = some i)
include hs he

theorem awaiting_of_slot : s.awaiting = some (x, i) := by
  rw [State.awaiting, hs, Option.bind_some, he, Option.map_some]

theorem exec_replyTimeout_awaited : exec .replyTimeout s = .next (endTransaction x i .timeout s) := by
  simp only [exec, execReplyTimeout, awaiting_of_slot hs he]

theorem exec_replyReceived_awaited {bytes : List Byte} {o : TxnOutcome} (ho : judgeReply x.frame bytes = o) :
    exec (.replyReceived bytes) s = .next (endTransaction x i o s) := by
  simp only [exec, execReplyReceived, awaiting_of_slot hs he, ho]

end Awaited

/-- A good reply leaves what stands beside its entry, but for the reply marks and the open tally (R122). -/
theorem handReply_beside (i : Fin 8) (d : ReplyData) (s : State) : (handReply i d s).beside i = s.beside i := by
  cases d with
  | status r =>
    have hmoved := beside_of_aside (takeStatus_aside i s r)
    simp only [handReply]
    split
    · exact hmoved
    · exact hmoved
  | announce a => exact beside_of_aside (u := takeAnnounce i a s) (takeAnnounce_aside i s a)

/-- Settles O49, outcome by outcome. -/
theorem transactionEnds : Obligations.TransactionEnds := by
  unfold Obligations.TransactionEnds
  intro i x s hs he c w bound counting good threshold missed byStatus byAnnounce noAnswer dueNext answered again joins settled
    failed oneMore
  have hgood : s.counting i { s.link.counters[i] with consecutive := 0 } = good := rfl
  have hstatus : ∀ r, handReply i (.status r) good = byStatus r := fun r => by
    have hbound : good.trains[i].state.bound = true ↔ bound := bound_iff _
    simp only [handReply, hbound, acceptReply_eq i good _ r (takeStatus_aside i good r)]
    rfl
  have hannounce : ∀ a, handReply i (.announce a) good = byAnnounce a := fun a =>
    markReply_eq i good _ (takeAnnounce_aside i good a)
  refine ⟨?_, fun bytes => ⟨fun ho => ?_, fun ho => ?_, fun payload ho => ?_, fun r payload ho => ?_,
    fun a payload ho => ?_⟩⟩
  · rw [exec_replyTimeout_awaited hs he,
      endTransaction_failed (r := ⟨.timeout, .empty⟩) rfl (countOutcome_timeout i s) fun _ _ => rfl]
    rfl
  · rw [exec_replyReceived_awaited hs he ho,
      endTransaction_failed (r := ⟨.timeout, .empty⟩) rfl (countOutcome_crc i s) fun _ _ => rfl]
    rfl
  · rw [exec_replyReceived_awaited hs he ho,
      endTransaction_failed (r := ⟨.timeout, .empty⟩) rfl (countOutcome_sequence i s) fun _ _ => rfl]
    rfl
  · rw [exec_replyReceived_awaited hs he ho,
      endTransaction_failed (r := ⟨.done, .reply .reject payload⟩) rfl (countOutcome_rejected i s payload) fun _ _ => rfl]
    rfl
  · rw [exec_replyReceived_awaited hs he ho,
      endTransaction_good (r := ⟨.done, .reply .status payload⟩) hgood (handReply_beside i _ good) fun _ _ => rfl, hstatus]
    rfl
  · rw [exec_replyReceived_awaited hs he ho,
      endTransaction_good (r := ⟨.done, .reply .announce payload⟩) hgood (handReply_beside i _ good) fun _ _ => rfl, hannounce]
    rfl

end Sys2Proof.Machine
end

section
/-! SUPPORT. The gates of SET_TRAIN (R98, R99): its ranges, the address of another entry, and the change that an entry in service
refuses, as propositions. -/

namespace Sys2Proof.Machine

/-! ### A name (R96) -/

/-- The twelve codes of a name: one to twelve characters of codes 1 to 40, then only zeros (R96). -/
def NameCodes (codes : List Nat) : Prop :=
  ∃ n, 1 ≤ n ∧ n ≤ codes.length ∧
    ∀ (k : Nat) (h : k < codes.length), (k < n → 1 ≤ codes[k] ∧ codes[k] ≤ 40) ∧ (n ≤ k → codes[k] = 0)

/-- The characters of a name end where its first zero stands. -/
theorem takeWhile_eq_take {codes : List Nat} {n : Nat}
    (h : ∀ (k : Nat) (h : k < codes.length), (k < n → codes[k] ≠ 0) ∧ (n ≤ k → codes[k] = 0)) :
    codes.takeWhile (fun c => c != 0) = codes.take n := by
  induction codes generalizing n with
  | nil => simp
  | cons c cs ih =>
    obtain ⟨hbelow, habove⟩ := h 0 (by simp)
    cases n with
    | zero =>
      have hc : c = 0 := habove (Nat.le_refl 0)
      simp [hc]
    | succ n =>
      have hc : c ≠ 0 := hbelow (Nat.succ_pos n)
      have htail : cs.takeWhile (fun c => c != 0) = cs.take n :=
        ih fun k hk =>
          have hk' := h (k + 1) (Nat.succ_lt_succ hk)
          ⟨fun hlt => hk'.1 (Nat.succ_lt_succ hlt), fun hle => hk'.2 (Nat.succ_le_succ hle)⟩
      simp [hc, htail]

/-- A name has a character, no character above 40, and only zeros after its last one (R96). -/
theorem nameOf_isSome (codes : List Nat) : (nameOf codes).isSome = true ↔
    codes.takeWhile (fun c => c != 0) ≠ [] ∧ (∀ c ∈ codes.takeWhile (fun c => c != 0), c ≤ 40) ∧
      ∀ c ∈ codes.drop (codes.takeWhile (fun c => c != 0)).length, c = 0 := by
  unfold nameOf
  generalize codes.takeWhile (fun c => c != 0) = name
  simp only
  split
  next h => simpa [or_assoc, or_iff_not_imp_left] using h
  next h => simpa [and_assoc] using h

theorem nameOf_isSome_iff (codes : List Nat) : (nameOf codes).isSome = true ↔ NameCodes codes := by
  rw [nameOf_isSome]
  constructor
  · rintro ⟨hne, hchar, hzero⟩
    have hprefix := List.takeWhile_prefix (l := codes) (fun c => c != 0)
    refine ⟨(codes.takeWhile fun c => c != 0).length, List.length_pos_of_ne_nil hne, hprefix.length_le, fun k hk =>
      ⟨fun hlt => ?_, fun hle => ?_⟩⟩
    · have hmem := List.getElem_mem hlt
      have hpos := List.mem_takeWhile_imp hmem
      rw [hprefix.getElem hlt] at hmem hpos
      exact ⟨Nat.one_le_iff_ne_zero.2 (by simpa using hpos), hchar _ hmem⟩
    · exact hzero _ (List.mem_drop_iff_getElem.2 ⟨k - _, by omega, getElem_congr_idx (Nat.add_sub_cancel' hle)⟩)
  · rintro ⟨n, hpos, hle, hcodes⟩
    have htake := takeWhile_eq_take fun k hk =>
      ⟨fun hlt => Nat.one_le_iff_ne_zero.1 ((hcodes k hk).1 hlt).1, (hcodes k hk).2⟩
    rw [htake, List.length_take_of_le hle]
    refine ⟨List.ne_nil_of_length_pos (by rw [List.length_take_of_le hle]; exact hpos), fun c hc => ?_, fun c hc => ?_⟩
    · obtain ⟨k, hk, rfl⟩ := List.mem_take_iff_getElem.1 hc
      exact ((hcodes k (by omega)).1 (by omega)).2
    · obtain ⟨k, hk, rfl⟩ := List.mem_drop_iff_getElem.1 hc
      exact (hcodes _ (by omega)).2 (by omega)

theorem nameOf_eq {codes : List Nat} (h : (nameOf codes).isSome = true) :
    nameOf codes = some (codes.takeWhile fun c => c != 0) := by
  unfold nameOf at h ⊢
  simp only at h ⊢
  split at h
  · cases h
  next hok => rw [if_neg hok]

/-! ### The ranges (R96, R99) -/

theorem isCode_trainKindOf_iff (o : Option Nat) : isCode trainKindOf o = true ↔ ∀ v ∈ o, v ≤ 1 := by
  rw [isCode, Option.all_eq_true]
  refine forall₂_congr fun v _ => ?_
  rcases v with _ | _ | v <;> simp [trainKindOf]

/-- A kind in range is the one that its code stands for (R202). -/
theorem codeOr_trainKindOf {o : Option Nat} (h : ∀ v ∈ o, v ≤ 1) (kept : TrainKind) :
    codeOr trainKindOf o kept = (o.map fun v => if v = 0 then TrainKind.compressor else .expander).getD kept := by
  cases o with
  | none => rfl
  | some v =>
    have hv : v ≤ 1 := h v rfl
    interval_cases v <;> rfl

/-- The given values of a SET_TRAIN lie in their ranges (R96, R99). -/
def trainValuesOk (p : TrainParams) : Prop :=
  (∀ v ∈ p.configured, v ≤ 1) ∧ (∀ v ∈ p.kind, v ≤ 1) ∧ (∀ v ∈ p.index, v ≤ 7) ∧
    (∀ v ∈ p.name, ∃ n : Nat, 1 ≤ n ∧ n ≤ 12 ∧
      ∀ k : Fin 12, (k.val < n → 1 ≤ v[k] ∧ v[k] ≤ 40) ∧ (n ≤ k.val → v[k] = 0)) ∧
    (∀ v ∈ p.holdRating, v ≤ 1) ∧ (∀ v ∈ p.ratedKw, 1000 ≤ v ∧ v ≤ 150000) ∧
    (∀ v ∈ p.minStableKw, v ≤ 150000) ∧ (∀ v ∈ p.priority, v ≤ 15) ∧ (∀ v ∈ p.startLead, v ≤ 6) ∧
    (∀ v ∈ p.minRun, 1 ≤ v ∧ v ≤ 24) ∧ (∀ v ∈ p.minRest, v ≤ 24) ∧
    (∀ v ∈ p.startTimeout, 30 ≤ v ∧ v ≤ 1800) ∧ (∀ v ∈ p.stopTimeout, 30 ≤ v ∧ v ≤ 1800)

theorem nameCodes_vector_iff (v : Vector Nat 12) :
    NameCodes v.toList ↔ ∃ n : Nat, 1 ≤ n ∧ n ≤ 12 ∧
      ∀ k : Fin 12, (k.val < n → 1 ≤ v[k] ∧ v[k] ≤ 40) ∧ (n ≤ k.val → v[k] = 0) := by
  simp [NameCodes, Fin.forall_iff]

theorem trainInRange_iff (p : TrainParams) : trainInRange p = true ↔ trainValuesOk p := by
  simp only [trainInRange, Bool.and_eq_true, isCode_flagOf_iff, isCode_trainKindOf_iff, within_iff, Nat.zero_le, true_and,
    Option.all_eq_true, nameOf_isSome_iff, nameCodes_vector_iff, and_assoc, Option.mem_def, trainValuesOk]

/-- An entry's settings with the given fields in place, as the values in range stand for (R99). -/
def TrainCfg.given (old : TrainCfg) (p : TrainParams) : TrainCfg :=
  { configured := (p.configured.map fun v => v == 1).getD old.configured
    kind := (p.kind.map fun v => if v = 0 then TrainKind.compressor else .expander).getD old.kind
    index := p.index.getD old.index
    name := (p.name.map fun v => v.toList.takeWhile fun c => c != 0).getD old.name
    holdRating := (p.holdRating.map fun v => v == 1).getD old.holdRating
    ratedKw := p.ratedKw.getD old.ratedKw, minStableKw := p.minStableKw.getD old.minStableKw
    priority := p.priority.getD old.priority, startLead := p.startLead.getD old.startLead
    minRun := p.minRun.getD old.minRun, minRest := p.minRest.getD old.minRest
    startTimeout := p.startTimeout.getD old.startTimeout, stopTimeout := p.stopTimeout.getD old.stopTimeout }

theorem updated_eq_given {p : TrainParams} (h : trainValuesOk p) (old : TrainCfg) : old.updated p = old.given p := by
  obtain ⟨hconf, hkind, -, hname, hhold, -⟩ := h
  have hcodes : (p.name.bind fun v => nameOf v.toList) = p.name.map fun v => v.toList.takeWhile fun c => c != 0 := by
    cases hp : p.name with
    | none => rfl
    | some v => exact nameOf_eq ((nameOf_isSome_iff _).2 ((nameCodes_vector_iff v).2 (hname v hp)))
  rw [TrainCfg.updated, codeOr_flagOf hconf, codeOr_flagOf hhold, codeOr_trainKindOf hkind, hcodes]
  rfl

/-! ### The other gates (R98, R99) -/

section Gates
variable (p : TrainParams) (i : Fin 8) (old new : TrainCfg) (w : TrainWork) (trains : Vector TrainCfg 8)

theorem addressTaken_iff : addressTaken i new trains = true ↔ new.configured = true ∧ ∃ j : Fin 8, j ≠ i ∧
    trains[j].configured = true ∧ trains[j].kind = new.kind ∧ trains[j].index = new.index := by
  simp only [addressTaken, Bool.and_eq_true, List.any_eq_true, List.mem_finRange, true_and, decide_eq_true_eq, and_assoc]

theorem identityLocked_iff : identityLocked w old new = true ↔ old.configured = true ∧ w.state ≠ .absent ∧
    w.state ≠ .withdrawn ∧ (new.configured ≠ old.configured ∨ new.kind ≠ old.kind ∨ new.index ≠ old.index) := by
  simp only [identityLocked, TrainCfg.placeDiffers, Bool.and_eq_true, Bool.or_eq_true, Bool.not_eq_true',
    Bool.or_eq_false_iff, decide_eq_true_eq, decide_eq_false_iff_not, and_assoc, ne_eq]

/-- A SET_TRAIN that would leave the settings `new` passes the first two gates (R99). -/
def trainSettingsGood : Prop :=
  trainValuesOk p ∧ new.minStableKw ≤ new.ratedKw ∧
    ¬(new.configured = true ∧ ∃ j : Fin 8, j ≠ i ∧ trains[j].configured = true ∧
      trains[j].kind = new.kind ∧ trains[j].index = new.index)

theorem trainSettings_guard_iff :
    (!trainInRange p || decide ((old.updated p).ratedKw < (old.updated p).minStableKw) ||
      addressTaken i (old.updated p) trains) = true ↔ ¬trainSettingsGood p i (old.given p) trains := by
  by_cases h : trainValuesOk p
  · rw [updated_eq_given h, trainSettingsGood, Bool.or_eq_true, Bool.or_eq_true, Bool.not_eq_true', ← Bool.not_eq_true,
      trainInRange_iff, addressTaken_iff, decide_eq_true_eq]
    simp only [h, not_true_eq_false, false_or, true_and]
    rw [not_and_or, not_le, not_not]
  · have hrange : trainInRange p = false := by rwa [← Bool.not_eq_true, trainInRange_iff]
    simp only [hrange, Bool.not_false, Bool.true_or, true_iff]
    exact fun hgood => h hgood.1

end Gates

section Act
variable {p : TrainParams} {i : Fin 8} {s : State}

theorem exec_setTrain_idle (h : s.port.state = .idle) (hsave : s.nv.saving = none) (p : TrainParams) :
    exec (.setTrain p) s = .next (setTrainAct p s.taken) :=
  congrArg Host.Outcome.next ((station_idle h _).trans (settingsWrite_idle (s := s.taken) hsave _))

theorem setTrainAct_outside (hn : p.entry = 0 ∨ 8 < p.entry) : setTrainAct p s = reply .badValue s := by
  rw [setTrainAct, entryOf_eq_none hn]

variable (hp : p.entry = i.val + 1)
include hp

theorem setTrainAct_refused (h : ¬trainSettingsGood p i (s.cfg.trains[i].given p) s.cfg.trains) :
    setTrainAct p s = reply .badValue s := by
  rw [setTrainAct, hp, entryOf_succ]
  exact if_pos ((trainSettings_guard_iff p i _ _).2 h)

theorem setTrainAct_locked (h : trainSettingsGood p i (s.cfg.trains[i].given p) s.cfg.trains)
    (hl : identityLocked s.trains[i] s.cfg.trains[i] (s.cfg.trains[i].given p) = true) :
    setTrainAct p s = reply .wrongState s := by
  rw [setTrainAct, hp, entryOf_succ]
  rw [← updated_eq_given h.1] at hl
  exact (if_neg fun hb => (trainSettings_guard_iff p i _ _).1 hb h).trans (if_pos hl)

theorem setTrainAct_taken (h : trainSettingsGood p i (s.cfg.trains[i].given p) s.cfg.trains)
    (hl : identityLocked s.trains[i] s.cfg.trains[i] (s.cfg.trains[i].given p) = false) :
    setTrainAct p s = reply .done (applyTrain i (s.cfg.trains[i].given p) s) := by
  rw [setTrainAct, hp, entryOf_succ]
  rw [← updated_eq_given h.1] at hl ⊢
  exact (if_neg fun hb => (trainSettings_guard_iff p i _ _).1 hb h).trans (if_neg (by rw [hl]; exact Bool.false_ne_true))

end Act

end Sys2Proof.Machine
end

section
/-! SUPPORT. What a SET_TRAIN that is taken does to the roster, the link, the dispatch unit and the engine (R100, R125). -/

namespace Sys2Proof.Machine

/-! ### The changes that R100 tells apart -/

section Changes
variable (old new : TrainCfg) (w : TrainWork)

/-- The entry is newly configured (R100). -/
def appears : Bool := !old.configured && new.configured

/-- The entry's configured is cleared (R100). -/
def cleared : Bool := old.configured && !new.configured

/-- A configured entry has a new kind or index (R100). -/
def placed : Bool := old.configured && new.configured && new.placeDiffers old

/-- A configured entry has a new name (R100). -/
def renamed : Bool := old.configured && new.configured && decide (new.name ≠ old.name)

/-- The entry asks for an IDENT (R100). -/
def asksIdent : Bool := appears old new || (decide (w.state = .absent) && (placed old new || renamed old new))

/-- The entry's IDENT is withdrawn (R100). -/
def withdrawsIdent : Bool := cleared old new || (decide (w.state = .absent) && placed old new)

theorem appears_iff : appears old new = true ↔ old.configured = false ∧ new.configured = true := by
  simp [appears]

theorem cleared_iff : cleared old new = true ↔ old.configured = true ∧ new.configured = false := by
  simp [cleared]

theorem placed_iff : placed old new = true ↔
    old.configured = true ∧ new.configured = true ∧ (new.kind ≠ old.kind ∨ new.index ≠ old.index) := by
  simp [placed, TrainCfg.placeDiffers, and_assoc]

theorem renamed_iff : renamed old new = true ↔ old.configured = true ∧ new.configured = true ∧ new.name ≠ old.name := by
  simp [renamed, and_assoc]

theorem asksIdent_iff : asksIdent old new w = true ↔
    appears old new = true ∨ (w.state = .absent ∧ (placed old new = true ∨ renamed old new = true)) := by
  simp [asksIdent]

theorem withdrawsIdent_iff : withdrawsIdent old new w = true ↔
    cleared old new = true ∨ (w.state = .absent ∧ placed old new = true) := by
  simp [withdrawsIdent]

/-- The working fields of the entry after a SET_TRAIN (R100). -/
def rebindWork : TrainWork :=
  if appears old new then { w with state := .absent, bindFault := none }
  else if cleared old new then
    { w with state := .absent, timer := none, outages := [], bindFault := none, report := none }
  else if w.state = .absent ∧ placed old new then { w with bindFault := none } else w

/-- The entry's ratings change (R100, R125). -/
abbrev Rerated : Prop := new.ratedKw ≠ old.ratedKw ∨ new.minStableKw ≠ old.minStableKw

end Changes

/-- An IDENT of the line is in flight to the entry. -/
def Link.identFlies (i : Fin 8) (l : Link) : Bool := l.slot.any fun x => decide (x.entry = some i ∧ x.origin = .ident)

/-- The line without the entry where its IDENT is withdrawn. -/
def Link.lineBut (i : Fin 8) (withdraws : Bool) (l : Link) : List (Fin 8) :=
  if withdraws then l.idents.filter fun j => j != i else l.idents

/-- The IDENT line and the transaction in flight after a SET_TRAIN of entry `i` (R100; log entry 20). -/
def Link.rebound (i : Fin 8) (asks withdraws disowns : Bool) (l : Link) : Link :=
  { l with
    idents := if asks ∧ ¬l.identFlies i ∧ i ∉ l.lineBut i withdraws then l.lineBut i withdraws ++ [i]
      else l.lineBut i withdraws
    slot := l.slot.map fun x => if x.entry = some i then { x with
      disowned := x.disowned || disowns
      identAfter := if asks ∧ l.identFlies i then true else if withdraws then false else x.identAfter } else x }

/-! ### The IDENT line and the transaction in flight -/

section Line
variable {i : Fin 8} (s : State)

/-- A SET_TRAIN's IDENT joins the line, or waits for the end of the one in flight (R100). -/
theorem putIdentAfter_eq :
    putIdentAfter i s = { s with link := s.link.rebound i true false false } := by
  simp only [putIdentAfter, putIdent_eq, identInFlight_eq]
  cases hs : s.link.slot with
  | none => simp [Link.rebound, Link.identFlies, Link.lineBut, hs]
  | some x =>
    obtain ⟨frame, speeds, e, o, disowned, identAfter⟩ := x
    by_cases he : e = some i <;> by_cases ho : o = .ident <;>
      simp [Link.rebound, Link.identFlies, Link.lineBut, hs, he, ho]

theorem rebound_none (l : Link) : l.rebound i false false false = l := by
  simp [Link.rebound, Link.lineBut]

theorem disownTxn_eq : disownTxn i s = { s with link := s.link.rebound i false false true } := by
  simp [disownTxn, Link.rebound, Link.lineBut]

theorem withdrawIdent_eq : withdrawIdent i s = { s with link := s.link.rebound i false true false } := by
  simp [withdrawIdent, Link.rebound, Link.lineBut]
  rfl

theorem identFlies_rebound (l : Link) (a w d : Bool) : (l.rebound i a w d).identFlies i = l.identFlies i := by
  unfold Link.identFlies Link.rebound
  cases l.slot with
  | none => rfl
  | some x => by_cases he : x.entry = some i <;> simp [he]

theorem lineBut_rebound (l : Link) (w d w' : Bool) : (l.rebound i false w d).lineBut i w' = l.lineBut i (w || w') := by
  cases w <;> cases w' <;> simp [Link.rebound, Link.lineBut]

/-- Two changes of the line and the transaction in flight are one where the first puts no IDENT in line. -/
theorem rebound_rebound (l : Link) (a w d w' d' : Bool) :
    (l.rebound i false w d).rebound i a w' d' = l.rebound i a (w || w') (d || d') := by
  have hslot : ∀ f g h : Txn → Txn, (∀ x, g (f x) = h x) → (l.slot.map f).map g = l.slot.map h := fun f g h hx => by
    simp [Function.comp_def, hx]
  rw [Link.rebound, identFlies_rebound, lineBut_rebound]
  unfold Link.rebound
  refine congrArg (fun sl => ({ l with slot := sl, idents := _ } : Link)) (hslot _ _ _ fun x => ?_)
  by_cases he : x.entry = some i
  · cases a <;> cases l.identFlies i <;> cases w <;> cases w' <;> simp [he, Bool.or_assoc]
  · simp [he]

/-- An IDENT that no other of the entry's precedes, in line or in flight, joins the line. -/
theorem rebound_joins {l : Link} (hi : i ∉ l.idents) (hx : ∀ x ∈ l.slot, x.entry ≠ some i) :
    l.rebound i true false false = { l with idents := l.idents ++ [i] } := by
  have hflies : l.identFlies i = false := by
    rw [Link.identFlies, Option.any_eq_false]
    exact fun x hxm => by simp [hx x hxm]
  simp [Link.rebound, Link.lineBut, hflies, hi]

end Line

/-! ### A change of configured, kind, index or name -/

section Rebind
variable {i : Fin 8} {old new : TrainCfg} {s : State}

/-- The end of an unbound entry's configuration drops its setpoint and its poll mark, and no cause of R30 follows (R100). -/
theorem moveTrain_unbound_absent (h : s.trains[i].state = .absent ∨ s.trains[i].state = .withdrawn) :
    moveTrain i .absent none s = { s with
      trains := s.trains.set i { s.trains[i] with state := .absent, timer := none }
      disp := { s.disp with setpoints := s.disp.setpoints.set i none }
      link := { s.link with polls := s.link.polls.set i none } } := by
  rw [Fin.getElem_fin] at h
  rcases h with h | h <;>
    simp [moveTrain, setTrain, noteLeftRunning, dropSetpoint, notePollMark, setVerifyIf, h, TrainState.keepsSetpoint,
      TrainState.bound, TrainState.group]

/-- What a SET_TRAIN makes of the roster, the setpoints and the link, but for its ratings (R100). -/
def rebindsTo (i : Fin 8) (old new : TrainCfg) (s : State) : State :=
  { s with
    trains := s.trains.set i (rebindWork old new s.trains[i])
    disp := { s.disp with setpoints := if cleared old new then s.disp.setpoints.set i none else s.disp.setpoints }
    link := Link.rebound i (asksIdent old new s.trains[i]) (withdrawsIdent old new s.trains[i])
      (cleared old new || placed old new)
      { s.link with polls := if cleared old new then s.link.polls.set i none else s.link.polls } }

theorem rebindEffects_unconfigured (ho : old.configured = false) (hn : new.configured = false) :
    rebindEffects i old new s = rebindsTo i old new s := by
  simp [rebindEffects, rebindsTo, rebindWork, rebound_none, asksIdent, withdrawsIdent, appears, cleared, placed, renamed,
    ho, hn]

theorem rebindEffects_appears (ho : old.configured = false) (hn : new.configured = true) :
    rebindEffects i old new s = rebindsTo i old new s := by
  simp [rebindEffects, rebindsTo, rebindWork, putIdentAfter_eq, setTrain, asksIdent, withdrawsIdent, appears, cleared,
    placed, ho, hn]

theorem rebindEffects_cleared (ho : old.configured = true) (hn : new.configured = false)
    (hst : s.trains[i].state = .absent ∨ s.trains[i].state = .withdrawn) :
    rebindEffects i old new s = rebindsTo i old new s := by
  simp [rebindEffects, rebindsTo, rebindWork, moveTrain_unbound_absent hst, withdrawIdent_eq, disownTxn_eq,
    rebound_rebound, setTrain, asksIdent, withdrawsIdent, appears, cleared, placed, renamed, ho, hn]

theorem rebindEffects_kept (ho : old.configured = true) (hn : new.configured = true) :
    rebindEffects i old new s = rebindsTo i old new s := by
  by_cases hab : s.trains[i.val].state = .absent <;> cases hp : new.placeDiffers old <;>
    by_cases hname : new.name = old.name <;>
    simp [rebindEffects, rebindsTo, rebindWork, putIdentAfter_eq, withdrawIdent_eq, disownTxn_eq, rebound_rebound,
      rebound_none, setTrain, asksIdent, withdrawsIdent, appears, cleared, placed, renamed, ho, hn, hab, hp, hname]

theorem rebindEffects_eq (hst : cleared old new = true → s.trains[i].state = .absent ∨ s.trains[i].state = .withdrawn) :
    rebindEffects i old new s = rebindsTo i old new s := by
  cases ho : old.configured <;> cases hn : new.configured
  · exact rebindEffects_unconfigured ho hn
  · exact rebindEffects_appears ho hn
  · exact rebindEffects_cleared ho hn (hst ((cleared_iff old new).2 ⟨ho, hn⟩))
  · exact rebindEffects_kept ho hn

end Rebind

/-! ### A change of rating or start lead -/

theorem ratingDiffers_iff (old new : TrainCfg) : new.ratingDiffers old = true ↔ Rerated old new := by
  simp [TrainCfg.ratingDiffers]

/-- A changed rating or start lead is a cause of R30, and a changed rating cuts a LOST entry's held value (R100, R125). -/
theorem ratingEffects_eq (i : Fin 8) (old new : TrainCfg) (s : State) :
    ratingEffects i old new s =
      setVerifyIf (decide (Rerated old new ∨ new.startLead ≠ old.startLead)) { s with disp := { s.disp with
        setpoints := if Rerated old new ∧ s.trains[i].state = .lost then
            s.disp.setpoints.set i (s.disp.setpoints[i].map fun q => { q with held := cutToRating s.cfg.trains[i] q.held })
          else s.disp.setpoints } } := by
  unfold ratingEffects
  by_cases hr : Rerated old new
  · have hdiff := (ratingDiffers_iff old new).2 hr
    rw [decide_eq_true (Or.inl hr)]
    simp only [hdiff, if_true, ratingChanged, setVerify_setVerifyIf]
    by_cases hl : s.trains[i].state = .lost
    · simp only [hr, true_and, setVerify_trains, hl, if_true]
      rfl
    · simp only [hr, true_and, setVerify_trains, hl, if_false]
      rfl
  · have hdiff : new.ratingDiffers old = false := by rwa [← Bool.not_eq_true, ratingDiffers_iff]
    simp only [hdiff, hr, false_and, false_or, if_false, Bool.false_eq_true]

end Sys2Proof.Machine
end

section
/-! SUPPORT. SET_TRAIN as a whole (R99, R100, R125). -/

namespace Sys2Proof.Machine

section Set
variable (i : Fin 8) (new : TrainCfg) (s : State)

/-- The setpoints after a SET_TRAIN that is taken (R100, R125). -/
def setpointsSet : Vector (Option Setpoint) 8 :=
  if cleared s.cfg.trains[i] new then s.disp.setpoints.set i none
  else if ¬appears s.cfg.trains[i] new ∧ Rerated s.cfg.trains[i] new ∧ s.trains[i].state = .lost then
    s.disp.setpoints.set i (s.disp.setpoints[i].map fun q => { q with held := cutToRating new q.held })
  else s.disp.setpoints

/-- What a SET_TRAIN that is taken leaves, before the dispatch unit recomputes (R100, R125). -/
def trainSet : State :=
  setVerifyIf (decide (Rerated s.cfg.trains[i] new ∨ new.startLead ≠ s.cfg.trains[i].startLead))
    { rebindsTo i s.cfg.trains[i] new (setTrainCfg i new s) with
      disp := { s.disp with setpoints := setpointsSet i new s } }

theorem rebindWork_state (old new : TrainCfg) (w : TrainWork) :
    (rebindWork old new w).state = if appears old new || cleared old new then .absent else w.state := by
  unfold rebindWork
  cases appears old new <;> cases cleared old new <;> simp
  split <;> rfl

theorem rebindsTo_work (old : TrainCfg) : (rebindsTo i old new s).trains[i] = rebindWork old new s.trains[i] :=
  Vector.getElem_set_self i.isLt

/-- The setpoints are dropped with the configuration, and else cut to a LOST entry's new ratings (R100, R125). -/
theorem setpointsSet_eq :
    (let u := rebindsTo i s.cfg.trains[i] new (setTrainCfg i new s)
     if Rerated s.cfg.trains[i] new ∧ u.trains[i].state = .lost then
       u.disp.setpoints.set i (u.disp.setpoints[i].map fun q => { q with held := cutToRating u.cfg.trains[i] q.held })
     else u.disp.setpoints) = setpointsSet i new s := by
  have hcfg : (rebindsTo i s.cfg.trains[i] new (setTrainCfg i new s)).cfg.trains[i] = new :=
    Vector.getElem_set_self i.isLt
  simp only [rebindsTo_work, rebindWork_state, hcfg]
  unfold setpointsSet
  unfold rebindsTo
  simp only [setTrainCfg_disp]
  cases cleared s.cfg.trains[i] new <;> cases appears s.cfg.trains[i] new <;> simp

variable {i new s}

theorem applyTrain_eq (hst : cleared s.cfg.trains[i] new = true →
      s.trains[i].state = .absent ∨ s.trains[i].state = .withdrawn) :
    applyTrain i new s =
      recomputeIf (decide (Rerated s.cfg.trains[i] new ∨
        (rebindWork s.cfg.trains[i] new s.trains[i]).state ≠ s.trains[i].state)) (trainSet i new s) := by
  have hset : ratingEffects i s.cfg.trains[i] new (rebindEffects i s.cfg.trains[i] new (setTrainCfg i new s)) =
      trainSet i new s := by
    rw [rebindEffects_eq (s := setTrainCfg i new s) hst, ratingEffects_eq, trainSet, ← setpointsSet_eq]
    rfl
  have htrains : (trainSet i new s).trains = s.trains.set i (rebindWork s.cfg.trains[i] new s.trains[i]) :=
    setVerifyIf_trains _ _
  have hothers : ∀ j, j ≠ i → (trainSet i new s).trains[j] = s.trains[j] := fun j hj => by
    have hne : i.val ≠ j.val := fun h => hj (Fin.ext h.symm)
    rw [htrains]
    exact Vector.getElem_set_ne _ _ hne
  have hmoved : trainStates (trainSet i new s) ≠ trainStates s ↔
      (rebindWork s.cfg.trains[i] new s.trains[i]).state ≠ s.trains[i].state := by
    rw [ne_eq, trainStates_eq_iff hothers, htrains]
    simp
  simp only [applyTrain, hset, Bool.decide_or, ← hmoved, ← ratingDiffers_iff, Bool.decide_eq_true]

/-- A SET_TRAIN that changes none of what R100 names writes the settings alone. -/
theorem applyTrain_plain (hconf : new.configured = s.cfg.trains[i].configured) (hkind : new.kind = s.cfg.trains[i].kind)
    (hindex : new.index = s.cfg.trains[i].index) (hname : new.name = s.cfg.trains[i].name)
    (hrated : new.ratedKw = s.cfg.trains[i].ratedKw) (hleast : new.minStableKw = s.cfg.trains[i].minStableKw)
    (hlead : new.startLead = s.cfg.trains[i].startLead) : applyTrain i new s = setTrainCfg i new s := by
  simp only [Fin.getElem_fin] at *
  have ha : appears s.cfg.trains[i.val] new = false := by simp [appears, hconf]
  have hc : cleared s.cfg.trains[i.val] new = false := by simp [cleared, hconf]
  have hp : placed s.cfg.trains[i.val] new = false := by simp [placed, TrainCfg.placeDiffers, hkind, hindex]
  have hr : renamed s.cfg.trains[i.val] new = false := by simp [renamed, hname]
  rw [applyTrain_eq (by simp [hc])]
  simp [trainSet, rebindsTo, rebindWork, setpointsSet, asksIdent, withdrawsIdent, rebound_none, setTrainCfg, setVerifyIf,
    recomputeIf, Rerated, ha, hc, hp, hr, hrated, hleast, hlead]

/-- A SET_TRAIN that newly configures an ABSENT entry clears its bind_fault and asks for an IDENT (R100). -/
theorem applyTrain_appears (ho : s.cfg.trains[i].configured = false) (hn : new.configured = true)
    (hst : s.trains[i].state = .absent) (hrated : new.ratedKw = s.cfg.trains[i].ratedKw)
    (hleast : new.minStableKw = s.cfg.trains[i].minStableKw) (hlead : new.startLead = s.cfg.trains[i].startLead)
    (hi : i ∉ s.link.idents) (hx : ∀ x ∈ s.link.slot, x.entry ≠ some i) :
    applyTrain i new s = { setTrainCfg i new s with
      trains := s.trains.set i { s.trains[i] with bindFault := none }
      link := { s.link with idents := s.link.idents ++ [i] } } := by
  simp only [Fin.getElem_fin] at *
  have ha : appears s.cfg.trains[i.val] new = true := by simp [appears, ho, hn]
  have hc : cleared s.cfg.trains[i.val] new = false := by simp [cleared, ho]
  have hp : placed s.cfg.trains[i.val] new = false := by simp [placed, ho]
  rw [applyTrain_eq (by simp [hc])]
  simp [trainSet, rebindsTo, rebindWork, setpointsSet, asksIdent, withdrawsIdent, rebound_joins hi hx, setTrainCfg,
    setVerifyIf, recomputeIf, ha, hc, hp, hst, hrated, hleast, hlead]

end Set

/-- Settles O30, gate by gate; a taken SET_TRAIN by what it leaves. -/
theorem setTrainGatesAndEffects : Obligations.SetTrainGatesAndEffects := by
  unfold Obligations.SetTrainGatesAndEffects
  intro p s h hsave
  refine ⟨fun hn => ?_, fun i hp => ?_⟩
  · rw [exec_setTrain_idle h hsave, setTrainAct_outside hn, reply_taken]
  · intro old w new nameOk inRange taken_ good locked written
    rw [exec_setTrain_idle h hsave]
    have hlocked : identityLocked w old new = true ↔ locked := identityLocked_iff old new w
    have htaken : good → ¬locked → setTrainAct p s.taken = reply .done (applyTrain i new s.taken) := fun hg hl =>
      setTrainAct_taken (s := s.taken) hp hg (Bool.eq_false_iff.2 (mt hlocked.1 hl))
    refine ⟨fun hg => ?_, fun hg hl => ?_, fun hg hl => ?_, fun hg hconf hkind hindex hname hrated hleast hlead => ?_,
      fun hg ho hn hst hrated hleast hlead hi hx => ?_⟩
    · rw [setTrainAct_refused (s := s.taken) hp hg, reply_taken]
    · rw [setTrainAct_locked (s := s.taken) hp hg (hlocked.2 hl), reply_taken]
    · intro appears_ cleared_ placed_ renamed_ absent rerated asks withdraws inFlight line brought w' taken
      have hst : cleared s.taken.cfg.trains[i] new = true →
          s.taken.trains[i].state = .absent ∨ s.taken.trains[i].state = .withdrawn := fun hc => by
        obtain ⟨ho, hn⟩ := (cleared_iff _ _).1 hc
        by_contra hst
        rw [not_or] at hst
        exact hl ⟨ho, hst.1, hst.2, .inl fun he => Bool.false_ne_true (hn.symm.trans (he.trans ho))⟩
      have hwork : rebindWork old new w = w' := by
        simp only [rebindWork, appears_iff, cleared_iff, placed_iff]
        rfl
      have htrain : trainSet i new s.taken = taken := by
        have hwork' : rebindWork s.cfg.trains[i] new (setTrainCfg i new s.taken).trains[i] = w' := hwork
        have hdisowns : (cleared s.cfg.trains[i] new || placed s.cfg.trains[i] new) = decide (cleared_ ∨ placed_) := by
          rw [Bool.eq_iff_iff, Bool.or_eq_true, decide_eq_true_iff, cleared_iff, placed_iff]
        simp only [trainSet, rebindsTo, setpointsSet, Link.rebound, Link.lineBut, Link.identFlies, hwork', hdisowns,
          asksIdent_iff, withdrawsIdent_iff, appears_iff, cleared_iff, placed_iff, renamed_iff, taken_cfg]
        rfl
      rw [htaken hg hl, applyTrain_eq (s := s.taken) hst, htrain]
      change _ = Host.Outcome.next (reply .done (recomputeIf (decide (rerated ∨ w'.state ≠ w.state)) taken))
      rw [← hwork]
      rfl
    · have hl : ¬locked := fun ⟨_, _, _, hd⟩ => hd.elim (· hconf) (·.elim (· hkind) (· hindex))
      rw [htaken hg hl, applyTrain_plain (s := s.taken) hconf hkind hindex hname hrated hleast hlead]
      rfl
    · have hl : ¬locked := fun ⟨hc, _⟩ => by rw [ho] at hc; cases hc
      rw [htaken hg hl, applyTrain_appears (s := s.taken) ho hn hst hrated hleast hlead hi hx]
      rfl

end Sys2Proof.Machine
end

section
/-! SUPPORT. Merit order and the merit allocation of an amount (R127): the order of the entries, the count of trains that covers
the amount, and the shares of the first trains. -/

namespace Sys2Proof.Machine

/-! ### Merit order (R126, R127) -/

section Order
variable (trains : Vector TrainCfg 8)

/-- An entry stands before another in merit order (R126, R127). -/
abbrev standsBefore (i j : Fin 8) : Prop :=
  trains[i].priority < trains[j].priority ∨ (trains[i].priority = trains[j].priority ∧ i < j)

theorem perm_meritOrder : (meritOrder trains).Perm (List.finRange 8) := List.perm_insertionSort _ _

theorem mem_meritOrder (i : Fin 8) : i ∈ meritOrder trains := (perm_meritOrder trains).mem_iff.2 (List.mem_finRange i)

theorem nodup_meritOrder : (meritOrder trains).Nodup := (perm_meritOrder trains).nodup_iff.2 (List.nodup_finRange 8)

theorem pairwise_meritOrder : (meritOrder trains).Pairwise (standsBefore trains) := by
  let r : Fin 8 → Fin 8 → Prop := fun i j =>
    trains[i].priority < trains[j].priority ∨ (trains[i].priority = trains[j].priority ∧ i ≤ j)
  have : Std.Total r := ⟨fun i j => by simp only [r]; omega⟩
  have : IsTrans (Fin 8) r := ⟨fun i j k hij hjk => by simp only [r] at *; omega⟩
  have hsorted : (meritOrder trains).Pairwise r := List.pairwise_insertionSort r _
  refine (hsorted.and (nodup_meritOrder trains)).imp fun {i j} ⟨hr, hne⟩ => ?_
  rcases hr with h | ⟨h, hle⟩
  · exact .inl h
  · exact .inr ⟨h, lt_of_le_of_ne hle hne⟩

end Order

/-! ### The count that covers an amount (R127 step 2, R133) -/

theorem coverCount_le_length (a : Nat) (l : List Nat) : coverCount a l ≤ l.length := by
  induction l generalizing a with
  | nil => exact Nat.le_refl 0
  | cons r l ih =>
    have := ih (a - r)
    unfold coverCount
    split <;> simp only [List.length_cons] <;> omega

/-- A place of the list lies within the count exactly where the ratings before it fall short of the amount. -/
theorem lt_coverCount_iff {a : Nat} (ha : 1 ≤ a) {l : List Nat} {p : Nat} (hp : p < l.length) :
    p < coverCount a l ↔ (l.take p).sum < a := by
  induction l generalizing a p with
  | nil => simp at hp
  | cons r l ih =>
    cases p with
    | zero =>
      unfold coverCount
      split <;> simp <;> omega
    | succ p =>
      simp only [List.length_cons, Nat.add_lt_add_iff_right] at hp
      simp only [coverCount, List.take_succ_cons, List.sum_cons]
      split
      · omega
      · rw [Nat.add_lt_add_iff_right, ih (by omega) hp]
        omega

/-- The count is the smallest whose ratings cover the amount, or the whole list. -/
theorem coverCount_eq {a c : Nat} (ha : 1 ≤ a) {l : List Nat} (hc : c ≤ l.length)
    (hbelow : ∀ k, k < c → (l.take k).sum < a) (hcover : c < l.length → a ≤ (l.take c).sum) : coverCount a l = c := by
  have hle := coverCount_le_length a l
  apply Nat.le_antisymm
  · by_contra hlt
    have hlen : c < l.length := by omega
    have := (lt_coverCount_iff ha hlen).1 (by omega)
    exact absurd (hcover hlen) (by omega)
  · cases c with
    | zero => exact Nat.zero_le _
    | succ c => exact (lt_coverCount_iff ha hc).2 (hbelow c (Nat.lt_succ_self c))

/-! ### Spreading a remainder (R127 step 3, R128 step 4) -/

theorem length_spread (rest : Nat) (l : List (Nat × Nat)) : (spread rest l).length = l.length := by
  induction l generalizing rest with
  | nil => rfl
  | cons q l ih => simp [spread, ih]

/-- Each place takes what the places before it leave of the remainder, up to its ceiling. -/
theorem spread_getElem? (rest : Nat) (l : List (Nat × Nat)) (j : Nat) :
    (spread rest l)[j]? = l[j]?.map fun q => q.1 + min (rest - ((l.take j).map fun p => p.2 - p.1).sum) (q.2 - q.1) := by
  induction l generalizing rest j with
  | nil => rfl
  | cons q l ih =>
    cases j with
    | zero => simp [spread]
    | succ j =>
      simp only [spread, List.getElem?_cons_succ, ih, List.take_succ_cons, List.map_cons, List.sum_cons]
      refine congrArg (fun n => l[j]?.map fun p => p.1 + min n (p.2 - p.1)) ?_
      omega

theorem sum_spread_le (rest : Nat) (l : List (Nat × Nat)) : (spread rest l).sum ≤ (l.map Prod.fst).sum + rest := by
  induction l generalizing rest with
  | nil => simp [spread]
  | cons q l ih =>
    have := ih (rest - min rest (q.2 - q.1))
    simp only [spread, List.sum_cons, List.map_cons]
    omega

/-- A value that stands between a floor and its ceiling still does after the spread. -/
theorem spread_le {rest v j : Nat} {l : List (Nat × Nat)} {q : Nat × Nat} (hv : (spread rest l)[j]? = some v)
    (hq : l[j]? = some q) : q.1 ≤ v ∧ (q.1 ≤ q.2 → v ≤ q.2) := by
  rw [spread_getElem?, hq, Option.map_some, Option.some.injEq] at hv
  omega

/-! ### The shares of a number of trains (R127 step 3) -/

/-- Floored parts of an amount by weight sum to no more than the amount's part by the summed weight. -/
theorem sum_map_div_le (a total : Nat) (l : List Nat) : (l.map fun r => a * r / total).sum ≤ a * l.sum / total := by
  induction l with
  | nil => simp
  | cons r l ih =>
    simp only [List.map_cons, List.sum_cons, Nat.mul_add]
    exact (Nat.add_le_add_left ih _).trans (Nat.div_add_div_le_add_div ..)

section Floor
variable (a : Nat) (rated : List Nat)

theorem length_floorShares : (floorShares a rated).length = rated.length := by
  simp [floorShares, length_spread]

theorem sum_floorShares_le : (floorShares a rated).sum ≤ a := by
  have hbase : ((rated.map fun r => min a rated.sum * r / rated.sum)).sum ≤ min a rated.sum := by
    refine (sum_map_div_le _ _ _).trans ?_
    exact Nat.div_le_of_le_mul (Nat.mul_comm _ _).le
  have hzip : ((rated.map fun r => min a rated.sum * r / rated.sum).zip rated).map Prod.fst =
      rated.map fun r => min a rated.sum * r / rated.sum := List.map_fst_zip (by simp)
  have hspread := sum_spread_le (min a rated.sum - (rated.map fun r => min a rated.sum * r / rated.sum).sum)
    ((rated.map fun r => min a rated.sum * r / rated.sum).zip rated)
  rw [hzip] at hspread
  unfold floorShares
  simp only
  omega

variable {a rated}

/-- No share exceeds its train's rated power. -/
theorem floorShares_le {j v r : Nat} (hv : (floorShares a rated)[j]? = some v) (hr : rated[j]? = some r) : v ≤ r := by
  have hq : ((rated.map fun r => min a rated.sum * r / rated.sum).zip rated)[j]? =
      some (min a rated.sum * r / rated.sum, r) := by
    simp [List.getElem?_zip_eq_some, hr]
  refine (spread_le hv hq).2 (Nat.div_le_of_le_mul ?_)
  exact Nat.mul_le_mul_right r (Nat.min_le_right ..)

end Floor

/-! ### The count goes down (R127 step 4) -/

/-- Some share of the first `m` trains falls below its least stable power. -/
def shareFalls (a : Nat) (trains : List (Nat × Nat)) (m : Nat) : Bool :=
  ((floorShares a ((trains.take m).map Prod.fst)).zip ((trains.take m).map Prod.snd)).any fun q => decide (q.1 < q.2)

/-- From a count the allocation goes down to the greatest one at which no share falls, or to a lone train. -/
theorem sharesFrom_eq (a room : Nat) (trains : List (Nat × Nat)) (c : Nat) :
    ∃ k, k ≤ c + 1 ∧ 1 ≤ k ∧ (∀ m, k < m → m ≤ c + 1 → shareFalls a trains m = true) ∧
      (2 ≤ k → shareFalls a trains k = false ∧
        sharesFrom a room trains (c + 1) = floorShares a ((trains.take k).map Prod.fst)) ∧
      (k = 1 → sharesFrom a room trains (c + 1) = sharesFrom a room trains 1) := by
  induction c with
  | zero => exact ⟨1, Nat.le_refl 1, Nat.le_refl 1, fun m _ _ => by omega, fun h => by omega, fun _ => rfl⟩
  | succ c ih =>
    by_cases hfalls : shareFalls a trains (c + 2) = true
    · obtain ⟨k, hkc, hk, hdown, hmany, hone⟩ := ih
      have hstep : sharesFrom a room trains (c + 2) = sharesFrom a room trains (c + 1) := if_pos hfalls
      refine ⟨k, by omega, hk, fun m hkm hm => ?_, ?_, ?_⟩
      · rcases Nat.lt_or_ge m (c + 2) with hlt | hge
        · exact hdown m hkm (by omega)
        · exact (Nat.le_antisymm hm hge) ▸ hfalls
      · rw [hstep]
        exact hmany
      · rw [hstep]
        exact hone
    · refine ⟨c + 2, Nat.le_refl _, by omega, fun m h1 h2 => by omega, fun _ => ⟨?_, ?_⟩, fun h => by omega⟩
      · exact Bool.eq_false_iff.2 hfalls
      · exact if_neg hfalls

theorem sharesFrom_one (a room : Nat) (q : Nat × Nat) (rest : List (Nat × Nat)) :
    sharesFrom a room (q :: rest) 1 = [loneShare a room q.1 q.2] := rfl

/-- No share falls exactly where each stands at its train's least stable power or above. -/
theorem shareFalls_eq_false_iff (a : Nat) (trains : List (Nat × Nat)) (m : Nat) :
    shareFalls a trains m = false ↔ ∀ (j v : Nat) (q : Nat × Nat),
      (floorShares a ((trains.take m).map Prod.fst))[j]? = some v → (trains.take m)[j]? = some q → q.2 ≤ v := by
  rw [shareFalls, List.any_eq_false]
  constructor
  · intro h j v q hv hq
    have hmem : (v, q.2) ∈ (floorShares a ((trains.take m).map Prod.fst)).zip ((trains.take m).map Prod.snd) :=
      List.mem_of_getElem? (i := j) (List.getElem?_zip_eq_some.2 ⟨hv, by rw [List.getElem?_map, hq]; rfl⟩)
    simpa using h _ hmem
  · intro h x hx
    obtain ⟨j, hj⟩ := List.mem_iff_getElem?.1 hx
    obtain ⟨hv, hl⟩ := List.getElem?_zip_eq_some.1 hj
    obtain ⟨q, hq, hl⟩ := Option.map_eq_some_iff.1 ((List.getElem?_map ..).symm.trans hl)
    simpa [← hl] using h j x.1 q hv hq

/-! ### The merit allocation (R127) -/

theorem meritShares_zero (room : Nat) (trains : List (Nat × Nat)) : meritShares 0 room trains = [] := if_pos rfl

theorem meritShares_nil (a room : Nat) : meritShares a room [] = [] := by
  unfold meritShares
  split <;> rfl

/-- The shares are those of a lone train, or of two trains or more of which none falls below its least stable power. -/
theorem meritShares_cases (a room : Nat) (trains : List (Nat × Nat)) :
    meritShares a room trains = [] ∨
      (∃ q rest, trains = q :: rest ∧ meritShares a room trains = [loneShare a room q.1 q.2]) ∨
      ∃ k, shareFalls a trains k = false ∧
        meritShares a room trains = floorShares a ((trains.take k).map Prod.fst) := by
  by_cases ha : a = 0
  · exact .inl (if_pos ha)
  cases trains with
  | nil => exact .inl (meritShares_nil a room)
  | cons q rest =>
    obtain ⟨c, hc⟩ : ∃ c, coverCount a ((q :: rest).map Prod.fst) = c + 1 := by
      refine Nat.exists_eq_succ_of_ne_zero (Nat.ne_of_gt ?_)
      exact (lt_coverCount_iff (by omega) (by simp)).2 (by simp; omega)
    have hshares : meritShares a room (q :: rest) = sharesFrom a room (q :: rest) (c + 1) := by
      rw [meritShares, if_neg ha, hc]
    obtain ⟨k, -, hk, -, hmany, hone⟩ := sharesFrom_eq a room (q :: rest) c
    rw [hshares]
    rcases Nat.lt_or_ge k 2 with hlt | hge
    · exact .inr (.inl ⟨q, rest, rfl, hone (by omega)⟩)
    · exact .inr (.inr ⟨k, hmany hge⟩)

theorem loneShare_le (a room rated least : Nat) : loneShare a room rated least ≤ max a room := by
  unfold loneShare
  simp only
  split_ifs <;> omega

theorem loneShare_inBand {a room rated least : Nat} (h : least ≤ rated) :
    loneShare a room rated least = 0 ∨ (least ≤ loneShare a room rated least ∧ loneShare a room rated least ≤ rated) := by
  unfold loneShare
  simp only
  split_ifs <;> omega

theorem length_meritShares_le (a room : Nat) (trains : List (Nat × Nat)) :
    (meritShares a room trains).length ≤ trains.length := by
  rcases meritShares_cases a room trains with h | ⟨q, rest, rfl, h⟩ | ⟨k, -, h⟩ <;> rw [h]
  · exact Nat.zero_le _
  · simp
  · simp [length_floorShares]

theorem sum_meritShares_le (a room : Nat) (trains : List (Nat × Nat)) : (meritShares a room trains).sum ≤ max a room := by
  rcases meritShares_cases a room trains with h | ⟨q, rest, -, h⟩ | ⟨k, -, h⟩ <;> rw [h]
  · exact Nat.zero_le _
  · simpa using loneShare_le a room q.1 q.2
  · exact (sum_floorShares_le _ _).trans (Nat.le_max_left ..)

/-- Only a lone train is ever lifted above the amount. -/
theorem sum_meritShares_le_of_two {a room : Nat} {trains : List (Nat × Nat)} (h2 : 2 ≤ (meritShares a room trains).length) :
    (meritShares a room trains).sum ≤ a := by
  rcases meritShares_cases a room trains with h | ⟨q, rest, -, h⟩ | ⟨k, -, h⟩ <;> rw [h] at h2 ⊢
  · exact Nat.zero_le _
  · simp at h2
  · exact sum_floorShares_le _ _

/-- Every share is 0 or lies in its train's band. -/
theorem meritShares_inBand {a room : Nat} {trains : List (Nat × Nat)} (hband : ∀ q ∈ trains, q.2 ≤ q.1) {j v : Nat}
    {q : Nat × Nat} (hv : (meritShares a room trains)[j]? = some v) (hq : trains[j]? = some q) :
    v = 0 ∨ (q.2 ≤ v ∧ v ≤ q.1) := by
  rcases meritShares_cases a room trains with h | ⟨p, rest, rfl, h⟩ | ⟨k, hfalls, h⟩ <;> rw [h] at hv
  · simp at hv
  · obtain ⟨rfl, rfl⟩ : j = 0 ∧ v = loneShare a room p.1 p.2 := by cases j <;> simp_all
    obtain rfl : p = q := by simpa using hq
    exact loneShare_inBand (hband p List.mem_cons_self)
  · have hj : j < k := by
      have hlen := (List.getElem?_eq_some_iff.1 hv).1
      simp only [length_floorShares, List.length_map, List.length_take] at hlen
      omega
    have hq' : (trains.take k)[j]? = some q := by rw [List.getElem?_take_of_lt hj, hq]
    refine .inr ⟨(shareFalls_eq_false_iff a trains k).1 hfalls j v q hv hq', floorShares_le hv ?_⟩
    rw [List.getElem?_map, hq', Option.map_some]

/-- A first train that can carry the amount alone takes it whole. -/
theorem meritShares_single {a room : Nat} {q : Nat × Nat} (rest : List (Nat × Nat)) (ha : 1 ≤ a) (hleast : q.2 ≤ a)
    (hrated : a ≤ q.1) : meritShares a room (q :: rest) = [a] := by
  have hcount : coverCount a ((q :: rest).map Prod.fst) = 1 := if_pos hrated
  rw [meritShares, if_neg (by omega), hcount, sharesFrom_one, loneShare]
  simp only [Nat.min_eq_left hrated, if_pos hleast]

end Sys2Proof.Machine
end

section
/-! SUPPORT. The shares of the first `k` trains in closed form (R127 steps 3 and 4), in the terms of MeritSharesInBand. -/

namespace Sys2Proof.Machine

/-- The terms over the first `k` places of a list are those of its first part. -/
theorem map_range_getD {α β : Type} (f : α → β) (l : List α) (d : α) {k : Nat} (hk : k ≤ l.length) :
    ((List.range k).map fun j => f (l.getD j d)) = (l.take k).map f := by
  apply List.ext_getElem
  · simp [hk]
  · intro j h1 h2
    have hj : j < l.length := by simp at h1; omega
    simp [List.getD_eq_getElem?_getD, List.getElem?_eq_getElem hj]

section Shares
variable (amount : Nat) (trains : List (Nat × Nat))

/-- The rating of the train at a place. -/
def ratedAt (j : Nat) : Nat := (trains.getD j (0, 0)).1

/-- The summed ratings of the first `k` trains. -/
def totalTo (k : Nat) : Nat := ((List.range k).map (ratedAt trains)).sum

/-- The floored part of the train at a place, among the first `k` (R127 step 3). -/
def baseAt (k j : Nat) : Nat := min amount (totalTo trains k) * ratedAt trains j / totalTo trains k

/-- What the floored parts leave (R127 step 3). -/
def remainderAt (k : Nat) : Nat := min amount (totalTo trains k) - ((List.range k).map (baseAt amount trains k)).sum

/-- The share of the train at a place, among the first `k` (R127 step 3). -/
def shareAt (k j : Nat) : Nat :=
  baseAt amount trains k j +
    min (remainderAt amount trains k - ((List.range j).map fun l => ratedAt trains l - baseAt amount trains k l).sum)
      (ratedAt trains j - baseAt amount trains k j)

variable {trains} {k : Nat} (hk : k ≤ trains.length)
include hk

theorem sum_take_rated : ((trains.take k).map Prod.fst).sum = totalTo trains k :=
  congrArg List.sum (map_range_getD Prod.fst trains (0, 0) hk).symm

theorem floorShares_getElem? {j : Nat} (hj : j < k) :
    (floorShares amount ((trains.take k).map Prod.fst))[j]? = some (shareAt amount trains k j) := by
  set rated := (trains.take k).map Prod.fst with hrated
  have hsum : rated.sum = totalTo trains k := sum_take_rated hk
  have hlist : rated = (List.range k).map (ratedAt trains) := (map_range_getD Prod.fst trains (0, 0) hk).symm
  have hbase : (rated.map fun r => min amount rated.sum * r / rated.sum) = (List.range k).map (baseAt amount trains k) := by
    rw [hsum, hlist, List.map_map]
    rfl
  have hzip : (rated.map fun r => min amount rated.sum * r / rated.sum).zip rated =
      (List.range k).map fun l => (baseAt amount trains k l, ratedAt trains l) := by
    rw [hbase, hlist, List.zip_map']
  have hshares : floorShares amount rated =
      spread (remainderAt amount trains k) ((List.range k).map fun l => (baseAt amount trains k l, ratedAt trains l)) := by
    rw [← hzip, remainderAt, ← hsum, ← hbase]
    rfl
  rw [hshares, spread_getElem?, List.getElem?_map, List.getElem?_range hj, ← List.map_take, List.take_range,
    Nat.min_eq_left hj.le, List.map_map]
  rfl

/-- The first `k` shares fit exactly where none falls. -/
theorem shareFalls_eq_false_iff_fits :
    shareFalls amount trains k = false ↔ ∀ j, j < k → (trains.getD j (0, 0)).2 ≤ shareAt amount trains k j := by
  rw [shareFalls_eq_false_iff]
  constructor
  · intro h j hj
    have hlt : j < trains.length := by omega
    have hq : (trains.take k)[j]? = some (trains.getD j (0, 0)) := by
      rw [List.getElem?_take_of_lt hj, List.getD_eq_getElem?_getD, List.getElem?_eq_getElem hlt]
      rfl
    exact h j _ _ (floorShares_getElem? amount hk hj) hq
  · intro h j v q hv hq
    have hj : j < k := by
      have := (List.getElem?_eq_some_iff.1 hq).1
      simp only [List.length_take] at this
      omega
    rw [floorShares_getElem? amount hk hj, Option.some.injEq] at hv
    rw [List.getElem?_take_of_lt hj] at hq
    have := h j hj
    rw [List.getD_eq_getElem?_getD, hq, hv] at this
    exact this

end Shares

/-- The count, the steps down and the shares of R127, for an amount above 0 and a list that is not empty. -/
theorem meritShares_closed (amount room : Nat) (trains : List (Nat × Nat)) {c : Nat} (ha : 1 ≤ amount) (hc : 1 ≤ c)
    (hlen : c ≤ trains.length) (hbelow : ∀ k, k < c → totalTo trains k < amount)
    (hcover : c < trains.length → amount ≤ totalTo trains c) :
    ∃ k, 1 ≤ k ∧ k ≤ c ∧ (meritShares amount room trains).length = k ∧
      (∀ m, k < m → m ≤ c → ¬∀ j, j < m → (trains.getD j (0, 0)).2 ≤ shareAt amount trains m j) ∧
      (2 ≤ k → (∀ j, j < k → (trains.getD j (0, 0)).2 ≤ shareAt amount trains k j) ∧
        ∀ j, j < k → (meritShares amount room trains)[j]? = some (shareAt amount trains k j)) ∧
      (k = 1 → meritShares amount room trains =
        [loneShare amount room (ratedAt trains 0) (trains.getD 0 (0, 0)).2]) := by
  have hcount : coverCount amount (trains.map Prod.fst) = c := by
    refine coverCount_eq ha (by simpa using hlen) (fun k hk => ?_) fun hlt => ?_
    · rw [← List.map_take, sum_take_rated (by omega)]
      exact hbelow k hk
    · rw [← List.map_take, sum_take_rated hlen]
      exact hcover (by simpa using hlt)
  obtain ⟨n, rfl⟩ := Nat.exists_eq_succ_of_ne_zero (Nat.ne_of_gt hc)
  have hshares : meritShares amount room trains = sharesFrom amount room trains (n + 1) := by
    rw [meritShares, if_neg (by omega), hcount]
  obtain ⟨k, hkn, hk, hdown, hmany, hone⟩ := sharesFrom_eq amount room trains n
  rw [hshares]
  refine ⟨k, hk, hkn, ?_, fun m hkm hm hfits => ?_, fun h2 => ?_, fun h1 => ?_⟩
  · rcases Nat.lt_or_ge k 2 with hlt | hge
    · obtain rfl : k = 1 := by omega
      obtain ⟨q, rest, rfl⟩ := List.exists_cons_of_length_pos (l := trains) (by omega)
      rw [hone rfl, sharesFrom_one]
      rfl
    · rw [(hmany hge).2, length_floorShares]
      simp only [List.length_map, List.length_take]
      omega
  · have := (shareFalls_eq_false_iff_fits amount (k := m) (by omega)).2 hfits
    rw [hdown m hkm hm] at this
    exact Bool.noConfusion this
  · obtain ⟨hfalls, heq⟩ := hmany h2
    refine ⟨(shareFalls_eq_false_iff_fits amount (by omega)).1 hfalls, fun j hj => ?_⟩
    rw [heq]
    exact floorShares_getElem? amount (by omega) hj
  · obtain ⟨q, rest, rfl⟩ := List.exists_cons_of_length_pos (l := trains) (by omega)
    rw [hone h1, sharesFrom_one]
    rfl

end Sys2Proof.Machine
end

section
/-! SUPPORT. What a pass allocates to the trains of a kind (R128): the entries that keep their protection, the shares of the others,
and the bounds of both. -/

namespace Sys2Proof.Machine

/-! ### Protection (R128 steps 2 and 3) -/

/-- The entries that keep their protection are the longest beginning of the list whose weights fit the room. -/
theorem trimForced_reverse (w : Fin 8 → Nat) (room : Nat) (l : List (Fin 8)) :
    ∃ k, k ≤ l.length ∧ (trimForced w room l.reverse).reverse = l.take k ∧ ((l.take k).map w).sum ≤ room ∧
      (k < l.length → room < ((l.take (k + 1)).map w).sum) := by
  induction l using List.reverseRecOn with
  | nil => exact ⟨0, Nat.le_refl 0, rfl, Nat.zero_le _, fun h => absurd h (Nat.lt_irrefl 0)⟩
  | append_singleton l a ih =>
    have hsum : ((a :: l.reverse).map w).sum = ((l ++ [a]).map w).sum := by simp [Nat.add_comm]
    rw [List.reverse_append, List.reverse_singleton, List.singleton_append, trimForced, hsum]
    split
    · rename_i hfits
      refine ⟨(l ++ [a]).length, Nat.le_refl _, ?_, ?_, fun h => absurd h (Nat.lt_irrefl _)⟩
      · simp
      · rw [List.take_length]
        exact hfits
    · rename_i hfits
      obtain ⟨k, hk, heq, hsum, hnext⟩ := ih
      have htake : ∀ m, m ≤ l.length → (l ++ [a]).take m = l.take m := fun m hm => List.take_append_of_le_length hm
      refine ⟨k, by simp; omega, by rw [htake k hk, heq], by rwa [htake k hk], fun _ => ?_⟩
      rcases Nat.lt_or_ge k l.length with hlt | hge
      · rw [htake (k + 1) hlt]
        exact hnext hlt
      · have hall : (l ++ [a]).take (k + 1) = l ++ [a] := List.take_of_length_le (by simp; omega)
        rw [hall]
        omega

/-- A longer beginning of a list weighs no less. -/
theorem sum_take_mono (w : Fin 8 → Nat) (l : List (Fin 8)) {m n : Nat} (h : m ≤ n) :
    ((l.take m).map w).sum ≤ ((l.take n).map w).sum := by
  have hsub : (l.take m).Sublist (l.take n) := by
    rw [← Nat.min_eq_left h, ← List.take_take]
    exact List.take_sublist ..
  exact (hsub.map w).sum_le_sum fun _ _ => Nat.zero_le _

/-- Only one beginning of a list is the longest that fits. -/
theorem take_unique {w : Fin 8 → Nat} {room : Nat} {l : List (Fin 8)} {m n : Nat} (hm : m ≤ l.length) (hn : n ≤ l.length)
    (hmfit : ((l.take m).map w).sum ≤ room) (hnfit : ((l.take n).map w).sum ≤ room)
    (hmnext : m < l.length → room < ((l.take (m + 1)).map w).sum)
    (hnnext : n < l.length → room < ((l.take (n + 1)).map w).sum) : m = n := by
  rcases Nat.lt_trichotomy m n with h | h | h
  · have : ((l.take (m + 1)).map w).sum ≤ ((l.take n).map w).sum := sum_take_mono w l h
    have := hmnext (by omega)
    omega
  · exact h
  · have : ((l.take (n + 1)).map w).sum ≤ ((l.take m).map w).sum := sum_take_mono w l h
    have := hnnext (by omega)
    omega

section Kind
variable (s : State) (tc : Int) (kind : TrainKind)

/-- The entries of a kind that are protected, before any gives way for want of room (R128 step 2). -/
def guardedOf : List (Fin 8) :=
  (meritOrder s.cfg.trains).filter fun i => protectedAt s tc i && decide (s.cfg.trains[i].kind = kind)

/-- The entries in RUNNING of a kind that a pass shares the amount among (R128 step 4). -/
def unprotectedOf : List (Fin 8) :=
  (meritOrder s.cfg.trains).filter fun i => isIn s kind .running i && decide (i ∉ protectedOf s tc kind)

theorem protectedOf_eq_take : ∃ k, k ≤ (guardedOf s tc kind).length ∧ protectedOf s tc kind = (guardedOf s tc kind).take k ∧
    forcedLoad s (protectedOf s tc kind) ≤ gridLimit s.cfg.site kind - lostHeld s kind ∧
    (k < (guardedOf s tc kind).length →
      gridLimit s.cfg.site kind - lostHeld s kind < forcedLoad s ((guardedOf s tc kind).take (k + 1))) := by
  obtain ⟨k, hk, heq, hfits, hnext⟩ := trimForced_reverse (fun i => s.cfg.trains[i].minStableKw)
    (gridLimit s.cfg.site kind - lostHeld s kind) (guardedOf s tc kind)
  have hprot : protectedOf s tc kind = (guardedOf s tc kind).take k := heq
  refine ⟨k, hk, hprot, ?_, hnext⟩
  rw [hprot]
  exact hfits

variable {s tc kind}

theorem protectedAt_iff {i : Fin 8} : protectedAt s tc i = true ↔ s.trains[i].state = .running ∧
    s.trains[i].runCount < s.cfg.trains[i].minRun ∧ exposedAt s tc s.cfg.trains[i].kind = false := by
  simp only [protectedAt, Bool.and_eq_true, decide_eq_true_iff, Bool.not_eq_true', and_assoc]

theorem protectedAt_of_mem {i : Fin 8} (h : i ∈ protectedOf s tc kind) :
    protectedAt s tc i = true ∧ s.cfg.trains[i].kind = kind := by
  obtain ⟨k, -, heq, -⟩ := protectedOf_eq_take s tc kind
  rw [heq] at h
  have := (List.mem_filter.1 (List.mem_of_mem_take h)).2
  simpa only [Bool.and_eq_true, decide_eq_true_iff] using this

theorem nodup_protectedOf : (protectedOf s tc kind).Nodup := by
  obtain ⟨k, -, heq, -⟩ := protectedOf_eq_take s tc kind
  rw [heq]
  exact ((nodup_meritOrder _).filter _).sublist (List.take_sublist ..)

theorem mem_unprotectedOf {i : Fin 8} : i ∈ unprotectedOf s tc kind ↔
    (s.cfg.trains[i].kind = kind ∧ s.trains[i].state = .running) ∧ i ∉ protectedOf s tc kind := by
  simp only [unprotectedOf, List.mem_filter, mem_meritOrder, true_and, Bool.and_eq_true, isIn_iff, decide_eq_true_iff]

/-- The two lists hold every entry in RUNNING of the kind. -/
theorem mem_unprotected_or_protected {i : Fin 8} : i ∈ unprotectedOf s tc kind ++ protectedOf s tc kind ↔
    s.cfg.trains[i].kind = kind ∧ s.trains[i].state = .running := by
  rw [List.mem_append, mem_unprotectedOf]
  constructor
  · rintro (⟨h, -⟩ | h)
    · exact h
    · obtain ⟨hp, hkind⟩ := protectedAt_of_mem h
      exact ⟨hkind, (protectedAt_iff.1 hp).1⟩
  · intro h
    by_cases hp : i ∈ protectedOf s tc kind
    · exact .inr hp
    · exact .inl ⟨h, hp⟩

theorem nodup_unprotected_protected : (unprotectedOf s tc kind ++ protectedOf s tc kind).Nodup :=
  ((nodup_meritOrder _).filter _).append nodup_protectedOf fun _ h hp => (mem_unprotectedOf.1 h).2 hp

/-! ### The allocation (R128 steps 3 to 5) -/

variable (s tc kind)

/-- The amount that is shared among the unprotected entries (R128 step 4). -/
def amountFor : Nat := tc.natAbs - lostHeld s kind - forcedLoad s (protectedOf s tc kind)

/-- The room beside the LOST values and the forced load (R128 step 4). -/
def roomFor : Nat := gridLimit s.cfg.site kind - lostHeld s kind - forcedLoad s (protectedOf s tc kind)

/-- The rating and the least stable power of an entry. -/
def bandOf (i : Fin 8) : Nat × Nat := (s.cfg.trains[i].ratedKw, s.cfg.trains[i].minStableKw)

/-- The shares of the unprotected entries: none where the target is not of the kind (R128 step 4). -/
def sharesFor : List Nat :=
  if kindOf tc = some kind then
    meritShares (amountFor s tc kind) (roomFor s tc kind) ((unprotectedOf s tc kind).map (bandOf s))
  else []

/-- What the shares leave for the protected entries (R128 step 4). -/
def restFor : Nat := if kindOf tc = some kind then amountFor s tc kind - (sharesFor s tc kind).sum else 0

/-- The values of the unprotected entries. -/
def unprotectedValues : List Nat := sharesFor s tc kind ++ List.replicate (unprotectedOf s tc kind).length 0

/-- The values of the protected entries. -/
def protectedValues : List Nat := spread (restFor s tc kind) ((protectedOf s tc kind).map fun i => (bandOf s i).swap)

theorem spread_zero (l : List (Nat × Nat)) : spread 0 l = l.map Prod.fst := by
  induction l with
  | nil => rfl
  | cons q l ih => simp [spread, ih]

theorem map_pair_eq_zip (f : Fin 8 → Nat) (l : List (Fin 8)) : (l.map fun i => (i, f i)) = l.zip (l.map f) := by
  have h := List.zip_map' (f := id) (g := f) (l := l)
  rw [List.map_id] at h
  exact h.symm

theorem allocateKind_eq : allocateKind s tc kind =
    (unprotectedOf s tc kind).zip (unprotectedValues s tc kind) ++ (protectedOf s tc kind).zip (protectedValues s tc kind) := by
  by_cases h : kindOf tc = some kind
  · simp only [allocateKind, if_pos h, unprotectedValues, protectedValues, restFor, sharesFor]
    rfl
  · have hzero : (unprotectedOf s tc kind).map (fun i => (i, 0)) =
        (unprotectedOf s tc kind).zip (List.replicate (unprotectedOf s tc kind).length 0) := by
      rw [← List.map_const']
      exact map_pair_eq_zip (fun _ => 0) _
    have hleast : (protectedOf s tc kind).map (fun i => (i, s.cfg.trains[i].minStableKw)) =
        (protectedOf s tc kind).zip ((protectedOf s tc kind).map fun i => s.cfg.trains[i].minStableKw) :=
      map_pair_eq_zip _ _
    have hvalues : protectedValues s tc kind = (protectedOf s tc kind).map fun i => s.cfg.trains[i].minStableKw := by
      rw [protectedValues, restFor, if_neg h, spread_zero, List.map_map]
      rfl
    rw [allocateKind, if_neg h, unprotectedValues, sharesFor, if_neg h, List.nil_append, hvalues, ← hzero, ← hleast]
    rfl

theorem length_unprotectedOf_le : (unprotectedOf s tc kind).length ≤ (unprotectedValues s tc kind).length := by
  simp [unprotectedValues]

theorem length_protectedValues : (protectedValues s tc kind).length = (protectedOf s tc kind).length := by
  simp [protectedValues, length_spread]

theorem map_fst_allocateKind :
    (allocateKind s tc kind).map Prod.fst = unprotectedOf s tc kind ++ protectedOf s tc kind := by
  rw [allocateKind_eq, List.map_append, List.map_fst_zip (length_unprotectedOf_le s tc kind),
    List.map_fst_zip (length_protectedValues s tc kind).ge]

theorem unprotectedValues_getElem? {j : Nat} (hj : j < (unprotectedOf s tc kind).length) :
    (unprotectedValues s tc kind)[j]? = some ((sharesFor s tc kind).getD j 0) := by
  rw [unprotectedValues, List.getD_eq_getElem?_getD]
  rcases Nat.lt_or_ge j (sharesFor s tc kind).length with h | h
  · rw [List.getElem?_append_left h, List.getElem?_eq_getElem h]
    rfl
  · rw [List.getElem?_append_right h, List.getElem?_eq_none h, List.getElem?_replicate_of_lt (by omega)]
    rfl

/-! ### Bounds -/

theorem sum_map_snd_zip_le (l : List (Fin 8)) (v : List Nat) : ((l.zip v).map Prod.snd).sum ≤ v.sum := by
  induction l generalizing v with
  | nil => exact Nat.zero_le _
  | cons i l ih =>
    cases v with
    | nil => exact Nat.le_refl _
    | cons x v => simpa using ih v

variable {s tc kind}

/-- The new values and the LOST ones together keep the grid limit (R128). -/
theorem sum_allocateKind_le (htc : kindOf tc = some kind → tc.natAbs ≤ gridLimit s.cfg.site kind)
    (hlost : lostHeld s kind ≤ gridLimit s.cfg.site kind) :
    ((allocateKind s tc kind).map Prod.snd).sum + lostHeld s kind ≤ gridLimit s.cfg.site kind := by
  obtain ⟨-, -, -, hforced, -⟩ := protectedOf_eq_take s tc kind
  have hopen : (((unprotectedOf s tc kind).zip (unprotectedValues s tc kind)).map Prod.snd).sum ≤
      (sharesFor s tc kind).sum := by
    refine (sum_map_snd_zip_le _ _).trans ?_
    simp [unprotectedValues]
  have hprot : (((protectedOf s tc kind).zip (protectedValues s tc kind)).map Prod.snd).sum ≤
      forcedLoad s (protectedOf s tc kind) + restFor s tc kind := by
    rw [List.map_snd_zip (length_protectedValues s tc kind).le]
    have := sum_spread_le (restFor s tc kind) ((protectedOf s tc kind).map fun i => (bandOf s i).swap)
    rwa [List.map_map] at this
  have hshares : (sharesFor s tc kind).sum + restFor s tc kind ≤ roomFor s tc kind := by
    unfold restFor
    by_cases h : kindOf tc = some kind
    · have hsum := sum_meritShares_le (amountFor s tc kind) (roomFor s tc kind) ((unprotectedOf s tc kind).map (bandOf s))
      have hle : amountFor s tc kind ≤ roomFor s tc kind := by
        have := htc h
        unfold amountFor roomFor
        omega
      rw [if_pos h]
      simp only [sharesFor, if_pos h]
      omega
    · simp [sharesFor, if_neg h]
  rw [allocateKind_eq, List.map_append, List.sum_append]
  unfold roomFor at hshares
  omega

/-- Every new value is 0 or lies in its entry's band (R128). -/
theorem allocateKind_inBand (hr : ratingsSound s.cfg.trains) {i : Fin 8} {v : Nat} (h : (i, v) ∈ allocateKind s tc kind) :
    v = 0 ∨ (s.cfg.trains[i].minStableKw ≤ v ∧ v ≤ s.cfg.trains[i].ratedKw) := by
  rw [allocateKind_eq, List.mem_append] at h
  rcases h with h | h
  · obtain ⟨j, hj⟩ := List.mem_iff_getElem?.1 h
    obtain ⟨hi, hv⟩ := List.getElem?_zip_eq_some.1 hj
    have hlt := (List.getElem?_eq_some_iff.1 hi).1
    rw [unprotectedValues_getElem? s tc kind hlt, Option.some.injEq, List.getD_eq_getElem?_getD] at hv
    cases hshare : (sharesFor s tc kind)[j]? with
    | none => exact .inl (by rw [hshare] at hv; exact hv.symm)
    | some x =>
      obtain rfl : x = v := by rw [hshare] at hv; exact hv
      unfold sharesFor at hshare
      split at hshare
      · refine meritShares_inBand (q := bandOf s i) (fun q hq => ?_) hshare (by rw [List.getElem?_map, hi]; rfl)
        obtain ⟨l, -, rfl⟩ := List.mem_map.1 hq
        exact hr l
      · simp at hshare
  · obtain ⟨j, hj⟩ := List.mem_iff_getElem?.1 h
    obtain ⟨hi, hv⟩ := List.getElem?_zip_eq_some.1 hj
    obtain ⟨hlo, hhi⟩ := spread_le hv (q := (bandOf s i).swap) (by rw [List.getElem?_map, hi]; rfl)
    exact .inr ⟨hlo, hhi (hr i)⟩

end Kind

end Sys2Proof.Machine
end

section
/-! SUPPORT. What no recompute touches, and what its operations do to one entry: its working fields, its setpoint and the commands
that wait for it (R105, R129, R177). -/

namespace Sys2Proof.Machine

/-! ### What no recompute touches -/

/-- The state without what a recompute changes: the roster's working fields, the target, the setpoints, the changeover record, the
command queue, the flag of R30 and the notices. -/
def State.backdrop (s : State) : State :=
  { s with
    trains := Vector.replicate 8 .cleared
    disp := { s.disp with
      target := 0, clamped := 0, setpoints := Vector.replicate 8 none, changeKind := none, changeCount := 0 }
    engine := { s.engine with flag := false, run := s.engine.run.map fun r => { r with stale := false } }
    link := { s.link with cmds := [] }
    notices := .cleared }

section Backdrop
variable (s : State)

theorem backdrop_ite {c : Prop} [Decidable c] {a b : State} (ha : c → a.backdrop = s.backdrop) (hb : b.backdrop = s.backdrop) :
    (if c then a else b).backdrop = s.backdrop := by
  split
  · rename_i h
    exact ha h
  · exact hb

@[simp] theorem raise_backdrop (n : Notice) : (raise n s).backdrop = s.backdrop := rfl
@[simp] theorem raiseIf_backdrop (b : Bool) (n : Notice) : (raiseIf b n s).backdrop = s.backdrop := by cases b <;> rfl
@[simp] theorem setVerify_backdrop : (setVerify s).backdrop = s.backdrop := by
  simp [setVerify, State.backdrop, Function.comp_def]
@[simp] theorem setVerifyIf_backdrop (b : Bool) : (setVerifyIf b s).backdrop = s.backdrop := by
  cases b
  · rfl
  · exact setVerify_backdrop s
@[simp] theorem issue_backdrop (c : Cmd) : (issue c s).backdrop = s.backdrop := rfl
@[simp] theorem setTrain_backdrop (i : Fin 8) (w : TrainWork) : (setTrain i w s).backdrop = s.backdrop := rfl
@[simp] theorem formTarget_backdrop : (formTarget s).backdrop = s.backdrop := by
  rw [formTarget, raiseIf_backdrop]
  rfl
@[simp] theorem cutLost_backdrop (kind : TrainKind) : (cutLost kind s).backdrop = s.backdrop :=
  backdrop_ite s (fun _ => rfl) rfl
@[simp] theorem holdValues_backdrop (l : List (Fin 8 × Nat)) : (holdValues l s).backdrop = s.backdrop := rfl

variable {s} in
/-- A move of a bound entry to a bound state changes nothing else of the link (R179). -/
theorem moveTrain_backdrop {i : Fin 8} {new : TrainState} {timer : Option Timer} (hold : s.trains[i].state.bound = true)
    (hnew : new.bound = true) : (moveTrain i new timer s).backdrop = s.backdrop := by
  have hpoll : ∀ u : State, notePollMark i s.trains[i].state new u = u := fun u => by
    rw [notePollMark, if_pos hnew, if_pos hold]
  unfold moveTrain
  simp only [setVerifyIf_backdrop, hpoll]
  unfold dropSetpoint noteLeftRunning
  split <;> split <;> rfl

@[simp] theorem stopIfIdle_backdrop (prot : List (Fin 8)) (i : Fin 8) : (stopIfIdle prot i s).backdrop = s.backdrop := by
  refine backdrop_ite s (fun ⟨hrun, _⟩ => ?_) rfl
  rw [stopTrain, issue_backdrop]
  exact moveTrain_backdrop (by rw [hrun]; rfl) rfl

@[simp] theorem setIfChanged_backdrop (i : Fin 8) : (setIfChanged i s).backdrop = s.backdrop := by
  unfold setIfChanged
  split
  · exact backdrop_ite s (fun _ => rfl) rfl
  · rfl

@[simp] theorem startIfNeeded_backdrop (before : State) (i : Fin 8) : (startIfNeeded before i s).backdrop = s.backdrop :=
  backdrop_ite s (fun ⟨hready, _⟩ =>
    moveTrain_backdrop (new := .starting) (timer := startTimer i s) (by rw [hready]; rfl) rfl) rfl

/-- One pass touches nothing else. -/
@[simp] theorem recomputeOnce_backdrop : (recomputeOnce s).backdrop = s.backdrop :=
  recomputeOnce_keeps State.backdrop formTarget_backdrop (fun k s => cutLost_backdrop s k)
    (fun l s => holdValues_backdrop s l) (fun l i s => stopIfIdle_backdrop s l i) (fun i s => setIfChanged_backdrop s i)
    (fun b i s => startIfNeeded_backdrop s b i) s

@[simp] theorem recompute_backdrop : (recompute s).backdrop = s.backdrop :=
  recompute_keeps State.backdrop recomputeOnce_backdrop s

end Backdrop

section Same
variable {s t : State} (h : t.backdrop = s.backdrop)
include h

theorem now_of_backdrop : t.now = s.now := congrArg (·.now) h
theorem cfg_of_backdrop : t.cfg = s.cfg := congrArg (·.cfg) h
theorem clock_of_backdrop : t.clock = s.clock := congrArg (·.clock) h
theorem trip_of_backdrop : t.disp.trip = s.disp.trip := congrArg (·.disp.trip) h
theorem expanderHold_of_backdrop : t.disp.expanderHold = s.disp.expanderHold := congrArg (·.disp.expanderHold) h
theorem openTally_of_backdrop : t.disp.openTally = s.disp.openTally := congrArg (·.disp.openTally) h
theorem live_of_backdrop : t.engine.live = s.engine.live := congrArg (·.engine.live) h

theorem banAgainst_of_backdrop (kind : TrainKind) : banAgainst t kind = banAgainst s kind := by
  have hcaverns : t.caverns = s.caverns := congrArg (·.caverns) h
  have hstore : t.store = s.store := congrArg (·.store) h
  cases kind <;> simp only [banAgainst, hcaverns, hstore]

theorem targetOf_of_backdrop : targetOf t = targetOf s := by
  simp only [targetOf, openTally_of_backdrop h]

theorem exposedAt_of_backdrop (tc : Int) (kind : TrainKind) : exposedAt t tc kind = exposedAt s tc kind := by
  simp only [exposedAt, lookAheadOpposes, trip_of_backdrop h, banAgainst_of_backdrop h, live_of_backdrop h,
    clock_of_backdrop h, cfg_of_backdrop h]

end Same

/-! ### The command queue, entry by entry (R177) -/

/-- The commands of one entry. -/
def cmdsFor (i : Fin 8) (q : List Cmd) : List Cmd := q.filter fun c => decide (c.entry = i)

theorem mem_cmdsFor {i : Fin 8} {c : Cmd} {q : List Cmd} (h : c.entry = i) : c ∈ cmdsFor i q ↔ c ∈ q := by
  simp [cmdsFor, h]

theorem entry_of_isSetFor {i : Fin 8} {c : Cmd} (h : c.isSetFor i = true) : c.entry = i := by
  unfold Cmd.isSetFor at h
  split at h
  · exact of_decide_eq_true h
  · exact Bool.noConfusion h

/-- A command that joins the queue leaves the commands of another entry as they were. -/
theorem cmdsFor_enqueue_other {i : Fin 8} {c : Cmd} (h : c.entry ≠ i) (q : List Cmd) :
    cmdsFor i (enqueue c q) = cmdsFor i q := by
  have hmap : cmdsFor i (q.map fun d => if d.isSetFor c.entry then c else d) = cmdsFor i q := by
    induction q with
    | nil => rfl
    | cons d q ih =>
      by_cases hd : d.isSetFor c.entry = true
      · have hne : d.entry ≠ i := fun e => h ((entry_of_isSetFor hd).symm.trans e)
        simp only [cmdsFor, List.map_cons, hd, if_true, List.filter_cons, h, hne, decide_false, Bool.false_eq_true, if_false]
        exact ih
      · simp only [cmdsFor, List.map_cons, hd, List.filter_cons]
        simp only [Bool.false_eq_true, if_false]
        exact congrArg (fun l => if decide (d.entry = i) = true then d :: l else l) ih
  have happ : cmdsFor i (q ++ [c]) = cmdsFor i q := by simp [cmdsFor, h]
  have hfil : cmdsFor i (q.filter fun d => !d.isSetFor c.entry) = cmdsFor i q := by
    rw [cmdsFor, List.filter_filter]
    refine List.filter_congr fun d _ => ?_
    by_cases hd : d.isSetFor c.entry = true
    · have hne : d.entry ≠ i := fun e => h ((entry_of_isSetFor hd).symm.trans e)
      simp [hne]
    · simp [Bool.eq_false_iff.2 hd]
  unfold enqueue
  split
  · split
    · exact hmap
    · exact happ
  · simp only
    split
    · exact hfil
    · rw [← hfil]
      simp [cmdsFor, h]
  · split
    · rfl
    · exact happ

/-- A command joins the queue among the commands of its entry. -/
theorem cmdsFor_enqueue_self (c : Cmd) (q : List Cmd) : cmdsFor c.entry (enqueue c q) = enqueue c (cmdsFor c.entry q) := by
  have hany : (cmdsFor c.entry q).any (Cmd.isSetFor c.entry) = q.any (Cmd.isSetFor c.entry) := by
    rw [Bool.eq_iff_iff, List.any_eq_true, List.any_eq_true]
    constructor
    · rintro ⟨d, hd, hs⟩
      exact ⟨d, List.mem_of_mem_filter hd, hs⟩
    · rintro ⟨d, hd, hs⟩
      exact ⟨d, (mem_cmdsFor (entry_of_isSetFor hs)).2 hd, hs⟩
  have hmap : cmdsFor c.entry (q.map fun d => if d.isSetFor c.entry then c else d) =
      (cmdsFor c.entry q).map fun d => if d.isSetFor c.entry then c else d := by
    rw [cmdsFor, List.filter_map]
    refine congrArg _ (List.filter_congr fun d _ => ?_)
    by_cases hd : d.isSetFor c.entry = true
    · simp [hd, entry_of_isSetFor hd]
    · simp [hd]
  have happ : ∀ q, cmdsFor c.entry (q ++ [c]) = cmdsFor c.entry q ++ [c] := fun q => by simp [cmdsFor]
  have hfil : cmdsFor c.entry (q.filter fun d => !d.isSetFor c.entry) =
      (cmdsFor c.entry q).filter fun d => !d.isSetFor c.entry := List.filter_comm ..
  have hmem : ∀ q, c ∈ cmdsFor c.entry q ↔ c ∈ q := fun q => mem_cmdsFor rfl
  unfold enqueue
  split
  · rw [hany]
    split
    · exact hmap
    · exact happ q
  · simp only [← hfil, hmem]
    split
    · rfl
    · exact happ _
  · simp only [hmem]
    split
    · rfl
    · exact happ q

/-! ### One entry's part of the state -/

/-- An entry's working fields, its setpoint and the commands that wait for it. -/
structure EntryView where
  work : TrainWork
  setpoint : Option Setpoint
  cmds : List Cmd

/-- An entry's part of the state. -/
def State.entryView (s : State) (i : Fin 8) : EntryView :=
  ⟨s.trains[i], s.disp.setpoints[i], cmdsFor i s.link.cmds⟩

/-- An entry sent to STOPPING: a fresh stop timer, no setpoint, and a STOP that takes the place of its SETs (R105, R129, R177). -/
def EntryView.stopped (i : Fin 8) (timer : Option Timer) (e : EntryView) : EntryView :=
  ⟨{ e.work with state := .stopping, timer := timer }, none, enqueue ⟨i, .stop⟩ e.cmds⟩

/-- An entry in RUNNING that holds a value, with a SET where the value is new (R129). -/
def EntryView.holding (i : Fin 8) (v : Nat) (e : EntryView) : EntryView :=
  ⟨e.work, some ⟨v, some v⟩,
    if e.setpoint.bind Setpoint.issued = some v then e.cmds else enqueue ⟨i, .set v⟩ e.cmds⟩

/-- An entry started: a fresh start timer, a setpoint of 0, and a START (R105, R133). -/
def EntryView.started (i : Fin 8) (timer : Option Timer) (e : EntryView) : EntryView :=
  ⟨{ e.work with state := .starting, timer := timer }, some ⟨0, none⟩, enqueue ⟨i, .start⟩ e.cmds⟩

section Views
variable {s : State} {i j : Fin 8}

theorem getElem_set_other {α : Type} {n : Nat} (v : Vector α n) (x : α) {i j : Fin n} (h : j ≠ i) : (v.set i x)[j] = v[j] :=
  Vector.getElem_set_ne i.isLt j.isLt fun e => h (Fin.ext e.symm)

theorem getElem_set_same {α : Type} {n : Nat} (v : Vector α n) (x : α) (i : Fin n) : (v.set i x)[i] = x :=
  Vector.getElem_set_self i.isLt

theorem entryView_congr {t : State} (htrains : t.trains = s.trains) (hset : t.disp.setpoints = s.disp.setpoints)
    (hcmds : t.link.cmds = s.link.cmds) : t.entryView i = s.entryView i := by
  simp only [State.entryView, htrains, hset, hcmds]

@[simp] theorem formTarget_entryView : (formTarget s).entryView i = s.entryView i :=
  entryView_congr (by simp [formTarget]) (by simp [formTarget]) (by simp [formTarget])

theorem moveTrain_entryView_other (h : i ≠ j) (new : TrainState) (timer : Option Timer) :
    (moveTrain j new timer s).entryView i = s.entryView i := by
  have hset : (moveTrain j new timer s).disp.setpoints[i] = s.disp.setpoints[i] := by
    rw [moveTrain_setpoints]
    split
    · rfl
    · exact getElem_set_other _ _ h
  have htrain : (moveTrain j new timer s).trains[i] = s.trains[i] := by
    rw [moveTrain_trains]
    exact getElem_set_other _ _ h
  simp only [State.entryView, htrain, hset, moveTrain_cmds]

theorem moveTrain_entryView_self (new : TrainState) (timer : Option Timer) :
    (moveTrain i new timer s).entryView i = ⟨{ s.trains[i] with state := new, timer := timer },
      if new.keepsSetpoint then s.disp.setpoints[i] else none, cmdsFor i s.link.cmds⟩ := by
  have hset : (moveTrain i new timer s).disp.setpoints[i] = if new.keepsSetpoint then s.disp.setpoints[i] else none := by
    rw [moveTrain_setpoints]
    split
    · rfl
    · exact getElem_set_same ..
  have htrain : (moveTrain i new timer s).trains[i] = { s.trains[i] with state := new, timer := timer } := by
    rw [moveTrain_trains]
    exact getElem_set_same ..
  simp only [State.entryView, htrain, hset, moveTrain_cmds]

theorem issue_entryView_other {c : Cmd} (h : c.entry ≠ i) : (issue c s).entryView i = s.entryView i := by
  simp only [State.entryView, issue, cmdsFor_enqueue_other h]

theorem issue_entryView_self (k : CmdKind) :
    (issue ⟨i, k⟩ s).entryView i = { s.entryView i with cmds := enqueue ⟨i, k⟩ (s.entryView i).cmds } := by
  simp only [State.entryView, issue]
  exact congrArg _ (cmdsFor_enqueue_self ⟨i, k⟩ _)

theorem stopTrain_entryView_other (h : i ≠ j) : (stopTrain j s).entryView i = s.entryView i := by
  rw [stopTrain, issue_entryView_other (Ne.symm h)]
  exact moveTrain_entryView_other h _ _

theorem stopTrain_entryView_self : (stopTrain i s).entryView i = (s.entryView i).stopped i (stopTimer i s) := by
  rw [stopTrain, issue_entryView_self, enterStopping, moveTrain_entryView_self]
  rfl

theorem startTrain_entryView_other (h : i ≠ j) : (startTrain j s).entryView i = s.entryView i := by
  have hmove := moveTrain_entryView_other (s := s) h .starting (startTimer j s)
  rw [startTrain, issue_entryView_other (Ne.symm h), ← hmove]
  simp only [State.entryView, getElem_set_other _ _ h]

theorem startTrain_entryView_self : (startTrain i s).entryView i = (s.entryView i).started i (startTimer i s) := by
  have hmove := moveTrain_entryView_self (s := s) (i := i) .starting (startTimer i s)
  rw [startTrain, issue_entryView_self]
  simp only [State.entryView, EntryView.mk.injEq, EntryView.started, getElem_set_same] at hmove ⊢
  obtain ⟨hwork, -, hcmds⟩ := hmove
  rw [hwork, hcmds]
  exact ⟨rfl, trivial, rfl⟩

theorem stopIfIdle_entryView_other (h : i ≠ j) (prot : List (Fin 8)) : (stopIfIdle prot j s).entryView i = s.entryView i := by
  unfold stopIfIdle
  split
  · exact stopTrain_entryView_other h
  · rfl

theorem setIfChanged_entryView_other (h : i ≠ j) : (setIfChanged j s).entryView i = s.entryView i := by
  unfold setIfChanged
  split
  · simp only
    split
    · rw [issue_entryView_other (Ne.symm h)]
      simp only [State.entryView, getElem_set_other _ _ h]
    · rfl
  · rfl

/-- A RUNNING entry with a setpoint is brought to hold what it holds (R129). -/
theorem setIfChanged_entryView_self {v : Nat} {issued : Option Nat} (hrun : s.trains[i].state = .running)
    (hset : s.disp.setpoints[i] = some ⟨v, issued⟩) : (setIfChanged i s).entryView i = (s.entryView i).holding i v := by
  by_cases h : issued = some v
  · have hsame : setIfChanged i s = s := by
      unfold setIfChanged
      rw [hset]
      exact if_neg fun hc => hc.2 h
    rw [hsame]
    simp only [EntryView.holding, State.entryView, hset, Option.bind_some, h, if_true]
  · have hissue : setIfChanged i s = issue ⟨i, .set v⟩ { s with disp := { s.disp with
        setpoints := s.disp.setpoints.set i (some ⟨v, some v⟩) } } := by
      unfold setIfChanged
      rw [hset]
      exact if_pos ⟨hrun, h⟩
    rw [hissue, issue_entryView_self]
    simp only [EntryView.holding, State.entryView, hset, Option.bind_some, if_neg h, getElem_set_same]

theorem setIfChanged_entryView_idle (hrun : s.trains[i].state ≠ .running) : (setIfChanged i s).entryView i = s.entryView i := by
  unfold setIfChanged
  split
  · rw [if_neg fun hc => hrun hc.1]
  · rfl

theorem startIfNeeded_entryView_other (h : i ≠ j) (before : State) :
    (startIfNeeded before j s).entryView i = s.entryView i := by
  unfold startIfNeeded
  split
  · exact startTrain_entryView_other h
  · rfl

end Views

end Sys2Proof.Machine
end

section
/-! SUPPORT. One pass of a recompute, stage by stage (R123 to R129): the target, the LOST values, the allocation, the STOPs and the
SETs, and what they leave of each entry. -/

namespace Sys2Proof.Machine

/-! ### The stages -/

section Stages
variable (s : State)

/-- The target and the LOST values of a pass (R124, R128 step 1). -/
def passCut : State := cutLost .expander (cutLost .compressor (formTarget s))

/-- The clamped target of a pass. -/
def passTarget : Int := (formTarget s).disp.clamped

/-- The new held values of a pass. -/
def passAllocation : List (Fin 8 × Nat) :=
  allocateKind (passCut s) (passTarget s) .compressor ++ allocateKind (passCut s) (passTarget s) .expander

/-- The entries that a pass protects. -/
def passProtected : List (Fin 8) :=
  protectedOf (passCut s) (passTarget s) .compressor ++ protectedOf (passCut s) (passTarget s) .expander

/-- A pass with its values held (R128 step 5). -/
def passHeld : State := holdValues (passAllocation s) (passCut s)

/-- A pass with its STOPs and SETs issued (R129). -/
def passSet : State := inMerit setIfChanged (inMerit (stopIfIdle (passProtected s)) (passHeld s))

theorem recomputeOnce_eq : recomputeOnce s = inMerit (startIfNeeded (passSet s)) (passSet s) := rfl

theorem inMerit_backdrop {f : Fin 8 → State → State} (hf : ∀ i s, (f i s).backdrop = s.backdrop) :
    (inMerit f s).backdrop = s.backdrop := inMerit_keeps State.backdrop f hf s

theorem passCut_backdrop : (passCut s).backdrop = s.backdrop := by
  rw [passCut, cutLost_backdrop, cutLost_backdrop, formTarget_backdrop]

theorem passHeld_backdrop : (passHeld s).backdrop = s.backdrop := by
  rw [passHeld, holdValues_backdrop, passCut_backdrop]

theorem passSet_backdrop : (passSet s).backdrop = s.backdrop := by
  rw [passSet, inMerit_backdrop _ fun i s => setIfChanged_backdrop s i,
    inMerit_backdrop _ fun i s => stopIfIdle_backdrop s _ i, passHeld_backdrop]

end Stages

/-! ### The clamped target (R124) -/

theorem passTarget_eq (s : State) : passTarget s = clampedOf s (targetOf s) := by
  rw [passTarget, formTarget, raiseIf_disp]

theorem clampInhibit_between (s : State) (t : Int) :
    (0 ≤ t → 0 ≤ clampInhibit s t ∧ clampInhibit s t ≤ t) ∧ (t ≤ 0 → t ≤ clampInhibit s t ∧ clampInhibit s t ≤ 0) := by
  unfold clampInhibit
  split_ifs <;> omega

theorem clampTrip_between (trip : Bool) (t : Int) :
    (0 ≤ t → 0 ≤ clampTrip trip t ∧ clampTrip trip t ≤ t) ∧ (t ≤ 0 → t ≤ clampTrip trip t ∧ clampTrip trip t ≤ 0) := by
  unfold clampTrip
  split_ifs <;> omega

theorem clampRunning_between (s : State) (t : Int) :
    (0 ≤ t → 0 ≤ clampRunning s t ∧ clampRunning s t ≤ t) ∧ (t ≤ 0 → t ≤ clampRunning s t ∧ clampRunning s t ≤ 0) := by
  unfold clampRunning
  split <;> omega

theorem clampGrid_between (site : SiteCfg) (t : Int) :
    (0 ≤ t → 0 ≤ clampGrid site t ∧ clampGrid site t ≤ t) ∧ (t ≤ 0 → t ≤ clampGrid site t ∧ clampGrid site t ≤ 0) := by
  unfold clampGrid
  omega

/-- Each clamp brings the target nearer to 0, so their chain does (R124). -/
theorem clampedOf_between (s : State) (t : Int) :
    (0 ≤ t → 0 ≤ clampedOf s t ∧ clampedOf s t ≤ clampGrid s.cfg.site t) ∧
      (t ≤ 0 → clampGrid s.cfg.site t ≤ clampedOf s t ∧ clampedOf s t ≤ 0) := by
  have hgrid := clampGrid_between s.cfg.site t
  have hinhibit := clampInhibit_between s (clampGrid s.cfg.site t)
  have htrip := clampTrip_between s.disp.trip (clampInhibit s (clampGrid s.cfg.site t))
  have hrunning := clampRunning_between s (clampTrip s.disp.trip (clampInhibit s (clampGrid s.cfg.site t)))
  unfold clampedOf
  omega

/-- The clamped target keeps the grid limits (R124 clamp 1). -/
theorem clampedOf_grid (s : State) (t : Int) :
    -(s.cfg.site.exportLimit : Int) ≤ clampedOf s t ∧ clampedOf s t ≤ s.cfg.site.importLimit := by
  have h := clampedOf_between s t
  have hgrid : -(s.cfg.site.exportLimit : Int) ≤ clampGrid s.cfg.site t ∧ clampGrid s.cfg.site t ≤ s.cfg.site.importLimit := by
    unfold clampGrid
    omega
  omega

theorem kindOf_eq_some_iff (t : Int) (kind : TrainKind) : kindOf t = some kind ↔ signedFor kind t = true := by
  unfold kindOf
  cases kind <;> simp only [signedFor, decide_eq_true_iff] <;> split_ifs <;> simp <;> omega

/-- The clamped target of a kind is within the kind's grid limit. -/
theorem passTarget_natAbs {s : State} {kind : TrainKind} (h : kindOf (passTarget s) = some kind) :
    (passTarget s).natAbs ≤ gridLimit s.cfg.site kind := by
  have hgrid := clampedOf_grid s (targetOf s)
  rw [kindOf_eq_some_iff] at h
  rw [passTarget_eq] at h ⊢
  cases kind <;> simp only [signedFor, decide_eq_true_iff] at h <;> simp only [gridLimit] <;> omega

/-! ### The LOST values (R128 step 1) -/

section Lost
variable (s : State) (kind : TrainKind)

/-- A setpoint that holds nothing. -/
def heldNothing (sp : Option Setpoint) : Option Setpoint := sp.map fun q => { q with held := 0 }

/-- What step 1 of R128 leaves of a kind's LOST values. -/
def lostLeft : Nat := if gridLimit s.cfg.site kind < lostHeld s kind then 0 else lostHeld s kind

theorem lostLeft_le : lostLeft s kind ≤ gridLimit s.cfg.site kind := by
  unfold lostLeft
  split <;> omega

/-- A setpoint after step 1 of R128. -/
def cutSetpoint (i : Fin 8) : Option Setpoint :=
  if isIn s s.cfg.trains[i].kind .lost i = true ∧ gridLimit s.cfg.site s.cfg.trains[i].kind < lostHeld s s.cfg.trains[i].kind then
    heldNothing s.disp.setpoints[i]
  else s.disp.setpoints[i]

theorem cutLost_setpoint (i : Fin 8) : (cutLost kind s).disp.setpoints[i] =
    if s.cfg.trains[i].kind = kind then cutSetpoint s i else s.disp.setpoints[i] := by
  by_cases hkind : s.cfg.trains[i].kind = kind
  · subst hkind
    rw [if_pos rfl, cutSetpoint, cutLost]
    by_cases hcut : gridLimit s.cfg.site s.cfg.trains[i].kind < lostHeld s s.cfg.trains[i].kind
    · rw [if_pos hcut]
      exact (Vector.getElem_ofFn i.isLt).trans (if_congr (and_iff_left hcut).symm rfl rfl)
    · rw [if_neg hcut, if_neg fun h => hcut h.2]
  · have hnot : isIn s kind .lost i = false := by
      rw [← Bool.not_eq_true, isIn_iff]
      exact fun h => hkind h.1
    rw [if_neg hkind, cutLost]
    split
    · exact (Vector.getElem_ofFn i.isLt).trans (if_neg (by rw [hnot]; exact Bool.false_ne_true))
    · rfl

theorem cutLost_trains : (cutLost kind s).trains = s.trains := by
  unfold cutLost
  split <;> rfl

theorem cutLost_link : (cutLost kind s).link = s.link := by
  unfold cutLost
  split <;> rfl

variable {s} in
theorem isIn_congr {t : State} {kind : TrainKind} {st : TrainState} (hcfg : t.cfg = s.cfg) (htrains : t.trains = s.trains) :
    isIn t kind st = isIn s kind st := by
  funext i
  simp only [isIn, hcfg, htrains]

variable {s} in
/-- The LOST values of a kind depend on the setpoints of its own LOST entries. -/
theorem lostHeld_congr {t : State} {kind : TrainKind} (hcfg : t.cfg = s.cfg) (htrains : t.trains = s.trains)
    (hset : ∀ i : Fin 8, s.cfg.trains[i].kind = kind → t.disp.setpoints[i] = s.disp.setpoints[i]) :
    lostHeld t kind = lostHeld s kind := by
  rw [lostHeld, isIn_congr hcfg htrains, lostHeld]
  refine congrArg List.sum (List.map_congr_left fun i hi => ?_)
  have hkind := ((isIn_iff s kind .lost i).1 (List.mem_filter.1 hi).2).1
  simp only [heldOf, hset i hkind]

theorem formTarget_setpoints : (formTarget s).disp.setpoints = s.disp.setpoints := by simp [formTarget]

theorem formTarget_trains : (formTarget s).trains = s.trains := by simp [formTarget]

theorem formTarget_link : (formTarget s).link = s.link := by simp [formTarget]

theorem passCut_trains : (passCut s).trains = s.trains := by
  rw [passCut, cutLost_trains, cutLost_trains, formTarget_trains]

theorem passCut_link : (passCut s).link = s.link := by
  rw [passCut, cutLost_link, cutLost_link, formTarget_link]

theorem passCut_cfg : (passCut s).cfg = s.cfg := cfg_of_backdrop (passCut_backdrop s)

theorem cutSetpoint_congr {t : State} {i : Fin 8} (hcfg : t.cfg = s.cfg) (htrains : t.trains = s.trains)
    (hset : ∀ j : Fin 8, s.cfg.trains[j].kind = s.cfg.trains[i].kind → t.disp.setpoints[j] = s.disp.setpoints[j]) :
    cutSetpoint t i = cutSetpoint s i := by
  simp only [cutSetpoint, hcfg, isIn_congr hcfg htrains, lostHeld_congr hcfg htrains hset, hset i rfl]

/-- Step 1 of R128 cuts each kind's LOST values by that kind's sum alone. -/
theorem passCut_setpoint (i : Fin 8) : (passCut s).disp.setpoints[i] = cutSetpoint s i := by
  have hcfg : (formTarget s).cfg = s.cfg := cfg_of_backdrop (formTarget_backdrop s)
  have hcfg' : (cutLost .compressor (formTarget s)).cfg = s.cfg := (cfg_of_backdrop (cutLost_backdrop _ _)).trans hcfg
  have htrains' : (cutLost .compressor (formTarget s)).trains = s.trains :=
    (cutLost_trains _ _).trans (formTarget_trains s)
  have hformed : cutSetpoint (formTarget s) i = cutSetpoint s i :=
    cutSetpoint_congr s hcfg (formTarget_trains s) fun j _ => by rw [formTarget_setpoints]
  rw [passCut, cutLost_setpoint, hcfg']
  cases hkind : s.cfg.trains[i].kind
  · rw [if_neg (by decide), cutLost_setpoint, hcfg, hkind, if_pos rfl, hformed]
  · rw [if_pos rfl]
    refine cutSetpoint_congr s hcfg' htrains' fun j hj => ?_
    rw [cutLost_setpoint, hcfg, hj, hkind, if_neg (by decide), formTarget_setpoints]

theorem cutSetpoint_of_not_lost {i : Fin 8} (h : s.trains[i].state ≠ .lost) : cutSetpoint s i = s.disp.setpoints[i] :=
  if_neg fun hc => h ((isIn_iff s _ .lost i).1 hc.1).2

theorem cutSetpoint_of_lost {i : Fin 8} (h : s.trains[i].state = .lost) : cutSetpoint s i =
    if gridLimit s.cfg.site s.cfg.trains[i].kind < lostHeld s s.cfg.trains[i].kind then heldNothing s.disp.setpoints[i]
    else s.disp.setpoints[i] :=
  if_congr (and_iff_right ((isIn_iff s _ .lost i).2 ⟨rfl, h⟩)) rfl rfl

/-- A value that step 1 of R128 leaves is 0 or as it was. -/
theorem cutSetpoint_held (i : Fin 8) :
    (cutSetpoint s i).map Setpoint.held = s.disp.setpoints[i].map Setpoint.held ∨
      (cutSetpoint s i).map Setpoint.held = s.disp.setpoints[i].map fun _ => 0 := by
  unfold cutSetpoint
  split
  · exact .inr (by simp [heldNothing, Function.comp_def])
  · exact .inl rfl

theorem lostHeld_passCut : lostHeld (passCut s) kind = lostLeft s kind := by
  have hheld : ∀ i, isIn s kind .lost i = true →
      heldOf (passCut s) i = if gridLimit s.cfg.site kind < lostHeld s kind then 0 else heldOf s i := by
    intro i hi
    obtain ⟨hkind, hlost⟩ := (isIn_iff s kind .lost i).1 hi
    rw [heldOf, passCut_setpoint, cutSetpoint_of_lost s hlost, hkind, heldOf]
    split
    · cases s.disp.setpoints[i] <;> rfl
    · rfl
  rw [lostLeft, lostHeld, isIn_congr (passCut_cfg s) (passCut_trains s),
    List.map_congr_left fun i hi => hheld i (List.mem_filter.1 hi).2]
  split
  · simp
  · rfl

end Lost

/-! ### The new held values (R128 step 5) -/

theorem lookup_of_mem {α β : Type} [DecidableEq α] {l : List (α × β)} (hl : (l.map Prod.fst).Nodup) {i : α} {v : β}
    (h : (i, v) ∈ l) :
    l.lookup i = some v := by
  induction l with
  | nil => simp at h
  | cons q l ih =>
    rw [List.map_cons, List.nodup_cons] at hl
    rcases List.mem_cons.1 h with rfl | h
    · exact List.lookup_cons_self
    · have hne : (i == q.1) = false := by
        rw [beq_eq_false_iff_ne]
        intro e
        exact hl.1 (e ▸ List.mem_map_of_mem (f := Prod.fst) h)
      rw [List.lookup_cons, hne]
      exact ih hl.2 h

section Held
variable (s : State)

theorem map_fst_passAllocation : (passAllocation s).map Prod.fst =
    (unprotectedOf (passCut s) (passTarget s) .compressor ++ protectedOf (passCut s) (passTarget s) .compressor) ++
      (unprotectedOf (passCut s) (passTarget s) .expander ++ protectedOf (passCut s) (passTarget s) .expander) := by
  rw [passAllocation, List.map_append, map_fst_allocateKind, map_fst_allocateKind]

theorem nodup_passAllocation : ((passAllocation s).map Prod.fst).Nodup := by
  rw [map_fst_passAllocation]
  refine nodup_unprotected_protected.append nodup_unprotected_protected fun i hc he => ?_
  have hne := (mem_unprotected_or_protected.1 hc).1.symm.trans (mem_unprotected_or_protected.1 he).1
  exact absurd hne (by decide)

/-- The entries with a new value are those in RUNNING. -/
theorem mem_passAllocation_keys {i : Fin 8} : i ∈ (passAllocation s).map Prod.fst ↔ s.trains[i].state = .running := by
  rw [map_fst_passAllocation, List.mem_append, mem_unprotected_or_protected, mem_unprotected_or_protected, passCut_trains]
  cases (passCut s).cfg.trains[i].kind <;> simp

theorem mem_passAllocation {kind : TrainKind} {q : Fin 8 × Nat} (h : q ∈ allocateKind (passCut s) (passTarget s) kind) :
    q ∈ passAllocation s := by
  cases kind
  · exact List.mem_append_left _ h
  · exact List.mem_append_right _ h

theorem passAllocation_lookup_none {i : Fin 8} (h : s.trains[i].state ≠ .running) : (passAllocation s).lookup i = none := by
  rw [List.lookup_eq_none_iff]
  intro q hq
  rw [bne_iff_ne]
  rintro rfl
  exact h ((mem_passAllocation_keys s).1 (List.mem_map_of_mem hq))

/-- A RUNNING entry has a new value, from the allocation of its kind. -/
theorem passAllocation_lookup_some {i : Fin 8} (h : s.trains[i].state = .running) :
    ∃ v, (passAllocation s).lookup i = some v ∧ (i, v) ∈ allocateKind (passCut s) (passTarget s) s.cfg.trains[i].kind := by
  have hmem : i ∈ (allocateKind (passCut s) (passTarget s) s.cfg.trains[i].kind).map Prod.fst := by
    rw [map_fst_allocateKind, mem_unprotected_or_protected, passCut_trains, passCut_cfg]
    exact ⟨rfl, h⟩
  obtain ⟨⟨j, v⟩, hq, rfl⟩ := List.mem_map.1 hmem
  exact ⟨v, lookup_of_mem (nodup_passAllocation s) (mem_passAllocation s hq), hq⟩

theorem passHeld_setpoint (i : Fin 8) : (passHeld s).disp.setpoints[i] =
    match (passAllocation s).lookup i with
    | some v => some ⟨v, s.disp.setpoints[i].bind Setpoint.issued⟩
    | none => cutSetpoint s i := by
  have hheld : (passHeld s).disp.setpoints[i] = match (passAllocation s).lookup i with
      | some v => some ⟨v, (passCut s).disp.setpoints[i].bind Setpoint.issued⟩
      | none => (passCut s).disp.setpoints[i] := Vector.getElem_ofFn i.isLt
  by_cases hrun : s.trains[i].state = .running
  · obtain ⟨v, hv, -⟩ := passAllocation_lookup_some s hrun
    rw [hheld, hv, passCut_setpoint, cutSetpoint_of_not_lost s (by rw [hrun]; decide)]
  · rw [hheld, passAllocation_lookup_none s hrun, passCut_setpoint]

theorem holdValues_trains (l : List (Fin 8 × Nat)) : (holdValues l s).trains = s.trains := rfl

theorem holdValues_link (l : List (Fin 8 × Nat)) : (holdValues l s).link = s.link := rfl

theorem passHeld_trains : (passHeld s).trains = s.trains := by rw [passHeld, holdValues_trains, passCut_trains]

theorem passHeld_link : (passHeld s).link = s.link := by rw [passHeld, holdValues_link, passCut_link]

theorem passHeld_entryView (i : Fin 8) : (passHeld s).entryView i =
    { s.entryView i with setpoint := (passHeld s).disp.setpoints[i] } := by
  simp only [State.entryView, passHeld_trains, passHeld_link]

end Held

/-! ### STOPs and SETs (R129) -/

/-- A pass in merit order comes once to each entry. -/
theorem inMerit_split (s : State) (i : Fin 8) : ∃ l l' : List (Fin 8), i ∉ l ∧ i ∉ l' ∧ ∀ f : Fin 8 → State → State,
    inMerit f s = l'.foldl (fun s j => f j s) (f i (l.foldl (fun s j => f j s) s)) := by
  have hnodup := nodup_meritOrder s.cfg.trains
  obtain ⟨l, l', h⟩ := List.append_of_mem (mem_meritOrder s.cfg.trains i)
  rw [h, List.nodup_middle] at hnodup
  obtain ⟨hnot, -⟩ := List.nodup_cons.1 hnodup
  rw [List.mem_append, not_or] at hnot
  refine ⟨l, l', hnot.1, hnot.2, fun f => ?_⟩
  rw [inMerit, h, List.foldl_append, List.foldl_cons]

/-- Steps at other entries leave an entry as it was. -/
theorem foldl_entryView {f : Fin 8 → State → State} {i : Fin 8}
    (hf : ∀ j, i ≠ j → ∀ s, (f j s).entryView i = s.entryView i) {l : List (Fin 8)} (hl : i ∉ l) (s : State) :
    (l.foldl (fun s j => f j s) s).entryView i = s.entryView i := by
  induction l generalizing s with
  | nil => rfl
  | cons j l ih =>
    rw [List.mem_cons, not_or] at hl
    rw [List.foldl_cons, ih hl.2, hf j hl.1]

/-- What a pass in merit order leaves of an entry is what its one step at that entry leaves. -/
theorem inMerit_entryView {f : Fin 8 → State → State} {i : Fin 8} (hback : ∀ j s, (f j s).backdrop = s.backdrop)
    (hf : ∀ j, i ≠ j → ∀ s, (f j s).entryView i = s.entryView i) (s : State) :
    ∃ r : State, r.backdrop = s.backdrop ∧ r.entryView i = s.entryView i ∧
      (inMerit f s).entryView i = (f i r).entryView i := by
  obtain ⟨l, l', hl, hl', heq⟩ := inMerit_split s i
  refine ⟨l.foldl (fun s j => f j s) s, foldl_keeps State.backdrop _ (fun s j => hback j s) l s, foldl_entryView hf hl s, ?_⟩
  rw [heq f, foldl_entryView hf hl']

section Acted
variable (s : State) {i : Fin 8}

theorem work_of_entryView {t : State} (h : t.entryView i = s.entryView i) : t.trains[i] = s.trains[i] :=
  congrArg EntryView.work h

theorem stopTimer_congr {t : State} (h : t.backdrop = s.backdrop) : stopTimer i t = stopTimer i s := by
  simp only [stopTimer, now_of_backdrop h, cfg_of_backdrop h]

theorem startTimer_congr {t : State} (h : t.backdrop = s.backdrop) : startTimer i t = startTimer i s := by
  simp only [startTimer, now_of_backdrop h, cfg_of_backdrop h]

/-- STOPs and SETs leave an entry that is not in RUNNING as the allocation left it. -/
theorem passSet_entryView_idle (h : s.trains[i].state ≠ .running) :
    (passSet s).entryView i = { s.entryView i with setpoint := cutSetpoint s i } := by
  obtain ⟨r, -, hr, hstops⟩ := inMerit_entryView (i := i) (f := stopIfIdle (passProtected s))
    (fun j s => stopIfIdle_backdrop s _ j) (fun j hj s => stopIfIdle_entryView_other hj _) (passHeld s)
  obtain ⟨q, -, hq, hsets⟩ := inMerit_entryView (i := i) (f := setIfChanged) (fun j s => setIfChanged_backdrop s j)
    (fun j hj s => setIfChanged_entryView_other hj) (inMerit (stopIfIdle (passProtected s)) (passHeld s))
  have hwork : r.trains[i] = s.trains[i] := by rw [work_of_entryView _ hr, passHeld_trains]
  have hkept : stopIfIdle (passProtected s) i r = r := if_neg fun hc => h (hwork ▸ hc.1)
  rw [hkept] at hstops
  have hidle : q.trains[i].state ≠ .running := by
    rw [work_of_entryView _ (hq.trans hstops), hwork]
    exact h
  rw [passSet, hsets, setIfChanged_entryView_idle hidle, hq, hstops, hr, passHeld_entryView, passHeld_setpoint,
    passAllocation_lookup_none s h]

/-- A RUNNING entry that is given nothing and keeps no protection is sent to STOPPING; any other holds its new value (R129). -/
theorem passSet_entryView_running {v : Nat} (hrun : s.trains[i].state = .running)
    (hv : (passAllocation s).lookup i = some v) :
    (passSet s).entryView i = if v = 0 ∧ i ∉ passProtected s then (s.entryView i).stopped i (stopTimer i s)
      else (s.entryView i).holding i v := by
  obtain ⟨r, hback, hr, hstops⟩ := inMerit_entryView (i := i) (f := stopIfIdle (passProtected s))
    (fun j s => stopIfIdle_backdrop s _ j) (fun j hj s => stopIfIdle_entryView_other hj _) (passHeld s)
  obtain ⟨q, -, hq, hsets⟩ := inMerit_entryView (i := i) (f := setIfChanged) (fun j s => setIfChanged_backdrop s j)
    (fun j hj s => setIfChanged_entryView_other hj) (inMerit (stopIfIdle (passProtected s)) (passHeld s))
  have hview : r.entryView i =
      { s.entryView i with setpoint := some ⟨v, s.disp.setpoints[i].bind Setpoint.issued⟩ } := by
    rw [hr, passHeld_entryView, passHeld_setpoint, hv]
  have hstate : r.trains[i].state = .running := (congrArg (fun e => e.work.state) hview).trans hrun
  have hset : r.disp.setpoints[i] = some ⟨v, s.disp.setpoints[i].bind Setpoint.issued⟩ := congrArg EntryView.setpoint hview
  have hheld : heldOf r i = v := by
    rw [heldOf, hset]
    rfl
  rw [passSet, hsets]
  by_cases hstop : v = 0 ∧ i ∉ passProtected s
  · have hstopped : stopIfIdle (passProtected s) i r = stopTrain i r :=
      if_pos ⟨hstate, hheld.trans hstop.1, hstop.2⟩
    rw [hstopped, stopTrain_entryView_self, stopTimer_congr _ (hback.trans (passHeld_backdrop s)), hview] at hstops
    have hidle : q.trains[i].state ≠ .running := by
      have hstopping : q.trains[i].state = .stopping := congrArg (fun e => e.work.state) (hq.trans hstops)
      rw [hstopping]
      decide
    rw [if_pos hstop, setIfChanged_entryView_idle hidle, hq, hstops]
    rfl
  · have hkept : stopIfIdle (passProtected s) i r = r := if_neg fun hc => hstop ⟨hheld.symm.trans hc.2.1, hc.2.2⟩
    rw [hkept] at hstops
    have hsame := hq.trans (hstops.trans hview)
    rw [if_neg hstop, setIfChanged_entryView_self (v := v) (issued := s.disp.setpoints[i].bind Setpoint.issued)
      ((congrArg (fun e => e.work.state) hsame).trans hrun) (congrArg EntryView.setpoint hsame), hsame]
    rfl

end Acted

end Sys2Proof.Machine
end

section
/-! SUPPORT. The STARTs of a pass (R132, R133), and the whole pass, entry by entry. -/

namespace Sys2Proof.Machine

/-! ### What R132 asks -/

/-- The changeover record allows a START of a kind (R132). -/
def changeoverAllows (s : State) (kind : TrainKind) : Prop :=
  s.disp.changeKind = none ∨ s.disp.changeKind = some kind ∨ s.cfg.site.changeoverGap ≤ s.disp.changeCount

/-- An entry stands in STARTING, RUNNING or STOPPING. -/
def isMoving (s : State) (i : Fin 8) : Prop :=
  s.trains[i].state = .starting ∨ s.trains[i].state = .running ∨ s.trains[i].state = .stopping

theorem eq_other_iff {k kind : TrainKind} : k = kind.other ↔ k ≠ kind := by cases k <;> cases kind <;> decide

theorem anyMoving_other_eq_false (s : State) (kind : TrainKind) :
    anyMoving s kind.other = false ↔ ∀ j : Fin 8, s.cfg.trains[j].kind ≠ kind → ¬isMoving s j := by
  rw [← Bool.not_eq_true, anyMoving_iff]
  simp only [eq_other_iff, not_exists, not_and]
  rfl

theorem startAllowed_iff (s : State) (kind : TrainKind) : startAllowed s kind = true ↔
    s.disp.trip = false ∧ anyMoving s kind.other = false ∧ changeoverAllows s kind ∧ banAgainst s kind = false ∧
      (kind = .expander → s.disp.expanderHold = false) ∧ s.engine.live ≠ none := by
  simp only [startAllowed, changeoverAllows, Bool.and_eq_true, Bool.or_eq_true, Bool.not_eq_true', decide_eq_true_iff,
    Option.isSome_iff_ne_none, and_assoc, or_assoc]
  cases kind <;> simp

/-! ### STARTs move entries from READY to STARTING alone -/

/-- Nothing but STARTs lies between two states of a pass. -/
structure OnlyStarts (s t : State) : Prop where
  backdrop : t.backdrop = s.backdrop
  changeKind : t.disp.changeKind = s.disp.changeKind
  changeCount : t.disp.changeCount = s.disp.changeCount
  moves : ∀ i : Fin 8, t.trains[i].state = s.trains[i].state ∨
    (s.trains[i].state = .ready ∧ t.trains[i].state = .starting)

namespace OnlyStarts
variable {s t u : State}

protected theorem refl (s : State) : OnlyStarts s s := ⟨rfl, rfl, rfl, fun _ => .inl rfl⟩

protected theorem trans (h : OnlyStarts s t) (h' : OnlyStarts t u) : OnlyStarts s u where
  backdrop := h'.backdrop.trans h.backdrop
  changeKind := h'.changeKind.trans h.changeKind
  changeCount := h'.changeCount.trans h.changeCount
  moves i := by
    rcases h.moves i with hst | ⟨hs, ht⟩ <;> rcases h'.moves i with htu | ⟨ht', hu⟩
    · exact .inl (htu.trans hst)
    · exact .inr ⟨hst.symm.trans ht', hu⟩
    · exact .inr ⟨hs, htu.trans ht⟩
    · exact .inr ⟨hs, hu⟩

theorem isMoving (h : OnlyStarts s t) {i : Fin 8} (hi : isMoving s i) : Machine.isMoving t i := by
  rcases h.moves i with hst | ⟨-, ht⟩
  · simpa only [Machine.isMoving, hst] using hi
  · exact .inl ht

theorem anyMoving_other (h : OnlyStarts s t) {kind : TrainKind} (ht : anyMoving t kind.other = false) :
    anyMoving s kind.other = false := by
  rw [anyMoving_other_eq_false] at ht ⊢
  rw [cfg_of_backdrop h.backdrop] at ht
  exact fun j hj hm => ht j hj (h.isMoving hm)

theorem changeoverAllows_iff (h : OnlyStarts s t) (kind : TrainKind) :
    changeoverAllows t kind ↔ changeoverAllows s kind := by
  simp only [changeoverAllows, h.changeKind, h.changeCount, cfg_of_backdrop h.backdrop]

/-- STARTs change nothing of what R132 asks but for the entries that move. -/
theorem startAllowed_iff (h : OnlyStarts s t) {kind : TrainKind} (hm : anyMoving t kind.other = anyMoving s kind.other) :
    startAllowed t kind = true ↔ startAllowed s kind = true := by
  rw [Machine.startAllowed_iff, Machine.startAllowed_iff, hm, h.changeoverAllows_iff, trip_of_backdrop h.backdrop,
    banAgainst_of_backdrop h.backdrop, expanderHold_of_backdrop h.backdrop, live_of_backdrop h.backdrop]

end OnlyStarts

section Start
variable (before : State) (i : Fin 8) (s : State)

theorem startTrain_state_self : (startTrain i s).trains[i].state = .starting :=
  congrArg (fun e => e.work.state) startTrain_entryView_self

theorem startTrain_state_other {j : Fin 8} (h : j ≠ i) : (startTrain i s).trains[j] = s.trains[j] :=
  congrArg EntryView.work (startTrain_entryView_other h)

theorem startTrain_changeover (h : s.trains[i].state = .ready) :
    (startTrain i s).disp.changeKind = s.disp.changeKind ∧ (startTrain i s).disp.changeCount = s.disp.changeCount := by
  have hmove := moveTrain_changeover s i .starting (startTimer i s)
  rw [if_neg fun hc => nomatch (show TrainState.ready = .running from h.symm.trans hc.1)] at hmove
  exact ⟨congrArg Prod.fst hmove, congrArg Prod.snd hmove⟩

theorem startTrain_onlyStarts (h : s.trains[i].state = .ready) : OnlyStarts s (startTrain i s) := by
  obtain ⟨hkind, hcount⟩ := startTrain_changeover i s h
  refine ⟨?_, hkind, hcount, fun j => ?_⟩
  · exact moveTrain_backdrop (new := .starting) (timer := startTimer i s) (by rw [h]; rfl) rfl
  · by_cases hj : j = i
    · exact .inr ⟨hj ▸ h, hj ▸ startTrain_state_self i s⟩
    · exact .inl (by rw [startTrain_state_other i s hj])

theorem startIfNeeded_onlyStarts : OnlyStarts s (startIfNeeded before i s) := by
  unfold startIfNeeded
  split
  · rename_i h
    exact startTrain_onlyStarts i s h.1
  · exact .refl s

theorem foldl_startIfNeeded_onlyStarts (l : List (Fin 8)) : OnlyStarts s (l.foldl (fun s j => startIfNeeded before j s) s) :=
  foldl_invariant (OnlyStarts s) _ (fun r j h => h.trans (startIfNeeded_onlyStarts before j r)) l s (.refl s)

/-- A START of a kind finds no entry of the other kind moving and leaves none (R132). -/
theorem startTrain_alone {kind : TrainKind} (hready : s.trains[i].state = .ready) (hkind : s.cfg.trains[i].kind = kind)
    (hother : anyMoving s kind.other = false) :
    anyMoving (startTrain i s) kind = true ∧ anyMoving (startTrain i s) kind.other = false := by
  have hcfg := cfg_of_backdrop (startTrain_onlyStarts i s hready).backdrop
  rw [anyMoving_other_eq_false] at hother ⊢
  rw [anyMoving_iff, hcfg]
  refine ⟨⟨i, hkind, .inl (startTrain_state_self i s)⟩, fun j hj hm => ?_⟩
  have hne : j ≠ i := fun e => hj (e ▸ hkind)
  exact hother j hj (by simpa only [isMoving, startTrain_state_other i s hne] using hm)

/-- Where entries of one kind alone move, STARTs keep it so (R132). -/
theorem startIfNeeded_keeps_alone {kind : TrainKind} (h : anyMoving s kind = true ∧ anyMoving s kind.other = false) :
    anyMoving (startIfNeeded before i s) kind = true ∧ anyMoving (startIfNeeded before i s) kind.other = false := by
  unfold startIfNeeded
  split
  · rename_i hc
    obtain ⟨hready, -, hallowed⟩ := hc
    have hnone := ((startAllowed_iff s _).1 hallowed).2.1
    have hkind : s.cfg.trains[i].kind = kind := by
      by_contra hne
      rw [eq_other_iff.2 hne] at hnone
      cases kind <;> simp only [TrainKind.other] at hnone h <;> simp [hnone] at h
    exact startTrain_alone i s hready hkind h.2
  · exact h

end Start

/-! ### The whole pass, entry by entry -/

section Pass
variable (s : State) {i : Fin 8}

theorem passSet_state_ne_ready (h : s.trains[i].state ≠ .ready) : (passSet s).trains[i].state ≠ .ready := by
  by_cases hrun : s.trains[i].state = .running
  · obtain ⟨v, hv, -⟩ := passAllocation_lookup_some s hrun
    have hview := passSet_entryView_running s hrun hv
    have hstate := congrArg (fun e => e.work.state) hview
    split at hstate
    · intro hr
      exact nomatch (show TrainState.ready = .stopping from hr.symm.trans hstate)
    · exact fun hr => h (show (s.entryView i).work.state = .ready from hstate.symm.trans hr)
  · have hview := passSet_entryView_idle s hrun
    have hstate : (passSet s).trains[i].state = s.trains[i].state := congrArg (fun e => e.work.state) hview
    rwa [hstate]

/-- STARTs leave an entry that is not in READY as it was. -/
theorem recomputeOnce_entryView_of_not_ready (h : s.trains[i].state ≠ .ready) :
    (recomputeOnce s).entryView i = (passSet s).entryView i := by
  obtain ⟨r, -, hr, heq⟩ := inMerit_entryView (i := i) (f := startIfNeeded (passSet s))
    (fun j s => startIfNeeded_backdrop s _ j) (fun j hj s => startIfNeeded_entryView_other hj _) (passSet s)
  have hstate : r.trains[i].state ≠ .ready := by
    rw [work_of_entryView _ hr]
    exact passSet_state_ne_ready s h
  have hkept : startIfNeeded (passSet s) i r = r := if_neg fun hc => hstate hc.1
  rw [recomputeOnce_eq, heq, hkept, hr]

/-- A pass leaves an entry outside READY and RUNNING as it was, but for a LOST one's value. -/
theorem recomputeOnce_entryView_idle (hrun : s.trains[i].state ≠ .running) (hready : s.trains[i].state ≠ .ready) :
    (recomputeOnce s).entryView i = { s.entryView i with setpoint := cutSetpoint s i } := by
  rw [recomputeOnce_entryView_of_not_ready s hready, passSet_entryView_idle s hrun]

/-- A pass sends a RUNNING entry that is given nothing and keeps no protection to STOPPING; any other holds its new value. -/
theorem recomputeOnce_entryView_running {v : Nat} (hrun : s.trains[i].state = .running)
    (hv : (passAllocation s).lookup i = some v) :
    (recomputeOnce s).entryView i = if v = 0 ∧ i ∉ passProtected s then (s.entryView i).stopped i (stopTimer i s)
      else (s.entryView i).holding i v := by
  rw [recomputeOnce_entryView_of_not_ready s (by rw [hrun]; decide), passSet_entryView_running s hrun hv]

/-- A pass starts a READY entry exactly where it is needed and R132 allows it once the pass is over. -/
theorem recomputeOnce_entryView_ready (hready : s.trains[i].state = .ready) :
    (recomputeOnce s).entryView i =
      if neededAhead (passSet s) i = true ∧ startAllowed (recomputeOnce s) s.cfg.trains[i].kind = true then
        (s.entryView i).started i (startTimer i s)
      else s.entryView i := by
  obtain ⟨l, l', hl, hl', hsplit⟩ := inMerit_split (passSet s) i
  have heq := hsplit (startIfNeeded (passSet s))
  rw [← recomputeOnce_eq] at heq
  set kind := s.cfg.trains[i].kind with hkind
  have hbefore := foldl_startIfNeeded_onlyStarts (passSet s) (passSet s) l
  have hview : (l.foldl (fun r j => startIfNeeded (passSet s) j r) (passSet s)).entryView i = s.entryView i := by
    rw [foldl_entryView (fun j hj s => startIfNeeded_entryView_other hj _) hl,
      passSet_entryView_idle s (by rw [hready]; decide), cutSetpoint_of_not_lost s (by rw [hready]; decide)]
    rfl
  generalize l.foldl (fun r j => startIfNeeded (passSet s) j r) (passSet s) = r at heq hbefore hview
  have hback : r.backdrop = s.backdrop := hbefore.backdrop.trans (passSet_backdrop s)
  have hafter := foldl_startIfNeeded_onlyStarts (passSet s) (startIfNeeded (passSet s) i r) l'
  have hend : (recomputeOnce s).entryView i = (startIfNeeded (passSet s) i r).entryView i := by
    rw [heq, foldl_entryView (fun j hj s => startIfNeeded_entryView_other hj _) hl']
  have hover := (startIfNeeded_onlyStarts (passSet s) i r).trans hafter
  rw [← heq] at hover
  have hstate : r.trains[i].state = .ready := (congrArg (fun e => e.work.state) hview).trans hready
  have hkindr : r.cfg.trains[i].kind = kind := by rw [cfg_of_backdrop hback]
  by_cases hstart : neededAhead (passSet s) i = true ∧ startAllowed r kind = true
  · have hstarted : startIfNeeded (passSet s) i r = startTrain i r := if_pos ⟨hstate, by rwa [hkindr]⟩
    have hnone := ((startAllowed_iff r kind).1 hstart.2).2.1
    have halone := startTrain_alone i r hstate hkindr hnone
    have hkept := foldl_invariant (fun t => anyMoving t kind = true ∧ anyMoving t kind.other = false) _
      (fun t j h => startIfNeeded_keeps_alone (passSet s) j t h) l' _ halone
    rw [← hstarted, ← heq] at hkept
    rw [if_pos ⟨hstart.1, (hover.startAllowed_iff (hkept.2.trans hnone.symm)).2 hstart.2⟩, hend, hstarted,
      startTrain_entryView_self, startTimer_congr _ hback, hview]
  · have hkept : startIfNeeded (passSet s) i r = r := if_neg fun hc => hstart (hkindr ▸ hc.2)
    rw [if_neg, hend, hkept, hview]
    rintro ⟨hneeded, hallowed⟩
    have hnone := ((startAllowed_iff _ kind).1 hallowed).2.1
    exact hstart ⟨hneeded, (hover.startAllowed_iff (hnone.trans (hover.anyMoving_other hnone).symm)).1 hallowed⟩

end Pass

end Sys2Proof.Machine
end

section
/-! SUPPORT. Recomputes that follow one another (R134; log entry 11): each that moves an entry leaves fewer that can move, so that
the last one moves none. -/

namespace Sys2Proof.Machine

theorem trainStates_eq_forall (s t : State) :
    trainStates t = trainStates s ↔ ∀ i : Fin 8, t.trains[i].state = s.trains[i].state := by
  simp only [trainStates, List.map_inj_left, List.mem_finRange, forall_const]

section Moves
variable (s : State) (i : Fin 8)

/-- A pass moves an entry from READY to STARTING, from RUNNING to STOPPING, or not at all. -/
theorem recomputeOnce_state : (recomputeOnce s).trains[i].state = s.trains[i].state ∨
    (s.trains[i].state = .ready ∧ (recomputeOnce s).trains[i].state = .starting) ∨
    (s.trains[i].state = .running ∧ (recomputeOnce s).trains[i].state = .stopping) := by
  by_cases hready : s.trains[i].state = .ready
  · have hstate := congrArg (fun e => e.work.state) (recomputeOnce_entryView_ready s hready)
    split at hstate
    · exact .inr (.inl ⟨hready, hstate⟩)
    · exact .inl hstate
  by_cases hrun : s.trains[i].state = .running
  · obtain ⟨v, hv, -⟩ := passAllocation_lookup_some s hrun
    have hstate := congrArg (fun e => e.work.state) (recomputeOnce_entryView_running s hrun hv)
    split at hstate
    · exact .inr (.inr ⟨hrun, hstate⟩)
    · exact .inl hstate
  · exact .inl (congrArg (fun e => e.work.state) (recomputeOnce_entryView_idle s hrun hready))

/-- The entries that a pass could move. -/
def movable : Finset (Fin 8) :=
  Finset.univ.filter fun i => s.trains[i].state = .ready ∨ s.trains[i].state = .running

theorem movable_card_lt (h : trainStates (recomputeOnce s) ≠ trainStates s) :
    (movable (recomputeOnce s)).card < (movable s).card := by
  rw [ne_eq, trainStates_eq_forall, not_forall] at h
  obtain ⟨i, hi⟩ := h
  have hmoves := recomputeOnce_state s
  refine Finset.card_lt_card ((Finset.ssubset_iff_of_subset fun j hj => ?_).2 ⟨i, ?_, ?_⟩) <;>
    simp only [movable, Finset.mem_filter, Finset.mem_univ, true_and] at *
  · rcases hmoves j with h | ⟨h, -⟩ | ⟨h, -⟩
    · rwa [← h]
    · exact .inl h
    · exact .inr h
  · exact ((hmoves i).resolve_left hi).imp And.left And.left
  · rcases (hmoves i).resolve_left hi with ⟨-, h⟩ | ⟨-, h⟩ <;> rw [h] <;> decide

end Moves

theorem recomputeUpTo_of_still {s : State} (h : trainStates (recomputeOnce s) = trainStates s) (n : Nat) :
    recomputeUpTo (n + 1) s = recomputeOnce s := by
  simp only [recomputeUpTo, if_pos h]

theorem recomputeUpTo_of_moved {s : State} (h : trainStates (recomputeOnce s) ≠ trainStates s) (n : Nat) :
    recomputeUpTo (n + 1) s = recomputeUpTo n (recomputeOnce s) := by
  simp only [recomputeUpTo, if_neg h]

theorem recompute_of_still {s : State} (h : trainStates (recomputeOnce s) = trainStates s) : recompute s = recomputeOnce s :=
  recomputeUpTo_of_still h 8

/-- More recomputes than there are entries to move change nothing. -/
theorem recomputeUpTo_eq {s : State} {m n : Nat} (hm : (movable s).card < m) (hn : (movable s).card < n) :
    recomputeUpTo m s = recomputeUpTo n s := by
  induction m generalizing s n with
  | zero => omega
  | succ m ih =>
    obtain ⟨n, rfl⟩ := Nat.exists_eq_succ_of_ne_zero (Nat.ne_of_gt (Nat.zero_lt_of_lt hn))
    by_cases h : trainStates (recomputeOnce s) = trainStates s
    · rw [recomputeUpTo_of_still h, recomputeUpTo_of_still h]
    · have := movable_card_lt s h
      rw [recomputeUpTo_of_moved h, recomputeUpTo_of_moved h]
      exact ih (by omega) (by omega)

/-- A recompute that moves an entry is followed by another (R134). -/
theorem recompute_of_moved {s : State} (h : trainStates (recomputeOnce s) ≠ trainStates s) :
    recompute s = recompute (recomputeOnce s) := by
  have hle : (movable s).card ≤ 8 := Finset.card_le_univ _
  have hlt := movable_card_lt s h
  have hstep : recompute s = recomputeUpTo 8 (recomputeOnce s) := recomputeUpTo_of_moved h 8
  exact hstep.trans (recomputeUpTo_eq (by omega) (by omega))

/-- A recompute ends with a pass that moves no entry, on a state that the passes before it lead to. -/
theorem recompute_last {P : State → Prop} (hP : ∀ s, P s → P (recomputeOnce s)) {s : State} (hs : P s) :
    ∃ r, P r ∧ recompute s = recomputeOnce r ∧ trainStates (recomputeOnce r) = trainStates r := by
  induction hn : (movable s).card using Nat.strong_induction_on generalizing s with
  | _ n ih =>
    by_cases h : trainStates (recomputeOnce s) = trainStates s
    · exact ⟨s, hs, recompute_of_still h, h⟩
    · obtain ⟨r, hr, heq, hstill⟩ := ih _ (hn ▸ movable_card_lt s h) (hP s hs) rfl
      exact ⟨r, hr, (recompute_of_moved h).trans heq, hstill⟩

end Sys2Proof.Machine
end

section
/-! SUPPORT. What the invariants of the trains' directions and of the setpoints speak of, and the moves that keep them (R98, R100, R105,
R129, R132, R179). -/

namespace Sys2Proof.Machine

/-! ### The fleet -/

/-- What the invariants of directions and setpoints speak of: each entry's state, held value, settings and poll mark, the site
values, the transaction in flight by its entry, and the ratings in the settings store. -/
structure Fleet where
  state : Fin 8 → TrainState
  held : Fin 8 → Option Nat
  cfg : Vector TrainCfg 8
  site : SiteCfg
  polled : Fin 8 → Bool
  slot : Option (Option (Fin 8) × Bool)
  saving : Option (Vector TrainCfg 8)
  image : Option (Vector TrainCfg 8)

/-- The fleet of a state. -/
def State.fleet (s : State) : Fleet where
  state i := s.trains[i].state
  held i := s.disp.setpoints[i].map Setpoint.held
  cfg := s.cfg.trains
  site := s.cfg.site
  polled i := s.link.polls[i].isSome
  slot := s.link.slot.map fun t => (t.entry, t.disowned)
  saving := s.nv.saving.map Settings.trains
  image := s.nv.image.map Settings.trains

section Fields
variable (s : State) (i : Fin 8)

theorem fleet_state : s.fleet.state i = s.trains[i].state := rfl
theorem fleet_held : s.fleet.held i = s.disp.setpoints[i].map Setpoint.held := rfl
theorem fleet_cfg : s.fleet.cfg = s.cfg.trains := rfl

end Fields

namespace Fleet
variable (f : Fleet)

/-- An entry is in STARTING or RUNNING. -/
def up (i : Fin 8) : Prop := f.state i = .starting ∨ f.state i = .running

/-- No entry of another kind than entry `i`'s is up. -/
def clearFor (i : Fin 8) : Prop := ∀ j, f.up j → f.cfg[j].kind = f.cfg[i].kind

/-- What an entry adds to the held values of a kind: its held value in RUNNING and LOST (R128). -/
def counted (kind : TrainKind) (i : Fin 8) : Nat :=
  if f.cfg[i].kind = kind ∧ (f.state i = .running ∨ f.state i = .lost) then (f.held i).getD 0 else 0

/-- The summed held values of a kind's entries in RUNNING and LOST (R128). -/
def heldSum (kind : TrainKind) : Nat := ((List.finRange 8).map (f.counted kind)).sum

/-- What ties the roster to its settings and to the link (R98, R100, R179). -/
structure Linked : Prop where
  unconfigured : ∀ i : Fin 8, f.cfg[i].configured = false → f.state i = .absent
  polled : ∀ i, f.polled i = true → (f.state i).bound = true
  inFlight : ∀ i : Fin 8, f.slot = some (some i, false) → f.cfg[i].configured = true

/-- R132: entries that are up are of one kind. -/
def Unopposed : Prop := ∀ i j : Fin 8, f.up i → f.up j → f.cfg[i].kind = f.cfg[j].kind

/-- A value that an entry may hold (R128). -/
def holds (i : Fin 8) (v : Nat) : Prop := v = 0 ∨ (f.cfg[i].minStableKw ≤ v ∧ v ≤ f.cfg[i].ratedKw)

/-- R129: where setpoints stand, and what a STARTING entry holds. -/
structure Standing : Prop where
  placed : ∀ i v, f.held i = some v → (f.state i).keepsSetpoint = true
  starting : ∀ i v, f.held i = some v → f.state i = .starting → v = 0

/-- R96, R99: the ratings in working memory and in the settings store stand in order. -/
structure Rated : Prop where
  ratings : ratingsSound f.cfg
  saving : ∀ c, f.saving = some c → ratingsSound c
  image : ∀ c, f.image = some c → ratingsSound c

/-- R128: what a recompute brings about: the bands and the grid limits. -/
structure Bounded : Prop where
  inBand : ∀ i v, f.held i = some v → f.holds i v
  withinGrid : ∀ kind, f.heldSum kind ≤ gridLimit f.site kind

end Fleet

theorem heldSum_fleet (s : State) (kind : TrainKind) : s.fleet.heldSum kind = heldOfKind s kind := by
  have h := List.sum_map_ite (fun i : Fin 8 => s.cfg.trains[i].kind = kind ∧
    (s.trains[i].state = .running ∨ s.trains[i].state = .lost)) (heldOf s) (fun _ => 0) (List.finRange 8)
  simp only [List.map_const', List.sum_replicate, smul_zero, add_zero] at h
  refine Eq.trans h (congrArg (fun l => (l.map (heldOf s)).sum) (List.filter_congr fun i _ => ?_))
  rw [Bool.eq_iff_iff, decide_eq_true_iff, Bool.or_eq_true, isIn_iff, isIn_iff, ← and_or_left]

theorem directionsSound_iff (s : State) : DirectionsSound s ↔ s.fleet.Linked ∧ s.fleet.Unopposed := by
  constructor
  · rintro ⟨hup, hconf, hpoll, hslot⟩
    refine ⟨⟨hconf, hpoll, fun i hi => ?_⟩, hup⟩
    obtain ⟨t, ht, heq⟩ := Option.map_eq_some_iff.1 hi
    exact hslot t i ht (congrArg Prod.fst heq) (congrArg Prod.snd heq)
  · rintro ⟨⟨hconf, hpoll, hslot⟩, hup⟩
    refine ⟨hup, hconf, hpoll, fun t i ht he hd => hslot i ?_⟩
    simp only [State.fleet, ht, Option.map_some, he, hd]

theorem setpointsSound_iff (s : State) : SetpointsSound s ↔ s.fleet.Linked ∧ s.fleet.Standing ∧ s.fleet.Rated ∧ s.fleet.Bounded := by
  have hheld : ∀ i v, s.fleet.held i = some v ↔ ∃ sp, s.disp.setpoints[i] = some sp ∧ sp.held = v := fun i v =>
    Option.map_eq_some_iff
  have hstore : ∀ (o : Option Settings), (∀ c, o.map Settings.trains = some c → ratingsSound c) ↔
      ∀ c, o = some c → ratingsSound c.trains := fun o => by cases o <;> simp
  constructor
  · rintro ⟨hplaced, hstart, hband, hgrid, hconf, hpoll, hslot, hratings, hsaving, himage⟩
    refine ⟨⟨hconf, hpoll, fun i hi => ?_⟩, ⟨?_, ?_⟩,
      ⟨hratings, (hstore _).2 hsaving, (hstore _).2 himage⟩, ?_, ?_⟩
    · obtain ⟨t, ht, heq⟩ := Option.map_eq_some_iff.1 hi
      exact hslot t i ht (congrArg Prod.fst heq) (congrArg Prod.snd heq)
    · rintro i v hv
      obtain ⟨sp, hsp, rfl⟩ := (hheld i v).1 hv
      exact hplaced i sp hsp
    · rintro i v hv
      obtain ⟨sp, hsp, rfl⟩ := (hheld i v).1 hv
      exact hstart i sp hsp
    · rintro i v hv
      obtain ⟨sp, hsp, rfl⟩ := (hheld i v).1 hv
      exact hband i sp hsp
    · intro kind
      rw [heldSum_fleet]
      exact hgrid kind
  · rintro ⟨⟨hconf, hpoll, hslot⟩, ⟨hplaced, hstart⟩, ⟨hratings, hsaving, himage⟩, hband, hgrid⟩
    refine ⟨fun i sp h => hplaced i _ ((hheld i _).2 ⟨sp, h, rfl⟩), fun i sp h => hstart i _ ((hheld i _).2 ⟨sp, h, rfl⟩),
      fun i sp h => hband i _ ((hheld i _).2 ⟨sp, h, rfl⟩), fun kind => ?_, hconf, hpoll, fun t i ht he hd => hslot i ?_,
      hratings, (hstore _).1 hsaving, (hstore _).1 himage⟩
    · rw [← heldSum_fleet]
      exact hgrid kind
    · simp only [State.fleet, ht, Option.map_some, he, hd]

/-! ### The moves -/

namespace Fleet
variable (f : Fleet)

/-- An entry enters a state: its setpoint and its poll mark follow (R129, R179). -/
def enter (i : Fin 8) (new : TrainState) : Fleet :=
  { f with
    state := Function.update f.state i new
    held := if new.keepsSetpoint then f.held else Function.update f.held i none
    polled := if new.bound then if (f.state i).bound then f.polled else Function.update f.polled i true
      else Function.update f.polled i false }

/-- A held value that stands becomes 0. -/
def release (i : Fin 8) : Fleet := { f with held := Function.update f.held i ((f.held i).map fun _ => 0) }

/-- What a pass of a recompute makes of an entry (R129, R132). -/
inductive PassEntry (f g : Fleet) (i : Fin 8) : Prop
  | keeps (hstate : g.state i = f.state i) (hrun : f.state i ≠ .running)
      (hheld : g.held i = f.held i ∨ (f.state i = .lost ∧ g.held i = (f.held i).map fun _ => 0))
  | starts (hold : f.state i = .ready) (hnew : g.state i = .starting) (hheld : g.held i = some 0) (hclear : g.clearFor i)
  | stops (hold : f.state i = .running) (hnew : g.state i = .stopping) (hheld : g.held i = none)
  | allocated (hold : f.state i = .running) (hnew : g.state i = .running) (v : Nat) (hheld : g.held i = some v)
      (hband : ratingsSound f.cfg → f.holds i v)

/-- What a pass of a recompute makes of a fleet. -/
structure Pass (f g : Fleet) : Prop where
  rest : { g with state := f.state, held := f.held } = f
  entry : ∀ i, PassEntry f g i
  withinGrid : ∀ kind, g.heldSum kind ≤ gridLimit f.site kind

/-- The moves of a fleet beside a change of its settings: what every event that is not SET_TRAIN, SET_SITE or a reset is made
of. -/
inductive Move : Fleet → Fleet → Prop
  | enters (f : Fleet) (i : Fin 8) (new : TrainState) (hconf : f.cfg[i].configured = true ∨ new = .absent)
      (hdown : new ≠ .starting ∧ new ≠ .running) : Move f (f.enter i new)
  | runs (f : Fleet) (i : Fin 8) (hold : f.state i = .starting ∨ (f.state i = .lost ∧ f.clearFor i)) :
      Move f (f.enter i .running)
  | restarts (f : Fleet) (i : Fin 8) (hold : f.state i = .lost) (hclear : f.clearFor i) :
      Move f ((f.enter i .starting).release i)
  | releases (f : Fleet) (held : Fin 8 → Option Nat)
      (h : ∀ i, held i = f.held i ∨ (f.state i = .lost ∧ held i = (f.held i).map fun _ => 0)) : Move f { f with held := held }
  | rerates (f : Fleet) (i : Fin 8) (c : TrainCfg) (hplace : c.configured = f.cfg[i].configured ∧ c.kind = f.cfg[i].kind)
      (hratings : f.cfg[i].minStableKw ≤ f.cfg[i].ratedKw → c.minStableKw ≤ c.ratedKw)
      (hunbound : (f.state i).bound = false) : Move f { f with cfg := f.cfg.set i c }
  | sends (f : Fleet) (slot : Option (Option (Fin 8) × Bool))
      (h : ∀ i : Fin 8, slot = some (some i, false) → f.cfg[i].configured = true) : Move f { f with slot := slot }
  | stores (f : Fleet) (saving image : Option (Vector TrainCfg 8))
      (hsaving : ∀ c, saving = some c → c = f.cfg ∨ f.saving = some c)
      (himage : ∀ c, image = some c → f.saving = some c ∨ f.image = some c) :
      Move f { f with saving := saving, image := image }
  | passes (f g : Fleet) (h : Pass f g) : Move f g

end Fleet

end Sys2Proof.Machine
end

section
/-! SUPPORT. What every move of a fleet keeps: the ties of the roster, the directions (R132) and the setpoints (R128, R129). -/

namespace Sys2Proof.Machine

namespace Fleet
variable {f g : Fleet}

theorem clearFor_of_unopposed {i : Fin 8} (h : f.Unopposed) (hi : f.up i) : f.clearFor i := fun j hj => h j i hj hi

theorem Pass.cfg (h : Pass f g) : g.cfg = f.cfg := congrArg (·.cfg) h.rest
theorem Pass.site (h : Pass f g) : g.site = f.site := congrArg (·.site) h.rest
theorem Pass.polled (h : Pass f g) : g.polled = f.polled := congrArg (·.polled) h.rest
theorem Pass.slot (h : Pass f g) : g.slot = f.slot := congrArg (·.slot) h.rest
theorem Pass.saving (h : Pass f g) : g.saving = f.saving := congrArg (·.saving) h.rest
theorem Pass.image (h : Pass f g) : g.image = f.image := congrArg (·.image) h.rest

/-- A pass leaves an ABSENT entry ABSENT and a bound one bound. -/
theorem Pass.state (h : Pass f g) (i : Fin 8) :
    (f.state i = .absent → g.state i = .absent) ∧ ((f.state i).bound = true → (g.state i).bound = true) := by
  cases h.entry i with
  | keeps hstate => rw [hstate]; exact ⟨id, id⟩
  | starts hold hnew => rw [hold, hnew]; decide
  | stops hold hnew => rw [hold, hnew]; decide
  | allocated hold hnew => rw [hold, hnew]; decide

theorem state_enter (i j : Fin 8) (new : TrainState) : (f.enter i new).state j = if j = i then new else f.state j :=
  Function.update_apply ..

theorem configured_of_not_absent (h : f.Linked) {i : Fin 8} (hi : f.state i ≠ .absent) : f.cfg[i].configured = true := by
  by_contra hc
  exact hi (h.unconfigured i (Bool.eq_false_iff.2 hc))

theorem Linked.enter (h : f.Linked) {i : Fin 8} {new : TrainState} (hconf : f.cfg[i].configured = true ∨ new = .absent) :
    (f.enter i new).Linked where
  unconfigured j hj := by
    rw [state_enter]
    split
    · rename_i he
      subst he
      exact hconf.resolve_left fun hc => by rw [show (f.enter j new).cfg = f.cfg from rfl, hc] at hj; exact Bool.noConfusion hj
    · exact h.unconfigured j hj
  polled j hj := by
    rw [state_enter]
    simp only [Fleet.enter] at hj
    split
    · rename_i he
      subst he
      by_contra hb
      simp [hb] at hj
    · rename_i he
      refine h.polled j ?_
      split_ifs at hj <;> simpa only [Function.update_of_ne he] using hj
  inFlight := h.inFlight

theorem Linked.move (h : f.Linked) (hm : Move f g) : g.Linked := by
  cases hm with
  | enters i new hconf hdown => exact h.enter hconf
  | runs i hold =>
    refine h.enter (.inl (configured_of_not_absent h ?_))
    rcases hold with hold | ⟨hold, -⟩ <;> rw [hold] <;> decide
  | restarts i hold hclear =>
    have := h.enter (i := i) (new := .starting) (.inl (configured_of_not_absent h (by rw [hold]; decide)))
    exact ⟨this.unconfigured, this.polled, this.inFlight⟩
  | releases held _ => exact ⟨h.unconfigured, h.polled, h.inFlight⟩
  | rerates i c hplace _ _ =>
    have hconf : ∀ j : Fin 8, (f.cfg.set i c)[j].configured = f.cfg[j].configured := fun j => by
      by_cases hj : j = i
      · subst hj
        rw [getElem_set_same, hplace.1]
      · rw [getElem_set_other _ _ hj]
    exact ⟨fun j hj => h.unconfigured j ((hconf j).symm.trans hj), h.polled, fun j hj => (hconf j).trans (h.inFlight j hj)⟩
  | sends slot hslot => exact ⟨h.unconfigured, h.polled, hslot⟩
  | stores saving image _ _ => exact ⟨h.unconfigured, h.polled, h.inFlight⟩
  | passes g hp =>
    refine ⟨fun i hi => (hp.state i).1 (h.unconfigured i (hp.cfg ▸ hi)), fun i hi => (hp.state i).2 (h.polled i (hp.polled ▸ hi)),
      fun i hi => ?_⟩
    rw [hp.cfg]
    exact h.inFlight i (hp.slot ▸ hi)

/-- An entry that goes up where no other kind is up, or that was up, keeps the directions apart. -/
theorem Unopposed.of_up_or (h : f.Unopposed) {i : Fin 8} (hcfg : g.cfg = f.cfg)
    (hup : ∀ j, g.up j → f.up j ∨ j = i) (hi : f.up i ∨ f.clearFor i) : g.Unopposed := by
  have hclear : f.clearFor i := hi.elim (clearFor_of_unopposed h) id
  intro j k hj hk
  rw [hcfg]
  rcases hup j hj with hj | rfl <;> rcases hup k hk with hk | rfl
  · exact h j k hj hk
  · exact hclear j hj
  · exact (hclear k hk).symm
  · rfl

theorem up_enter_of_down {i j : Fin 8} {new : TrainState} (hdown : new ≠ .starting ∧ new ≠ .running)
    (h : (f.enter i new).up j) : f.up j := by
  simp only [up, state_enter] at h
  split at h
  · exact absurd h (not_or.2 hdown)
  · exact h

theorem up_enter {i j : Fin 8} {new : TrainState} (h : (f.enter i new).up j) : f.up j ∨ j = i := by
  simp only [up, state_enter] at h
  split at h
  · rename_i he
    exact .inr he
  · exact .inl h

theorem Unopposed.move (h : f.Unopposed) (hm : Move f g) : g.Unopposed := by
  cases hm with
  | enters i new hconf hdown => exact fun j k hj hk => h j k (up_enter_of_down hdown hj) (up_enter_of_down hdown hk)
  | runs i hold => exact h.of_up_or (i := i) rfl (fun j hj => up_enter hj) (hold.imp .inl And.right)
  | restarts i hold hclear => exact h.of_up_or (i := i) rfl (fun j hj => up_enter (new := .starting) hj) (.inr hclear)
  | releases held _ => exact h
  | rerates i c hplace _ _ =>
    have hkind : ∀ j : Fin 8, (f.cfg.set i c)[j].kind = f.cfg[j].kind := fun j => by
      by_cases hj : j = i
      · subst hj
        rw [getElem_set_same, hplace.2]
      · rw [getElem_set_other _ _ hj]
    exact fun j k hj hk => (hkind j).trans ((h j k hj hk).trans (hkind k).symm)
  | sends slot _ => exact h
  | stores saving image _ _ => exact h
  | passes g hp =>
    have hcases : ∀ j, g.up j → f.up j ∨ g.clearFor j := fun j hj => by
      cases hp.entry j with
      | keeps hstate => exact .inl (by simpa only [up, hstate] using hj)
      | starts _ _ _ hclear => exact .inr hclear
      | stops hold => exact .inl (.inr hold)
      | allocated hold => exact .inl (.inr hold)
    intro j k hj hk
    rcases hcases j hj with hfj | hcj
    · rcases hcases k hk with hfk | hck
      · rw [hp.cfg]
        exact h j k hfj hfk
      · exact hck j hj
    · exact (hcj k hk).symm


/-! ### Setpoints -/

/-- Where setpoints stand as they may, what an entry holds outside RUNNING and LOST is nothing. -/
theorem counted_eq (h : f.Standing) (kind : TrainKind) (i : Fin 8) :
    f.counted kind i = if f.cfg[i].kind = kind then (f.held i).getD 0 else 0 := by
  unfold counted
  by_cases hkind : f.cfg[i].kind = kind
  · simp only [hkind, true_and, if_true]
    split
    · rfl
    · rename_i hst
      cases hheld : f.held i with
      | none => rfl
      | some v =>
        have hkeeps := (keepsSetpoint_iff _).1 (h.placed i v hheld)
        exact (h.starting i v hheld (hkeeps.resolve_right hst)).symm
  · rw [if_neg fun hc => hkind hc.1, if_neg hkind]

/-- Held values that shrink keep the bands and the grid limits. -/
theorem Bounded.shrink (hf : f.Standing) (hb : f.Bounded) (hg : g.Standing) (hcfg : g.cfg = f.cfg) (hsite : g.site = f.site)
    (h : ∀ i v, g.held i = some v → v = 0 ∨ f.held i = some v) : g.Bounded where
  inBand i v hv := by
    rcases h i v hv with rfl | hv
    · exact .inl rfl
    · simpa only [holds, hcfg] using hb.inBand i v hv
  withinGrid kind := by
    rw [hsite]
    refine le_trans (List.sum_le_sum fun i _ => ?_) (hb.withinGrid kind)
    rw [counted_eq hf, counted_eq hg, hcfg]
    split
    · cases hv : g.held i with
      | none => exact Nat.zero_le _
      | some v =>
        rcases h i v hv with rfl | hv
        · exact Nat.zero_le _
        · rw [hv]
    · exact Nat.le_refl 0

/-- What is held after an entry entered a state was held before. -/
theorem held_enter {i j : Fin 8} {new : TrainState} {v : Nat} (h : (f.enter i new).held j = some v) :
    f.held j = some v ∧ (j = i → new.keepsSetpoint = true) := by
  simp only [enter] at h
  split at h
  · rename_i hk
    exact ⟨h, fun _ => hk⟩
  · rw [Function.update_apply] at h
    split at h
    · exact nomatch h
    · rename_i hj
      exact ⟨h, fun e => absurd e hj⟩

theorem Standing.enter (h : f.Standing) {i : Fin 8} {new : TrainState} (hnew : new ≠ .starting) : (f.enter i new).Standing where
  placed j v hv := by
    obtain ⟨hv, hkeeps⟩ := held_enter hv
    rw [state_enter]
    split
    · rename_i hj
      exact hkeeps hj
    · exact h.placed j v hv
  starting j v hv hst := by
    rw [state_enter] at hst
    split at hst
    · exact absurd hst hnew
    · exact h.starting j v (held_enter hv).1 hst

theorem held_release {i j : Fin 8} {v : Nat} (h : (f.release i).held j = some v) :
    (v = 0 ∧ ∃ w, f.held i = some w) ∧ j = i ∨ f.held j = some v ∧ j ≠ i := by
  simp only [release, Function.update_apply] at h
  split at h
  · rename_i hj
    obtain ⟨w, hw, rfl⟩ := Option.map_eq_some_iff.1 h
    exact .inl ⟨⟨rfl, w, hw⟩, hj⟩
  · rename_i hj
    exact .inr ⟨h, hj⟩

theorem Standing.restart (h : f.Standing) (i : Fin 8) : ((f.enter i .starting).release i).Standing where
  placed j v hv := by
    change ((f.enter i .starting).state j).keepsSetpoint = true
    rw [state_enter]
    rcases held_release hv with ⟨-, rfl⟩ | ⟨hv, hj⟩
    · rw [if_pos rfl]
      rfl
    · rw [if_neg hj]
      exact h.placed j v (held_enter hv).1
  starting j v hv hst := by
    change (f.enter i .starting).state j = .starting at hst
    rw [state_enter] at hst
    rcases held_release hv with ⟨⟨rfl, -⟩, -⟩ | ⟨hv, hj⟩
    · rfl
    · rw [if_neg hj] at hst
      exact h.starting j v (held_enter hv).1 hst

/-- A pass brings the bands and the grid limits about (R128). -/
theorem Pass.bounded (hp : Pass f g) (h : f.Standing) (hr : ratingsSound f.cfg)
    (hlost : ∀ i v, f.held i = some v → f.state i = .lost → f.holds i v) : g.Standing ∧ g.Bounded := by
  have hholds : ∀ i v, g.holds i v ↔ f.holds i v := fun i v => by simp only [holds, hp.cfg]
  refine ⟨⟨fun i v hv => ?_, fun i v hv hst => ?_⟩, ⟨fun i v hv => ?_, fun kind => hp.site ▸ hp.withinGrid kind⟩⟩
  · cases hp.entry i with
    | keeps hstate hrun hheld =>
      rw [hstate]
      rcases hheld with hheld | ⟨hl, -⟩
      · exact h.placed i v (hheld ▸ hv)
      · rw [hl]
        rfl
    | starts hold hnew => rw [hnew]; rfl
    | stops hold hnew hheld => exact nomatch hheld.symm.trans hv
    | allocated hold hnew => rw [hnew]; rfl
  · cases hp.entry i with
    | keeps hstate hrun hheld =>
      rw [hstate] at hst
      rcases hheld with hheld | ⟨hl, -⟩
      · exact h.starting i v (hheld ▸ hv) hst
      · exact nomatch hl.symm.trans hst
    | starts hold hnew hheld => exact (Option.some.inj (hheld.symm.trans hv)).symm
    | stops hold hnew hheld => exact nomatch hheld.symm.trans hv
    | allocated hold hnew => exact nomatch hnew.symm.trans hst
  · rw [hholds]
    cases hp.entry i with
    | keeps hstate hrun hheld =>
      rcases hheld with hheld | ⟨-, hheld⟩
      · have hv' := hheld ▸ hv
        rcases (keepsSetpoint_iff _).1 (h.placed i v hv') with hst | hst | hst
        · exact .inl (h.starting i v hv' hst)
        · exact absurd hst hrun
        · exact hlost i v hv' hst
      · obtain ⟨w, -, rfl⟩ := Option.map_eq_some_iff.1 (hheld.symm.trans hv)
        exact .inl rfl
    | starts hold hnew hheld => exact .inl (Option.some.inj (hheld.symm.trans hv)).symm
    | stops hold hnew hheld => exact nomatch hheld.symm.trans hv
    | allocated hold hnew w hheld hband =>
      obtain rfl := Option.some.inj (hheld.symm.trans hv)
      exact hband hr

/-- The setpoints and the ratings stand as R128 and R129 ask. -/
structure Sound (f : Fleet) : Prop where
  standing : f.Standing
  rated : f.Rated
  bounded : f.Bounded

theorem Pass.sound (hp : Pass f g) (h : f.Standing) (hr : f.Rated)
    (hlost : ∀ i v, f.held i = some v → f.state i = .lost → f.holds i v) : g.Sound := by
  obtain ⟨hstanding, hbounded⟩ := hp.bounded h hr.ratings hlost
  exact ⟨hstanding, ⟨hp.cfg ▸ hr.ratings, hp.saving ▸ hr.saving, hp.image ▸ hr.image⟩, hbounded⟩

theorem Sound.move (h : f.Sound) (hm : Move f g) : g.Sound := by
  obtain ⟨hstanding, hrated, hbounded⟩ := h
  cases hm with
  | enters i new _ hdown =>
    have hg := hstanding.enter (i := i) hdown.1
    exact ⟨hg, ⟨hrated.ratings, hrated.saving, hrated.image⟩,
      hbounded.shrink hstanding hg rfl rfl fun j v hv => .inr (held_enter hv).1⟩
  | runs i _ =>
    have hg := hstanding.enter (i := i) (new := .running) (by decide)
    exact ⟨hg, ⟨hrated.ratings, hrated.saving, hrated.image⟩,
      hbounded.shrink hstanding hg rfl rfl fun j v hv => .inr (held_enter hv).1⟩
  | restarts i _ _ =>
    have hg := hstanding.restart i
    refine ⟨hg, ⟨hrated.ratings, hrated.saving, hrated.image⟩, hbounded.shrink hstanding hg rfl rfl fun j v hv => ?_⟩
    exact (held_release hv).imp (fun h => h.1.1) fun h => (held_enter h.1).1
  | releases held hheld =>
    have hshrink : ∀ i v, held i = some v → (v = 0 ∧ f.state i = .lost) ∨ f.held i = some v := fun i v hv => by
      rcases hheld i with heq | ⟨hl, heq⟩
      · exact .inr (heq ▸ hv)
      · obtain ⟨w, -, rfl⟩ := Option.map_eq_some_iff.1 (heq.symm.trans hv)
        exact .inl ⟨rfl, hl⟩
    have hg : Standing { f with held := held } := by
      refine ⟨fun i v hv => ?_, fun i v hv hst => ?_⟩
      · rcases hshrink i v hv with ⟨-, hl⟩ | hv
        · exact (keepsSetpoint_iff _).2 (.inr (.inr hl))
        · exact hstanding.placed i v hv
      · rcases hshrink i v hv with ⟨rfl, -⟩ | hv
        · rfl
        · exact hstanding.starting i v hv hst
    exact ⟨hg, ⟨hrated.ratings, hrated.saving, hrated.image⟩,
      hbounded.shrink hstanding hg rfl rfl fun i v hv => (hshrink i v hv).imp_left And.left⟩
  | rerates i c hplace hratings hunbound =>
    have hcfg : ∀ j, j ≠ i → (f.cfg.set i c)[j] = f.cfg[j] := fun j hj => getElem_set_other _ _ hj
    have hkind : ∀ j : Fin 8, (f.cfg.set i c)[j].kind = f.cfg[j].kind := fun j => by
      by_cases hj : j = i
      · subst hj
        rw [getElem_set_same, hplace.2]
      · rw [hcfg j hj]
    have hempty : ∀ j v, f.held j = some v → j ≠ i := by
      rintro j v hv rfl
      have := hstanding.placed j v hv
      cases hst : f.state j <;> simp_all [TrainState.bound, TrainState.keepsSetpoint]
    refine ⟨⟨hstanding.placed, hstanding.starting⟩, ⟨fun j => ?_, hrated.saving, hrated.image⟩, fun j v hv => ?_, fun kind => ?_⟩
    · change (f.cfg.set i c)[j].minStableKw ≤ (f.cfg.set i c)[j].ratedKw
      by_cases hj : j = i
      · subst hj
        rw [getElem_set_same]
        exact hratings (hrated.ratings j)
      · rw [hcfg j hj]
        exact hrated.ratings j
    · have := hbounded.inBand j v hv
      simpa only [holds, hcfg j (hempty j v hv)] using this
    · refine le_of_eq_of_le (congrArg List.sum (List.map_congr_left fun j _ => ?_)) (hbounded.withinGrid kind)
      simp only [counted, hkind]
  | sends slot _ => exact ⟨⟨hstanding.placed, hstanding.starting⟩, ⟨hrated.ratings, hrated.saving, hrated.image⟩,
      hbounded.inBand, hbounded.withinGrid⟩
  | stores saving image hsaving himage =>
    refine ⟨⟨hstanding.placed, hstanding.starting⟩, ⟨hrated.ratings, fun c hc => ?_, fun c hc => ?_⟩, hbounded.inBand,
      hbounded.withinGrid⟩
    · rcases hsaving c hc with rfl | hc
      · exact hrated.ratings
      · exact hrated.saving c hc
    · exact (himage c hc).elim (hrated.saving c) (hrated.image c)
  | passes g hp => exact hp.sound hstanding hrated fun i v hv _ => hbounded.inBand i v hv

end Fleet

end Sys2Proof.Machine
end

section
/-! SUPPORT. A recompute as a move of the fleet (R123 to R129, R132): one pass is, and a recompute is one pass or several. -/

namespace Sys2Proof.Machine

section Pass
variable (s : State)

/-- The new values of a kind's RUNNING entries, summed entry by entry. -/
theorem sum_running_values (kind : TrainKind) :
    (((List.finRange 8).filter (isIn s kind .running)).map fun i => ((passAllocation s).lookup i).getD 0).sum =
      ((allocateKind (passCut s) (passTarget s) kind).map Prod.snd).sum := by
  have hkeys : ((List.finRange 8).filter (isIn s kind .running)).Perm
      ((allocateKind (passCut s) (passTarget s) kind).map Prod.fst) := by
    refine (List.perm_ext_iff_of_nodup ((List.nodup_finRange 8).filter _) ?_).2 fun i => ?_
    · rw [map_fst_allocateKind]
      exact nodup_unprotected_protected
    · rw [map_fst_allocateKind, mem_unprotected_or_protected, List.mem_filter, isIn_iff, passCut_cfg, passCut_trains]
      exact and_iff_right (List.mem_finRange i)
  rw [(hkeys.map _).sum_eq, List.map_map]
  refine congrArg List.sum (List.map_congr_left fun q hq => ?_)
  simp only [Function.comp, lookup_of_mem (nodup_passAllocation s) (mem_passAllocation s hq), Option.getD_some]

/-- What an entry adds to the held values after a pass, by its state before. -/
theorem counted_recomputeOnce (kind : TrainKind) (i : Fin 8) :
    (recomputeOnce s).fleet.counted kind i ≤
      (if isIn s kind .running i then ((passAllocation s).lookup i).getD 0 else 0) +
        if isIn s kind .lost i then heldOf (passCut s) i else 0 := by
  have hcfg : (recomputeOnce s).cfg = s.cfg := cfg_of_backdrop (recomputeOnce_backdrop s)
  have hstate := recomputeOnce_state s i
  have hidle := recomputeOnce_entryView_idle s (i := i)
  have hrunning := fun v => recomputeOnce_entryView_running s (i := i) (v := v)
  generalize recomputeOnce s = u at hcfg hstate hidle hrunning
  rw [Fleet.counted, fleet_cfg, fleet_state, fleet_held, hcfg]
  split
  · rename_i hc
    obtain ⟨hkind, hst⟩ := hc
    have hsame : u.trains[i].state = s.trains[i].state := by
      refine hstate.resolve_right ?_
      rintro (⟨-, hnew⟩ | ⟨-, hnew⟩) <;> rw [hnew] at hst <;> exact absurd hst (by decide)
    rw [hsame] at hst
    rcases hst with hrun | hlost
    · obtain ⟨v, hv, -⟩ := passAllocation_lookup_some s hrun
      have hset : u.disp.setpoints[i] = some ⟨v, some v⟩ := by
        have hview := hrunning v hrun hv
        split at hview
        · exact nomatch (show TrainState.stopping = .running from
            (congrArg (fun e => e.work.state) hview).symm.trans (hsame.trans hrun))
        · exact congrArg EntryView.setpoint hview
      rw [if_pos ((isIn_iff s kind .running i).2 ⟨hkind, hrun⟩), hv, hset]
      exact Nat.le_add_right ..
    · have hset : u.disp.setpoints[i] = cutSetpoint s i := congrArg EntryView.setpoint
        (hidle (by rw [hlost]; decide) (by rw [hlost]; decide))
      rw [if_pos ((isIn_iff s kind .lost i).2 ⟨hkind, hlost⟩), hset, heldOf, passCut_setpoint]
      exact Nat.le_add_left ..
  · exact Nat.zero_le _

theorem sum_map_isIn (kind : TrainKind) (st : TrainState) (w : Fin 8 → Nat) :
    ((List.finRange 8).map fun i => if isIn s kind st i then w i else 0).sum =
      (((List.finRange 8).filter (isIn s kind st)).map w).sum := by
  rw [List.sum_map_ite]
  simp only [List.map_const', List.sum_replicate, smul_zero, add_zero, Bool.decide_eq_true]

/-- A pass keeps each kind's grid limit, whatever it finds (R128). -/
theorem heldSum_recomputeOnce (kind : TrainKind) :
    (recomputeOnce s).fleet.heldSum kind ≤ gridLimit s.cfg.site kind := by
  have hlost : lostHeld (passCut s) kind =
      (((List.finRange 8).filter (isIn s kind .lost)).map (heldOf (passCut s))).sum := by
    rw [lostHeld, isIn_congr (passCut_cfg s) (passCut_trains s)]
  have hbound := sum_allocateKind_le (s := passCut s) (tc := passTarget s) (kind := kind)
    (fun h => by rw [passCut_cfg]; exact passTarget_natAbs h)
    (by rw [passCut_cfg, lostHeld_passCut]; exact lostLeft_le s kind)
  rw [passCut_cfg, ← sum_running_values, hlost, ← sum_map_isIn, ← sum_map_isIn, ← List.sum_map_add] at hbound
  exact (List.sum_le_sum fun i _ => counted_recomputeOnce s kind i).trans hbound

theorem recomputeOnce_passEntry (i : Fin 8) : Fleet.PassEntry s.fleet (recomputeOnce s).fleet i := by
  have hcfg : (recomputeOnce s).cfg = s.cfg := cfg_of_backdrop (recomputeOnce_backdrop s)
  have hidle := recomputeOnce_entryView_idle s (i := i)
  have hrunning := fun v => recomputeOnce_entryView_running s (i := i) (v := v)
  have hstarts := recomputeOnce_entryView_ready s (i := i)
  generalize recomputeOnce s = u at hcfg hidle hrunning hstarts
  have hstate : ∀ {e : EntryView}, u.entryView i = e → u.fleet.state i = e.work.state := congrArg fun e : EntryView => e.work.state
  have hheld : ∀ {e : EntryView}, u.entryView i = e → u.fleet.held i = e.setpoint.map Setpoint.held :=
    congrArg fun e : EntryView => e.setpoint.map Setpoint.held
  by_cases hready : s.trains[i].state = .ready
  · have hview := hstarts hready
    split at hview
    · rename_i hc
      have hnone := ((startAllowed_iff _ _).1 hc.2).2.1
      rw [anyMoving_other_eq_false, hcfg] at hnone
      refine .starts hready (hstate hview) (hheld hview) fun j hj => ?_
      rw [fleet_cfg, hcfg]
      by_contra hne
      exact hnone j hne (hj.imp id .inl)
    · exact .keeps (hstate hview) (by rw [fleet_state, hready]; decide) (.inl (hheld hview))
  by_cases hrun : s.trains[i].state = .running
  · obtain ⟨v, hv, hmem⟩ := passAllocation_lookup_some s hrun
    have hview := hrunning v hrun hv
    split at hview
    · exact .stops hrun (hstate hview) (hheld hview)
    · refine .allocated hrun ((hstate hview).trans hrun) v (hheld hview) fun hr => ?_
      have := allocateKind_inBand (s := passCut s) (by rw [passCut_cfg]; exact hr) hmem
      rw [passCut_cfg] at this
      exact this
  · have hview := hidle hrun hready
    refine .keeps (hstate hview) hrun ?_
    by_cases hlost : s.trains[i].state = .lost
    · refine (cutSetpoint_held s i).imp (hheld hview).trans fun h => ⟨hlost, (hheld hview).trans (h.trans ?_)⟩
      rw [fleet_held, Option.map_map]
      rfl
    · exact .inl ((hheld hview).trans (congrArg _ (cutSetpoint_of_not_lost s hlost)))

theorem recomputeOnce_pass : Fleet.Pass s.fleet (recomputeOnce s).fleet where
  rest := by
    have h := recomputeOnce_backdrop s
    generalize recomputeOnce s = u at h
    have hpolls : u.link.polls = s.link.polls := congrArg (·.link.polls) h
    have hslot : u.link.slot = s.link.slot := congrArg (·.link.slot) h
    have hnv : u.nv = s.nv := congrArg (·.nv) h
    simp only [State.fleet, cfg_of_backdrop h, hpolls, hslot, hnv]
  entry := recomputeOnce_passEntry s
  withinGrid := heldSum_recomputeOnce s

end Pass

/-! ### Chains of moves -/

/-- The fleet of one state comes to the fleet of another by moves. -/
def Comes (s t : State) : Prop := Relation.ReflTransGen Fleet.Move s.fleet t.fleet

namespace Comes
variable {s t u : State}

protected theorem refl (s : State) : Comes s s := Relation.ReflTransGen.refl

protected theorem trans (h : Comes s t) (h' : Comes t u) : Comes s u := Relation.ReflTransGen.trans h h'

theorem of_fleet (h : t.fleet = s.fleet) : Comes s t := by
  unfold Comes
  rw [h]

theorem of_move (h : Fleet.Move s.fleet t.fleet) : Comes s t := Relation.ReflTransGen.single h

/-- A chain keeps what every move keeps. -/
theorem keeps {P : Fleet → Prop} (hP : ∀ {f g}, P f → Fleet.Move f g → P g) (h : Comes s t) (hs : P s.fleet) : P t.fleet := by
  have hchain : ∀ {g}, Relation.ReflTransGen Fleet.Move s.fleet g → P g := fun h => by
    induction h with
    | refl => exact hs
    | tail _ hm ih => exact hP ih hm
  exact hchain h

theorem linked (h : Comes s t) (hs : s.fleet.Linked) : t.fleet.Linked := h.keeps (fun hf hm => hf.move hm) hs
theorem unopposed (h : Comes s t) (hs : s.fleet.Unopposed) : t.fleet.Unopposed := h.keeps (fun hf hm => hf.move hm) hs
theorem sound (h : Comes s t) (hs : s.fleet.Sound) : t.fleet.Sound := h.keeps (fun hf hm => hf.move hm) hs

end Comes

theorem recompute_comes (s : State) : Comes s (recompute s) :=
  recompute_invariant (Comes s) (fun r h => h.trans (.of_move (.passes _ _ (recomputeOnce_pass r)))) s (.refl s)

theorem recomputeIf_comes (b : Bool) (s : State) : Comes s (recomputeIf b s) := by
  unfold recomputeIf
  split
  · exact recompute_comes s
  · exact .refl s

/-- A recompute brings the bands and the grid limits about (R128). -/
theorem recompute_sound {s : State} (h : s.fleet.Standing) (hr : s.fleet.Rated)
    (hlost : ∀ i v, s.fleet.held i = some v → s.fleet.state i = .lost → s.fleet.holds i v) : (recompute s).fleet.Sound := by
  have hfirst : (recomputeOnce s).fleet.Sound := (recomputeOnce_pass s).sound h hr hlost
  by_cases hstill : trainStates (recomputeOnce s) = trainStates s
  · rwa [recompute_of_still hstill]
  · rw [recompute_of_moved hstill]
    exact (recompute_comes _).sound hfirst

end Sys2Proof.Machine
end

section
/-! SUPPORT. What one pass of a recompute allocates, entry by entry, in the terms of the state before it (R127, R128). -/

namespace Sys2Proof.Machine

/-! ### The target, the clamped target and the notices of a pass -/

/-- What only the first stage of a pass forms: the target, the clamped target and SHORTFALL (R124). -/
def State.formed (s : State) : Int × Int × Notices := (s.disp.target, s.disp.clamped, s.notices)

section Formed
variable (s : State)

theorem moveTrain_formed (i : Fin 8) (new : TrainState) (timer : Option Timer) :
    (moveTrain i new timer s).formed = s.formed := by
  simp only [State.formed, moveTrain_disp, moveTrain_notices]

theorem cutLost_formed (kind : TrainKind) : (cutLost kind s).formed = s.formed := by
  unfold cutLost
  split <;> rfl

theorem holdValues_formed (l : List (Fin 8 × Nat)) : (holdValues l s).formed = s.formed := rfl

theorem stopIfIdle_formed (prot : List (Fin 8)) (i : Fin 8) : (stopIfIdle prot i s).formed = s.formed := by
  unfold stopIfIdle
  split
  · exact moveTrain_formed s i _ _
  · rfl

theorem setIfChanged_formed (i : Fin 8) : (setIfChanged i s).formed = s.formed := by
  unfold setIfChanged
  split
  · simp only
    split <;> rfl
  · rfl

theorem startIfNeeded_formed (before : State) (i : Fin 8) : (startIfNeeded before i s).formed = s.formed := by
  unfold startIfNeeded
  split
  · exact moveTrain_formed s i _ _
  · rfl

/-- A pass forms the target first, and leaves it as formed (R123, R124). -/
theorem recomputeOnce_formed : (recomputeOnce s).formed = (formTarget s).formed := by
  rw [recomputeOnce_eq, inMerit_keeps State.formed _ fun i s => startIfNeeded_formed s _ i,
    passSet, inMerit_keeps State.formed _ fun i s => setIfChanged_formed s i,
    inMerit_keeps State.formed _ fun i s => stopIfIdle_formed s _ i]
  rw [passHeld, holdValues_formed, passCut, cutLost_formed, cutLost_formed]

variable {s} in
theorem clamped_of_formed {t : State} (h : t.formed = s.formed) : t.disp.clamped = s.disp.clamped := congrArg (·.2.1) h

theorem recomputeOnce_clamped : (recomputeOnce s).disp.clamped = passTarget s := by
  rw [passTarget, clamped_of_formed (recomputeOnce_formed s)]

end Formed

/-! ### The allocation of a pass, in the terms of the state before it -/

section Allocated
variable (s : State) (kind : TrainKind)

theorem guardedOf_passCut (tc : Int) : guardedOf (passCut s) tc kind = (meritOrder s.cfg.trains).filter fun i =>
    isIn s kind .running i && decide (s.trains[i].runCount < s.cfg.trains[i].minRun) && !exposedAt s tc kind := by
  rw [guardedOf, passCut_cfg]
  refine List.filter_congr fun i _ => ?_
  rw [Bool.eq_iff_iff]
  simp only [Bool.and_eq_true, decide_eq_true_iff, protectedAt_iff, isIn_iff, Bool.not_eq_true', passCut_trains, passCut_cfg,
    exposedAt_of_backdrop (passCut_backdrop s)]
  constructor
  · rintro ⟨⟨hrun, hcount, hexposed⟩, hkind⟩
    exact ⟨⟨⟨hkind, hrun⟩, hcount⟩, hkind ▸ hexposed⟩
  · rintro ⟨⟨⟨hkind, hrun⟩, hcount⟩, hexposed⟩
    exact ⟨⟨hrun, hcount, hkind.symm ▸ hexposed⟩, hkind⟩

theorem forcedLoad_passCut (l : List (Fin 8)) : forcedLoad (passCut s) l = forcedLoad s l := by
  simp only [forcedLoad, passCut_cfg]

/-- The protected entries are the longest beginning of the guarded ones that fits (R128 step 3). -/
theorem protectedOf_passCut {tc : Int} {m : Nat} {guarded : List (Fin 8)} (hguarded : guardedOf (passCut s) tc kind = guarded)
    (hm : m ≤ guarded.length) (hfits : lostLeft s kind + forcedLoad s (guarded.take m) ≤ gridLimit s.cfg.site kind)
    (hnext : m < guarded.length → gridLimit s.cfg.site kind < lostLeft s kind + forcedLoad s (guarded.take (m + 1))) :
    protectedOf (passCut s) tc kind = guarded.take m := by
  obtain ⟨k, hk, heq, hkfits, hknext⟩ := protectedOf_eq_take (passCut s) tc kind
  rw [heq] at hkfits
  rw [lostHeld_passCut, passCut_cfg, forcedLoad_passCut] at hkfits hknext
  rw [hguarded] at hk heq hkfits hknext
  have hlost := lostLeft_le s kind
  rw [heq, take_unique (w := fun i => s.cfg.trains[i].minStableKw) (room := gridLimit s.cfg.site kind - lostLeft s kind) hk hm
    hkfits (by unfold forcedLoad at hfits; omega) hknext fun h => by have := hnext h; unfold forcedLoad at this; omega]

/-- What the shares leave an unprotected entry: nothing and a STOP, or a value that it holds (R128, R129). -/
theorem recomputeOnce_unprotected {j : Nat} {i : Fin 8} {v : Nat}
    (hi : (unprotectedOf (passCut s) (passTarget s) kind)[j]? = some i)
    (hv : (sharesFor (passCut s) (passTarget s) kind).getD j 0 = v) :
    (v = 0 → (recomputeOnce s).trains[i].state = .stopping ∧ (recomputeOnce s).disp.setpoints[i] = none) ∧
      (v ≠ 0 → (recomputeOnce s).trains[i].state = .running ∧
        (recomputeOnce s).disp.setpoints[i] = some ⟨v, some v⟩) := by
  obtain ⟨⟨hkind, hrun⟩, hnot⟩ := mem_unprotectedOf.1 (List.mem_of_getElem? hi)
  rw [passCut_trains] at hrun
  have hmem : (i, v) ∈ allocateKind (passCut s) (passTarget s) kind := by
    rw [allocateKind_eq]
    refine List.mem_append_left _ (List.mem_of_getElem? (i := j) (List.getElem?_zip_eq_some.2 ⟨hi, ?_⟩))
    rw [unprotectedValues_getElem? _ _ _ (List.getElem?_eq_some_iff.1 hi).1, hv]
  have hview := recomputeOnce_entryView_running s hrun
    (lookup_of_mem (nodup_passAllocation s) (mem_passAllocation s hmem))
  have hfree : i ∉ passProtected s := by
    intro hp
    rcases List.mem_append.1 hp with h | h <;> obtain rfl := hkind.symm.trans (protectedAt_of_mem h).2 <;> exact hnot h
  generalize recomputeOnce s = u at hview ⊢
  have hstate := congrArg (fun e : EntryView => e.work.state) hview
  have hset := congrArg EntryView.setpoint hview
  constructor
  · intro h0
    rw [if_pos ⟨h0, hfree⟩] at hstate hset
    exact ⟨hstate, hset⟩
  · intro h0
    rw [if_neg fun h => h0 h.1] at hstate hset
    exact ⟨hstate.trans hrun, hset⟩

/-- A protected entry keeps running, at its least stable power and its part of the rest (R128). -/
theorem recomputeOnce_protected {j : Nat} {i : Fin 8} {v : Nat}
    (hi : (protectedOf (passCut s) (passTarget s) kind)[j]? = some i)
    (hv : (protectedValues (passCut s) (passTarget s) kind)[j]? = some v) :
    (recomputeOnce s).trains[i].state = .running ∧ (recomputeOnce s).disp.setpoints[i] = some ⟨v, some v⟩ := by
  have hprot := List.mem_of_getElem? hi
  have hrun := (protectedAt_iff.1 (protectedAt_of_mem hprot).1).1
  rw [passCut_trains] at hrun
  have hmem : (i, v) ∈ allocateKind (passCut s) (passTarget s) kind := by
    rw [allocateKind_eq]
    exact List.mem_append_right _ (List.mem_of_getElem? (i := j) (List.getElem?_zip_eq_some.2 ⟨hi, hv⟩))
  have hview := recomputeOnce_entryView_running s hrun
    (lookup_of_mem (nodup_passAllocation s) (mem_passAllocation s hmem))
  have hkept : i ∈ passProtected s := by
    cases kind
    · exact List.mem_append_left _ hprot
    · exact List.mem_append_right _ hprot
  rw [if_neg fun h => h.2 hkept] at hview
  generalize recomputeOnce s = u at hview ⊢
  exact ⟨(congrArg (fun e : EntryView => e.work.state) hview).trans hrun, congrArg EntryView.setpoint hview⟩

end Allocated

theorem decide_kindOf_ne (t : Int) (kind : TrainKind) : decide (kindOf t ≠ some kind) = !signedFor kind t := by
  rw [decide_not, Bool.decide_congr (kindOf_eq_some_iff t kind), Bool.decide_eq_true]

theorem lookAheadOpposes_eq (s : State) (kind : TrainKind) :
    lookAheadOpposes s kind = s.engine.live.any fun l => l.any fun sl => decide (s.clock.interval ≤ sl.interval ∧
      sl.interval ≤ s.clock.interval + s.cfg.site.changeoverGap + 1) && signedFor kind.other sl.net := by
  unfold lookAheadOpposes
  cases s.engine.live <;> simp

/-- What one pass allocates, with the guarded entries, the amount and the room in the terms of the state before it. -/
theorem recomputeOnce_allocates (s : State) (kind : TrainKind) (m : Nat) (guarded : List (Fin 8))
    (hguarded : guardedOf (passCut s) (passTarget s) kind = guarded) (hm : m ≤ guarded.length)
    (hfits : lostLeft s kind + forcedLoad s (guarded.take m) ≤ gridLimit s.cfg.site kind)
    (hnext : m < guarded.length → gridLimit s.cfg.site kind < lostLeft s kind + forcedLoad s (guarded.take (m + 1))) :
    let prot := guarded.take m
    let free := (meritOrder s.cfg.trains).filter fun i => isIn s kind .running i && decide (i ∉ prot)
    let amount := (passTarget s).natAbs - lostLeft s kind - forcedLoad s prot
    let room := gridLimit s.cfg.site kind - lostLeft s kind - forcedLoad s prot
    let shares := if signedFor kind (passTarget s) = true then meritShares amount room (free.map (bandOf s)) else []
    let rest := if signedFor kind (passTarget s) = true then amount - shares.sum else 0
    (∀ (j : Nat) (i : Fin 8), free[j]? = some i →
      (shares.getD j 0 = 0 → (recomputeOnce s).trains[i].state = .stopping ∧ (recomputeOnce s).disp.setpoints[i] = none) ∧
      (shares.getD j 0 ≠ 0 → (recomputeOnce s).trains[i].state = .running ∧
        (recomputeOnce s).disp.setpoints[i] = some ⟨shares.getD j 0, some (shares.getD j 0)⟩)) ∧
    (∀ (j : Nat) (i : Fin 8), prot[j]? = some i →
      let v := s.cfg.trains[i].minStableKw +
        min (rest - ((prot.take j).map fun l => s.cfg.trains[l].ratedKw - s.cfg.trains[l].minStableKw).sum)
          (s.cfg.trains[i].ratedKw - s.cfg.trains[i].minStableKw)
      (recomputeOnce s).trains[i].state = .running ∧ (recomputeOnce s).disp.setpoints[i] = some ⟨v, some v⟩) := by
  intro prot free amount room shares rest
  have hprot : protectedOf (passCut s) (passTarget s) kind = prot := protectedOf_passCut s kind hguarded hm hfits hnext
  have hfree : unprotectedOf (passCut s) (passTarget s) kind = free := by
    rw [unprotectedOf, hprot, passCut_cfg, isIn_congr (passCut_cfg s) (passCut_trains s)]
  have hband : bandOf (passCut s) = bandOf s := by
    funext i
    simp only [bandOf, passCut_cfg]
  have hamount : amountFor (passCut s) (passTarget s) kind = amount := by
    rw [amountFor, hprot, lostHeld_passCut, forcedLoad_passCut]
  have hroom : roomFor (passCut s) (passTarget s) kind = room := by
    rw [roomFor, hprot, lostHeld_passCut, forcedLoad_passCut, passCut_cfg]
  have hshares : sharesFor (passCut s) (passTarget s) kind = shares := by
    rw [sharesFor, hamount, hroom, hfree, hband]
    exact if_congr (kindOf_eq_some_iff ..) rfl rfl
  have hrest : restFor (passCut s) (passTarget s) kind = rest := by
    rw [restFor, hamount, hshares]
    exact if_congr (kindOf_eq_some_iff ..) rfl rfl
  constructor
  · intro j i hi
    exact recomputeOnce_unprotected s kind (j := j) (v := shares.getD j 0) (by rw [hfree, hi]) (by rw [hshares])
  · intro j i hi
    refine recomputeOnce_protected s kind (j := j) (by rw [hprot, hi]) ?_
    rw [protectedValues, hrest, hprot, spread_getElem?, List.getElem?_map, hi, ← List.map_take, List.map_map, hband]
    rfl

/-- A LOST entry's value after a pass (R128 step 1). -/
theorem recomputeOnce_lost_setpoint (s : State) {i : Fin 8} (h : s.trains[i].state = .lost) :
    (recomputeOnce s).disp.setpoints[i] =
      if gridLimit s.cfg.site s.cfg.trains[i].kind < lostHeld s s.cfg.trains[i].kind then heldNothing s.disp.setpoints[i]
      else s.disp.setpoints[i] := by
  have hview := recomputeOnce_entryView_idle s (i := i) (by rw [h]; decide) (by rw [h]; decide)
  exact (congrArg EntryView.setpoint hview).trans (cutSetpoint_of_lost s h)

end Sys2Proof.Machine
end

section
/-! O36 (MeritSharesInBand). -/

namespace Sys2Proof.Machine

/-- The held values of a kind's LOST entries, as the statement sums them. -/
theorem lostHeld_eq (s : State) (kind : TrainKind) : lostHeld s kind =
    (((List.finRange 8).filter fun i => decide (s.cfg.trains[i].kind = kind ∧ s.trains[i].state = .lost)).map fun i =>
      match s.disp.setpoints[i] with | some q => q.held | none => 0).sum := by
  have hstate : isIn s kind .lost = fun i => decide (s.cfg.trains[i].kind = kind ∧ s.trains[i].state = .lost) := by
    funext i
    rw [isIn, Bool.decide_and]
  rw [lostHeld, hstate]
  refine congrArg List.sum (List.map_congr_left fun i _ => ?_)
  rw [heldOf]
  cases s.disp.setpoints[i] <;> rfl

/-- Settles O36: the bounds and the closed form of R127's shares, the merit order, and R128's allocation of a pass, by the
pass's own lists rewritten in the terms of the state before it. -/
theorem meritSharesInBand : Obligations.MeritSharesInBand := by
  unfold Obligations.MeritSharesInBand
  refine ⟨fun amount room trains hband => ⟨length_meritShares_le .., fun k v q => meritShares_inBand hband,
    sum_meritShares_le .., sum_meritShares_le_of_two, ?_, ?_⟩, fun amount room trains c => ⟨?_, ?_⟩,
    fun trains => ⟨mem_meritOrder trains, pairwise_meritOrder trains⟩, fun s kind m => ?_⟩
  · rintro q rest rfl
    exact meritShares_single rest
  · rintro rfl
    exact meritShares_zero room trains
  · rintro rfl
    exact meritShares_nil amount room
  · exact fun ha hc hlen hbelow hcover => meritShares_closed amount room trains ha hc hlen hbelow hcover
  · have hclamped := recomputeOnce_clamped s
    have hallocates := recomputeOnce_allocates s kind m
    have hlostSet := fun i => recomputeOnce_lost_setpoint s (i := i)
    generalize recomputeOnce s = u at hclamped hallocates hlostSet ⊢
    intro u tc cfg ofKind grid inState lostBefore lost opposes exposed guarded least prot free amount room shares
      rest hm hfits hnext
    have htc : tc = passTarget s := hclamped
    have hofKind : ofKind = signedFor kind (passTarget s) := by
      rw [← htc]
      cases kind <;> rfl
    have hgrid : grid = gridLimit s.cfg.site kind := by cases kind <;> rfl
    have hin : ∀ st, isIn s kind st = inState st := fun st => funext fun i => (Bool.decide_and ..).symm
    have hheld : lostHeld s kind = lostBefore := lostHeld_eq s kind
    have hlost : lostLeft s kind = lost := by rw [lostLeft, hheld, ← hgrid]
    have hopposes : lookAheadOpposes s kind = opposes := by
      rw [lookAheadOpposes_eq]
      cases kind <;> rfl
    have hexposed : exposedAt s (passTarget s) kind = exposed := by
      rw [exposedAt, decide_kindOf_ne, hopposes, ← hofKind]
    have hguarded : guardedOf (passCut s) (passTarget s) kind = guarded := by
      rw [guardedOf_passCut, hexposed, hin]
    have hpass := hallocates guarded hguarded hm (by rw [hlost, ← hgrid]; exact hfits)
      fun h => by rw [hlost, ← hgrid]; exact hnext h
    rw [hlost, ← hgrid, ← htc, hin, htc, ← hofKind, ← htc] at hpass
    refine ⟨hpass.1, hpass.2, fun i hi => ?_⟩
    obtain ⟨hkind, hstate⟩ := of_decide_eq_true hi
    have hset := hlostSet i hstate
    rw [show s.cfg.trains[i].kind = kind from hkind, hheld, ← hgrid] at hset
    exact hset

end Sys2Proof.Machine
end

section
/-! SUPPORT. The need of a START ahead (R116, R133), in the terms of the roster before and after a pass. -/

namespace Sys2Proof.Machine

/-! ### The entries ahead in a merit-ordered list -/

/-- In a list in merit order an entry stands among the first that cover an amount exactly where the ratings of those before it
fall short of the amount. -/
theorem mem_take_coverCount_iff {trains : Vector TrainCfg 8} {l : List (Fin 8)} (hl : l.Pairwise (standsBefore trains))
    {i : Fin 8} (hi : i ∈ l) {a : Nat} (ha : 1 ≤ a) (w : Fin 8 → Nat) :
    i ∈ l.take (coverCount a (l.map w)) ↔ ((l.filter fun j => decide (standsBefore trains j i)).map w).sum < a := by
  have hirr : ∀ j, ¬standsBefore trains j j := fun j => by simp [standsBefore]
  obtain ⟨l₁, l₂, rfl⟩ := List.append_of_mem hi
  have hparts := List.pairwise_append.1 hl
  have hafter : ∀ j ∈ l₂, ¬standsBefore trains j i := by
    intro j hj h
    have := (List.pairwise_cons.1 hparts.2.1).1 j hj
    simp only [standsBefore] at h this
    omega
  have hbefore : ∀ j ∈ l₁, standsBefore trains j i := fun j hj => hparts.2.2 j hj i List.mem_cons_self
  have hnot : i ∉ l₁ := fun h => hirr i (hbefore i h)
  have hfilter : ((l₁ ++ i :: l₂).filter fun j => decide (standsBefore trains j i)) = l₁ := by
    rw [List.filter_append, List.filter_cons_of_neg (by simp),
      List.filter_eq_self.2 fun j hj => decide_eq_true (hbefore j hj),
      List.filter_eq_nil_iff.2 fun j hj => by simpa using hafter j hj, List.append_nil]
  have hlen : l₁.length < ((l₁ ++ i :: l₂).map w).length := by simp
  have htake : i ∈ (l₁ ++ i :: l₂).take (coverCount a ((l₁ ++ i :: l₂).map w)) ↔
      l₁.length < coverCount a ((l₁ ++ i :: l₂).map w) := by
    generalize coverCount a ((l₁ ++ i :: l₂).map w) = k
    rcases Nat.lt_or_ge l₁.length k with h | h
    · obtain ⟨n, rfl⟩ := Nat.exists_eq_add_of_lt h
      simp [List.take_append, Nat.add_assoc]
    · simp only [List.take_append_of_le_length h, Nat.not_lt.2 h, iff_false]
      exact fun hmem => hnot (List.mem_of_mem_take hmem)
  rw [htake, lt_coverCount_iff ha hlen, hfilter, ← List.map_take, List.take_left]

/-- The weights of a choice of entries sum alike in merit order and in number order. -/
theorem sum_filter_meritOrder (trains : Vector TrainCfg 8) (p : Fin 8 → Bool) (w : Fin 8 → Nat) :
    (((meritOrder trains).filter p).map w).sum = (((List.finRange 8).filter p).map w).sum :=
  (((perm_meritOrder trains).filter p).map w).sum_eq

/-- An entry is needed at its start lead where it counts for that slot, the slot's net power is of the sign of its kind, and the
ratings of those ahead of it fall short (R133). -/
theorem neededAhead_iff (s : State) (i : Fin 8) :
    neededAhead s i = true ↔
      countsFor s.cfg.trains[i] s.trains[i] s.clock.interval s.cfg.trains[i].startLead = true ∧
      ∃ sl, s.liveAt (s.clock.interval + s.cfg.trains[i].startLead) = some sl ∧
        signedFor s.cfg.trains[i].kind sl.net = true ∧
        (((List.finRange 8).filter fun j => decide (s.cfg.trains[j].kind = s.cfg.trains[i].kind) &&
          countsFor s.cfg.trains[j] s.trains[j] s.clock.interval s.cfg.trains[i].startLead &&
          decide (standsBefore s.cfg.trains j i)).map fun j => s.cfg.trains[j].ratedKw).sum < sl.net.natAbs := by
  unfold neededAhead
  simp only
  cases s.liveAt (s.clock.interval + s.cfg.trains[i].startLead) with
  | none => simp
  | some sl =>
    simp only [Bool.and_eq_true, decide_eq_true_iff, Option.some.injEq, exists_eq_left']
    have hkey : ∀ (_ : signedFor s.cfg.trains[i].kind sl.net = true)
        (_ : countsFor s.cfg.trains[i] s.trains[i] s.clock.interval s.cfg.trains[i].startLead = true), _ :=
      fun hsign hcounts => mem_take_coverCount_iff (trains := s.cfg.trains) (i := i) (a := sl.net.natAbs)
        (l := (meritOrder s.cfg.trains).filter fun j => decide (s.cfg.trains[j].kind = s.cfg.trains[i].kind) &&
          countsFor s.cfg.trains[j] s.trains[j] s.clock.interval s.cfg.trains[i].startLead)
        ((pairwise_meritOrder _).filter _) (List.mem_filter.2 ⟨mem_meritOrder _ i, by rw [hcounts]; simp⟩)
        (by cases hk : s.cfg.trains[i].kind <;> simp only [hk, signedFor, decide_eq_true_iff] at hsign <;> omega)
        fun j => s.cfg.trains[j].ratedKw
    constructor
    · rintro ⟨⟨hsign, hcounts⟩, hmem⟩
      have h := (hkey hsign hcounts).1 hmem
      rw [List.filter_filter, sum_filter_meritOrder] at h
      refine ⟨hcounts, hsign, ?_⟩
      simpa only [Bool.and_comm, Bool.and_assoc, Bool.and_left_comm] using h
    · rintro ⟨hcounts, hsign, h⟩
      refine ⟨⟨hsign, hcounts⟩, (hkey hsign hcounts).2 ?_⟩
      rw [List.filter_filter, sum_filter_meritOrder]
      simpa only [Bool.and_comm, Bool.and_assoc, Bool.and_left_comm] using h

end Sys2Proof.Machine
end

section
/-! SUPPORT. What the passes of a recompute leave of each entry, in the terms of the state before the first (R125, R129, R132 to
R134). -/

namespace Sys2Proof.Machine

/-! ### The roster between the STOPs and the STARTs of a pass -/

section Between
variable (s : State) {i : Fin 8}

theorem passSet_work_of_not_running (h : s.trains[i].state ≠ .running) : (passSet s).trains[i] = s.trains[i] := by
  have hview := passSet_entryView_idle s h
  generalize passSet s = p at hview ⊢
  exact congrArg EntryView.work hview

theorem passSet_work_of_running (h : s.trains[i].state = .running) :
    (passSet s).trains[i] = (recomputeOnce s).trains[i] := by
  have hview := recomputeOnce_entryView_of_not_ready s (i := i) (by rw [h]; decide)
  generalize passSet s = p at hview ⊢
  generalize recomputeOnce s = u at hview ⊢
  exact (congrArg EntryView.work hview).symm

/-- A pass leaves an entry in RUNNING, its work as it was, or sends it to STOPPING. -/
theorem recomputeOnce_work_of_running (h : s.trains[i].state = .running) :
    (recomputeOnce s).trains[i] = s.trains[i] ∨
      (recomputeOnce s).trains[i] = { s.trains[i] with state := .stopping, timer := stopTimer i s } := by
  obtain ⟨v, hv, -⟩ := passAllocation_lookup_some s h
  have hview := recomputeOnce_entryView_running s h hv
  generalize recomputeOnce s = u at hview ⊢
  have hwork := congrArg EntryView.work hview
  split at hwork
  · exact .inr hwork
  · exact .inl hwork

/-- How an entry counts for a slot once the STOPs of a pass are issued. -/
theorem countsFor_passSet (cfg : TrainCfg) (c k : Nat) : countsFor cfg (passSet s).trains[i] c k =
    (cfg.configured && !(s.trains[i].outages.any fun o => decide (o.first ≤ c + k ∧ c + k ≤ o.last)) &&
      match s.trains[i].state with
      | .starting => true
      | .running => decide ((recomputeOnce s).trains[i].state = .running)
      | .ready => decide (cfg.startLead ≤ k)
      | .resting => decide (s.trains[i].restCount + cfg.startLead ≤ k)
      | _ => false) := by
  have houtage : (s.trains[i].outages.any fun o => decide (o.first ≤ c + k ∧ c + k ≤ o.last)) = inOutage s.trains[i] (c + k) :=
    congrArg (List.any _) (funext fun o => Bool.decide_and ..)
  rw [countsFor, houtage, Bool.and_right_comm]
  by_cases hrun : s.trains[i].state = .running
  · rw [passSet_work_of_running s hrun]
    rcases recomputeOnce_work_of_running s hrun with h | h
    · simp only [h, countsByState, hrun, decide_true]
    · simp only [h, countsByState, hrun, inOutage, reduceCtorEq, decide_false]
  · rw [passSet_work_of_not_running s hrun, countsByState]
    cases hstate : s.trains[i].state <;> simp_all

end Between

/-! ### The changeover record over a pass (R131) -/

/-- The changeover record. -/
def State.changeover (s : State) : Option TrainKind × Nat := (s.disp.changeKind, s.disp.changeCount)

section Changeover
variable (s : State)

theorem changeoverAllows_iff_changeover (kind : TrainKind) : changeoverAllows s kind ↔
    s.changeover.1 = none ∨ s.changeover.1 = some kind ∨ s.cfg.site.changeoverGap ≤ s.changeover.2 := Iff.rfl

theorem passHeld_changeover : (passHeld s).changeover = s.changeover := by
  have hcut : ∀ (kind : TrainKind) (t : State), (cutLost kind t).changeover = t.changeover := by
    intro kind t
    unfold cutLost
    split <;> rfl
  have hheld : ∀ (l : List (Fin 8 × Nat)) (t : State), (holdValues l t).changeover = t.changeover := fun _ _ => rfl
  have hform : (formTarget s).changeover = s.changeover := by simp [formTarget, State.changeover]
  rw [passHeld, hheld, passCut, hcut, hcut, hform]

theorem setIfChanged_changeover (i : Fin 8) : (setIfChanged i s).changeover = s.changeover := by
  unfold setIfChanged
  split
  · simp only
    split <;> rfl
  · rfl

theorem stopIfIdle_trains_of_running {prot : List (Fin 8)} {i j : Fin 8}
    (h : (stopIfIdle prot i s).trains[j].state = .running) : s.trains[j].state = .running := by
  by_cases hij : j = i
  · subst hij
    unfold stopIfIdle at h
    split at h
    · exact nomatch (show TrainState.stopping = .running from
        (congrArg (fun e => e.work.state) (stopTrain_entryView_self (s := s) (i := j))).symm.trans h)
    · exact h
  · have hwork : (stopIfIdle prot i s).trains[j] = s.trains[j] :=
      congrArg EntryView.work (stopIfIdle_entryView_other hij prot)
    rwa [hwork] at h

/-- A STOP notes the kind of its entry (R131). -/
theorem stopIfIdle_changeover (prot : List (Fin 8)) (i : Fin 8) : (stopIfIdle prot i s).changeover = s.changeover ∨
    (s.trains[i].state = .running ∧ (stopIfIdle prot i s).changeover = (some s.cfg.trains[i].kind, 0)) := by
  unfold stopIfIdle
  split
  · rename_i h
    have hmove : (stopTrain i s).changeover = _ := moveTrain_changeover s i .stopping (stopTimer i s)
    rw [if_pos ⟨h.1, by decide⟩] at hmove
    exact .inr ⟨h.1, hmove⟩
  · exact .inl rfl

variable {s} in
theorem OnlyStarts.changeover {t : State} (h : OnlyStarts s t) : t.changeover = s.changeover :=
  Prod.ext h.changeKind h.changeCount

theorem recomputeOnce_onlyStarts : OnlyStarts (passSet s) (recomputeOnce s) := by
  rw [recomputeOnce_eq, inMerit]
  exact foldl_startIfNeeded_onlyStarts ..

/-- The changeover record of `t` is that of `s`, or notes the kind of an entry in RUNNING in `s`. -/
def NotesStopped (s t : State) : Prop :=
  t.changeover = s.changeover ∨
    ∃ j : Fin 8, s.trains[j].state = .running ∧ t.changeover = (some s.cfg.trains[j].kind, 0)

/-- A pass notes nothing in the changeover record but the kind of an entry that it stops (R131). -/
theorem recomputeOnce_changeover : NotesStopped s (recomputeOnce s) := by
  have hstop : ∀ (i : Fin 8) (t : State), (t.cfg = s.cfg ∧
      (∀ j : Fin 8, t.trains[j].state = .running → s.trains[j].state = .running) ∧ NotesStopped s t) →
      (stopIfIdle (passProtected s) i t).cfg = s.cfg ∧ (∀ j : Fin 8,
        (stopIfIdle (passProtected s) i t).trains[j].state = .running → s.trains[j].state = .running) ∧
      NotesStopped s (stopIfIdle (passProtected s) i t) := by
    rintro i t ⟨hcfg, hrun, hchange⟩
    refine ⟨(cfg_of_backdrop (stopIfIdle_backdrop t _ i)).trans hcfg, fun j h => hrun j (stopIfIdle_trains_of_running t h), ?_⟩
    rcases stopIfIdle_changeover t (passProtected s) i with h | ⟨hi, h⟩
    · rwa [NotesStopped, h]
    · exact .inr ⟨i, hrun i hi, by rw [h, hcfg]⟩
  have hstops := inMerit_invariant _ _ hstop (passHeld s)
    ⟨cfg_of_backdrop (passHeld_backdrop s), fun j h => by rwa [passHeld_trains] at h, .inl (passHeld_changeover s)⟩
  rw [NotesStopped, (recomputeOnce_onlyStarts s).changeover, passSet,
    inMerit_keeps State.changeover _ fun i s => setIfChanged_changeover s i]
  exact hstops.2.2

end Changeover

/-- While an entry of a kind stands in STARTING, no pass takes away what R132 asks for the kind. -/
theorem startAllowed_recomputeOnce {s : State} {i : Fin 8} (hi : s.trains[i].state = .starting)
    (h : startAllowed s s.cfg.trains[i].kind = true) : startAllowed (recomputeOnce s) s.cfg.trains[i].kind = true := by
  set kind := s.cfg.trains[i].kind with hkind
  have hback := recomputeOnce_backdrop s
  have hcfg := cfg_of_backdrop hback
  have hmoves := recomputeOnce_state s
  have hchange := recomputeOnce_changeover s
  have hready := fun j (hj : s.trains[j].state = .ready) => recomputeOnce_entryView_ready s (i := j) hj
  rw [startAllowed_iff] at h ⊢
  obtain ⟨htrip, hother, hover, hban, hhold, hlive⟩ := h
  rw [anyMoving_other_eq_false] at hother
  generalize recomputeOnce s = u at hback hcfg hmoves hchange hready ⊢
  have histart : u.trains[i].state = .starting := by
    rcases hmoves i with h | ⟨h, -⟩ | ⟨h, -⟩
    · exact h.trans hi
    · exact nomatch (show TrainState.starting = .ready from hi.symm.trans h)
    · exact nomatch (show TrainState.starting = .running from hi.symm.trans h)
  rw [trip_of_backdrop hback, banAgainst_of_backdrop hback, expanderHold_of_backdrop hback, live_of_backdrop hback]
  refine ⟨htrip, ?_, ?_, hban, hhold, hlive⟩
  · rw [anyMoving_other_eq_false, hcfg]
    intro j hj hm
    rcases hmoves j with hsame | ⟨hjready, hjstart⟩ | ⟨hjrun, -⟩
    · exact hother j hj (by simpa only [isMoving, hsame] using hm)
    · have hview := hready j hjready
      split at hview
      · rename_i hc
        have hnone := ((startAllowed_iff _ _).1 hc.2).2.1
        rw [anyMoving_other_eq_false, hcfg] at hnone
        exact hnone i (fun e => hj e.symm) (.inl histart)
      · have hstate : u.trains[j].state = .ready := (congrArg (fun e => e.work.state) hview).trans hjready
        exact nomatch (show TrainState.ready = .starting from hstate.symm.trans hjstart)
    · exact hother j hj (.inr (.inl hjrun))
  · rw [changeoverAllows_iff_changeover, hcfg]
    rcases hchange with hsame | ⟨j, hjrun, hnoted⟩
    · rw [hsame]
      exact (changeoverAllows_iff_changeover s kind).1 hover
    · have hj : s.cfg.trains[j].kind = kind := by
        by_contra hne
        exact hother j hne (.inr (.inl hjrun))
      rw [hnoted, hj]
      exact .inr (.inl rfl)

/-! ### From the first pass to any later one -/

/-- What the passes of a recompute have made of an entry. -/
inductive Passed (s r : State) (i : Fin 8) : Prop
  | idle (state : s.trains[i].state ≠ .running) (setpoint : Option Setpoint)
      (cut : setpoint = s.disp.setpoints[i] ∨ (s.trains[i].state = .lost ∧ setpoint = heldNothing s.disp.setpoints[i]))
      (view : r.entryView i = { s.entryView i with setpoint := setpoint })
  | started (state : s.trains[i].state = .ready) (view : r.entryView i = (s.entryView i).started i (startTimer i s))
      (allowed : startAllowed r s.cfg.trains[i].kind = true)
  | running (state : s.trains[i].state = .running) (work : r.trains[i] = s.trains[i])
      (sent : ∀ v, r.disp.setpoints[i].bind Setpoint.issued = some v →
        s.disp.setpoints[i].bind Setpoint.issued = some v ∨ (⟨i, .set v⟩ : Cmd) ∈ r.link.cmds)
  | stopped (state : s.trains[i].state = .running) (cmds : List Cmd)
      (view : r.entryView i = (⟨s.trains[i], none, cmds⟩ : EntryView).stopped i (stopTimer i s))

/-! ### What the passes keep -/

theorem set_not_mem_enqueue_stop (i : Fin 8) (v : Nat) (q : List Cmd) : (⟨i, .set v⟩ : Cmd) ∉ enqueue ⟨i, .stop⟩ q := by
  have hfil : (⟨i, .set v⟩ : Cmd) ∉ q.filter fun d => !d.isSetFor i := by simp [Cmd.isSetFor]
  simp only [enqueue]
  split
  · exact hfil
  · simpa using hfil

section Passes
variable {s r : State} {i : Fin 8}

theorem Passed.refl (s : State) (i : Fin 8) : Passed s s i := by
  by_cases h : s.trains[i].state = .running
  · exact .running h rfl fun v hv => .inl hv
  · exact .idle h s.disp.setpoints[i] (.inl rfl) rfl

theorem heldNothing_heldNothing (sp : Option Setpoint) : heldNothing (heldNothing sp) = heldNothing sp := by
  cases sp <;> rfl

theorem cutSetpoint_cases (s : State) (i : Fin 8) : cutSetpoint s i = s.disp.setpoints[i] ∨
    (s.trains[i].state = .lost ∧ cutSetpoint s i = heldNothing s.disp.setpoints[i]) := by
  by_cases h : s.trains[i].state = .lost
  · rw [cutSetpoint_of_lost s h]
    split
    · exact .inr ⟨h, rfl⟩
    · exact .inl rfl
  · exact .inl (cutSetpoint_of_not_lost s h)

/-- A pass after others keeps what they have made of an entry, or goes on from it. -/
theorem Passed.step (hback : r.backdrop = s.backdrop) (h : Passed s r i) : Passed s (recomputeOnce r) i := by
  have htimer : startTimer i r = startTimer i s := startTimer_congr s hback
  have hstop : stopTimer i r = stopTimer i s := stopTimer_congr s hback
  have hcfg := cfg_of_backdrop hback
  cases h with
  | idle hrun sp hcut hview =>
    have hstate : r.trains[i].state = s.trains[i].state := congrArg (fun e => e.work.state) hview
    have hset : r.disp.setpoints[i] = sp := congrArg EntryView.setpoint hview
    by_cases hready : s.trains[i].state = .ready
    · have hnext := recomputeOnce_entryView_ready r (hstate.trans hready)
      have hsp : sp = s.disp.setpoints[i] := hcut.resolve_right fun h => nomatch (show TrainState.ready = .lost from hready.symm.trans h.1)
      have hsame : r.entryView i = s.entryView i := by rw [hview, hsp]; rfl
      rw [hcfg, hsame, htimer] at hnext
      split at hnext
      · rename_i hc
        exact .started hready hnext hc.2
      · exact .idle hrun s.disp.setpoints[i] (.inl rfl) hnext
    · have hnext := recomputeOnce_entryView_idle r (i := i) (by rwa [hstate]) (by rwa [hstate])
      rw [hview] at hnext
      refine .idle hrun (cutSetpoint r i) ?_ hnext
      rcases cutSetpoint_cases r i with h | ⟨hlost, h⟩
      · rw [h, hset]
        exact hcut
      · rw [h, hset]
        rcases hcut with rfl | ⟨hl, rfl⟩
        · exact .inr ⟨hstate.symm.trans hlost, rfl⟩
        · exact .inr ⟨hl, heldNothing_heldNothing _⟩
  | started hready hview hallowed =>
    have hstate : r.trains[i].state = .starting := congrArg (fun e => e.work.state) hview
    have hnext := recomputeOnce_entryView_idle r (i := i) (by rw [hstate]; decide) (by rw [hstate]; decide)
    rw [cutSetpoint_of_not_lost r (by rw [hstate]; decide)] at hnext
    refine .started hready (hnext.trans hview) ?_
    rw [← hcfg] at hallowed ⊢
    exact startAllowed_recomputeOnce hstate hallowed
  | running hrun hwork hsent =>
    have hstate : r.trains[i].state = .running := by rw [hwork, hrun]
    obtain ⟨v, hv, -⟩ := passAllocation_lookup_some r hstate
    have hnext := recomputeOnce_entryView_running r hstate hv
    generalize recomputeOnce r = u at hnext ⊢
    split at hnext
    · refine .stopped hrun (cmdsFor i r.link.cmds) (hnext.trans ?_)
      simp only [EntryView.stopped, State.entryView, hwork, hstop]
    · have hset : u.disp.setpoints[i] = some ⟨v, some v⟩ := congrArg EntryView.setpoint hnext
      refine .running hrun ((congrArg EntryView.work hnext).trans hwork) fun x hx => ?_
      obtain rfl : v = x := by simpa [hset] using hx
      have hcmds : cmdsFor i u.link.cmds = if r.disp.setpoints[i].bind Setpoint.issued = some v then cmdsFor i r.link.cmds
          else enqueue ⟨i, .set v⟩ (cmdsFor i r.link.cmds) := congrArg EntryView.cmds hnext
      rw [← mem_cmdsFor (i := i) rfl, hcmds]
      by_cases hold : r.disp.setpoints[i].bind Setpoint.issued = some v
      · rw [if_pos hold, mem_cmdsFor (i := i) rfl]
        exact hsent v hold
      · rw [if_neg hold]
        exact .inr (mem_enqueue_self ..)
  | stopped hrun cmds hview =>
    have hstate : r.trains[i].state = .stopping := congrArg (fun e => e.work.state) hview
    have hnext := recomputeOnce_entryView_idle r (i := i) (by rw [hstate]; decide) (by rw [hstate]; decide)
    rw [cutSetpoint_of_not_lost r (by rw [hstate]; decide)] at hnext
    exact .stopped hrun cmds (hnext.trans hview)

/-- What the passes of a recompute lead to. -/
def PassedAll (s r : State) : Prop := r.backdrop = s.backdrop ∧ ∀ i : Fin 8, Passed s r i

theorem PassedAll.refl (s : State) : PassedAll s s := ⟨rfl, Passed.refl s⟩

theorem PassedAll.step (h : PassedAll s r) : PassedAll s (recomputeOnce r) :=
  ⟨(recomputeOnce_backdrop r).trans h.1, fun i => (h.2 i).step h.1⟩

theorem recompute_passed (s : State) : PassedAll s (recompute s) :=
  recompute_invariant (PassedAll s) (fun _ h => h.step) s (.refl s)

end Passes

end Sys2Proof.Machine
end

section
/-! O35 (StartsOnlyWhenAllowed). -/

namespace Sys2Proof.Machine

section Passes
variable {s r : State} {i : Fin 8}

/-- The passes of a recompute move an entry from READY to STARTING and from RUNNING to STOPPING alone. -/
theorem Passed.moves (h : Passed s r i) : r.trains[i].state = s.trains[i].state ∨
    (s.trains[i].state = .ready ∧ r.trains[i].state = .starting) ∨
    (s.trains[i].state = .running ∧ r.trains[i].state = .stopping) := by
  cases h with
  | idle _ _ _ hview => exact .inl (congrArg (fun e => e.work.state) hview)
  | started hready hview _ => exact .inr (.inl ⟨hready, congrArg (fun e => e.work.state) hview⟩)
  | running _ hwork _ => exact .inl (by rw [hwork])
  | stopped hrun _ hview => exact .inr (.inr ⟨hrun, congrArg (fun e => e.work.state) hview⟩)

theorem Passed.isMoving (h : Passed s r i) (hi : isMoving s i) : Machine.isMoving r i := by
  rcases h.moves with hsame | ⟨hready, hstart⟩ | ⟨-, hstop⟩
  · simpa only [Machine.isMoving, hsame] using hi
  · exact .inl hstart
  · exact .inr (.inr hstop)

/-- An entry that the passes start has its START issued, its timer running and a setpoint of 0, and R132 still allows it. -/
theorem Passed.of_started (h : Passed s r i) (hready : s.trains[i].state = .ready) (hstart : r.trains[i].state = .starting) :
    r.entryView i = (s.entryView i).started i (startTimer i s) ∧ startAllowed r s.cfg.trains[i].kind = true := by
  cases h with
  | idle _ _ _ hview =>
    have hstate : r.trains[i].state = s.trains[i].state := congrArg (fun e => e.work.state) hview
    exact nomatch (show TrainState.starting = .ready from hstart.symm.trans (hstate.trans hready))
  | started _ hview hallowed => exact ⟨hview, hallowed⟩
  | running hrun _ _ => exact nomatch (show TrainState.ready = .running from hready.symm.trans hrun)
  | stopped hrun _ _ => exact nomatch (show TrainState.ready = .running from hready.symm.trans hrun)

end Passes

/-- Settles O35: a pass starts an entry exactly where it is needed and R132 allows it, and the passes that follow keep both the
START and what R132 asks. -/
theorem startsOnlyWhenAllowed : Obligations.StartsOnlyWhenAllowed := by
  unfold Obligations.StartsOnlyWhenAllowed
  refine ⟨fun s i hready => ?_, fun s i => ?_⟩
  · have hview := recomputeOnce_entryView_ready s hready
    have hneed := neededAhead_iff (passSet s) i
    have hcounts := fun j => countsFor_passSet s (i := j)
    rw [clock_of_backdrop (passSet_backdrop s), cfg_of_backdrop (passSet_backdrop s), State.liveAt,
      live_of_backdrop (passSet_backdrop s)] at hneed
    have hallow := startAllowed_iff (recomputeOnce s)
    have hother := anyMoving_other_eq_false (recomputeOnce s) s.cfg.trains[i].kind
    have hback := recomputeOnce_backdrop s
    generalize recomputeOnce s = u at hview hcounts hallow hother hback ⊢
    intro u cfg lead n kind counts before ahead slot needed
    have hneeded : neededAhead (passSet s) i = true ↔ needed = true := by
      have hsign : ∀ sl : ProjSlot, signedFor kind sl.net =
          match kind with | .compressor => decide (0 < sl.net) | .expander => decide (sl.net < 0) := fun sl => by
        cases kind <;> rfl
      have hform : needed = (counts i && slot.any fun sl => decide (ahead < sl.net.natAbs) && signedFor kind sl.net) :=
        congrArg (fun f => counts i && slot.any f) (funext fun sl => congrArg _ (hsign sl).symm)
      have hcount : ∀ j : Fin 8, countsFor s.cfg.trains[j] (passSet s).trains[j] s.clock.interval s.cfg.trains[i].startLead =
          counts j := fun j => hcounts j _ _ _
      simp only [hcount] at hneed
      rw [hneed, hform]
      refine Iff.trans (and_congr_right fun _ => Iff.trans ?_ (Option.any_eq_true ..).symm) Bool.and_eq_true_iff.symm
      refine exists_congr fun sl => and_congr_right fun _ => ?_
      rw [Bool.and_eq_true, decide_eq_true_iff]
      exact and_comm
    have hstate : u.trains[i].state = .starting ↔ neededAhead (passSet s) i = true ∧ startAllowed u kind = true := by
      have hwork := congrArg (fun e : EntryView => e.work.state) hview
      split at hwork
      · rename_i hc
        exact iff_of_true hwork hc
      · rename_i hc
        refine iff_of_false (fun h => ?_) hc
        exact nomatch (show TrainState.starting = .ready from h.symm.trans (hwork.trans hready))
    refine ⟨fun h => hneeded.1 (hstate.1 h).1, fun hneed htrip hban hhold hover hstill => ?_⟩
    refine hstate.2 ⟨hneeded.2 hneed, (hallow kind).2 ⟨?_, hother.2 ?_, ?_, ?_, ?_, ?_⟩⟩
    · rwa [trip_of_backdrop hback]
    · intro j hj hm
      rw [cfg_of_backdrop hback] at hj
      obtain ⟨h1, h2, h3⟩ := hstill j hj
      exact hm.elim h1 (·.elim h2 h3)
    · rwa [changeoverAllows, cfg_of_backdrop hback]
    · rwa [banAgainst_of_backdrop hback]
    · rwa [expanderHold_of_backdrop hback]
    · rw [live_of_backdrop hback]
      intro hnone
      simp [needed, slot, hnone] at hneed
  · have hpassed := recompute_passed s
    generalize recompute s = t at hpassed ⊢
    obtain ⟨hback, hall⟩ := hpassed
    intro t kind
    refine ⟨fun hne => (hall i).moves.resolve_left hne, fun hready hstart => ?_⟩
    obtain ⟨hview, hallowed⟩ := (hall i).of_started hready hstart
    obtain ⟨htrip, hother, hover, hban, hhold, hlive⟩ := (startAllowed_iff _ _).1 hallowed
    rw [anyMoving_other_eq_false, cfg_of_backdrop hback] at hother
    rw [trip_of_backdrop hback] at htrip
    rw [banAgainst_of_backdrop hback] at hban
    rw [expanderHold_of_backdrop hback] at hhold
    rw [live_of_backdrop hback] at hlive
    refine ⟨htrip, hlive, hban, hhold, fun j hj => ?_, ?_, ?_, ?_, congrArg EntryView.setpoint hview⟩
    · have hstill : ¬isMoving s j := fun hm => hother j hj ((hall j).isMoving hm)
      simpa only [isMoving, not_or] using hstill
    · rwa [changeoverAllows, cfg_of_backdrop hback] at hover
    · have hcmds : cmdsFor i t.link.cmds = enqueue ⟨i, .start⟩ (cmdsFor i s.link.cmds) := congrArg EntryView.cmds hview
      rw [← mem_cmdsFor (i := i) rfl, hcmds]
      exact mem_enqueue_self ..
    · exact congrArg (fun e => e.work.timer) hview

end Sys2Proof.Machine
end

section
/-! O34 (RecomputeClampsAndActs). -/

namespace Sys2Proof.Machine

/-! ### The target and its clamps (R123, R124) -/

section Clamps
variable (s : State)

theorem anyCavern_iff (caverns : Vector CavernWork 4) (b : Inhibit) :
    anyCavern caverns b = true ↔ ∃ i : Fin 4, caverns[i].inhibit = b := by
  simp [anyCavern]

theorem banAgainst_compressor_iff : banAgainst s .compressor = true ↔
    (∃ i : Fin 4, s.caverns[i].inhibit = .noCharge) ∨ s.store.inhibit = .noCharge := by
  rw [banAgainst, Bool.or_eq_true, anyCavern_iff, decide_eq_true_iff]

theorem banAgainst_expander_iff : banAgainst s .expander = true ↔
    (∃ i : Fin 4, s.caverns[i].inhibit = .noDischarge) ∨ s.store.inhibit = .noDischarge ∨ s.store.status = .unknown := by
  rw [banAgainst, Bool.or_eq_true, Bool.or_eq_true, anyCavern_iff, decide_eq_true_iff, decide_eq_true_iff, or_assoc]

/-- Clamps 2 and 3 bring the target to 0 where a ban on its kind or the trip stands. -/
theorem clampTrip_clampInhibit (t : Int) : clampTrip s.disp.trip (clampInhibit s t) =
    if (0 < t ∧ banAgainst s .compressor = true) ∨ (t < 0 ∧ banAgainst s .expander = true) ∨ s.disp.trip = true then 0
    else t := by
  unfold clampTrip clampInhibit
  split_ifs <;> tauto

theorem clampedOf_of_trip (h : s.disp.trip = true) (t : Int) : clampedOf s t = 0 := by
  rw [clampedOf, clampTrip, if_pos h]
  have := clampRunning_between s 0
  omega

theorem clampedOf_of_ban_compressor (h : banAgainst s .compressor = true) (t : Int) : clampedOf s t ≤ 0 := by
  have hle : clampTrip s.disp.trip (clampInhibit s (clampGrid s.cfg.site t)) ≤ 0 := by
    rw [clampTrip_clampInhibit]
    split
    · exact Int.le_refl 0
    · rename_i hcut
      rw [not_or] at hcut
      exact Int.not_lt.1 fun hpos => hcut.1 ⟨hpos, h⟩
  exact ((clampRunning_between s _).2 hle).2

theorem clampedOf_of_ban_expander (h : banAgainst s .expander = true) (t : Int) : 0 ≤ clampedOf s t := by
  have hle : 0 ≤ clampTrip s.disp.trip (clampInhibit s (clampGrid s.cfg.site t)) := by
    rw [clampTrip_clampInhibit]
    split
    · exact Int.le_refl 0
    · rename_i hcut
      rw [not_or, not_or] at hcut
      exact Int.not_lt.1 fun hneg => hcut.2.1 ⟨hneg, h⟩
  exact ((clampRunning_between s _).1 hle).1

/-- The clamped target keeps the running capacity of its kind (R124 clamp 4). -/
theorem clampedOf_running (t : Int) :
    clampedOf s t ≤ runningCapacity s .compressor ∧ -(runningCapacity s .expander : Int) ≤ clampedOf s t := by
  unfold clampedOf clampRunning
  split <;> omega

end Clamps

/-! ### What the passes leave of the entries and the notices -/

section Passes
variable {s r t : State} {i : Fin 8}

theorem Passed.lost (h : Passed s r i) : r.trains[i].state = .lost ↔ s.trains[i].state = .lost := by
  rcases h.moves with hsame | ⟨hs, hr⟩ | ⟨hs, hr⟩
  · rw [hsame]
  · rw [hs, hr]
    decide
  · rw [hs, hr]
    decide

/-- No pass adds to a LOST entry's value (R125, R128). -/
theorem Passed.heldOf_le (h : Passed s r i) (hlost : s.trains[i].state = .lost) : heldOf r i ≤ heldOf s i := by
  cases h with
  | idle _ sp hcut hview =>
    have hset : r.disp.setpoints[i] = sp := congrArg EntryView.setpoint hview
    rw [heldOf, heldOf, hset]
    rcases hcut with rfl | ⟨-, rfl⟩
    · exact Nat.le_refl _
    · cases s.disp.setpoints[i] <;> exact Nat.zero_le _
  | started hready _ _ => exact nomatch (show TrainState.ready = .lost from hready.symm.trans hlost)
  | running hrun _ _ => exact nomatch (show TrainState.running = .lost from hrun.symm.trans hlost)
  | stopped hrun _ _ => exact nomatch (show TrainState.running = .lost from hrun.symm.trans hlost)

theorem PassedAll.lostHeld_le (h : PassedAll s r) (kind : TrainKind) : lostHeld r kind ≤ lostHeld s kind := by
  have hlost : isIn r kind .lost = isIn s kind .lost := by
    funext i
    simp only [isIn, cfg_of_backdrop h.1, (h.2 i).lost]
  rw [lostHeld, hlost, lostHeld]
  refine List.sum_le_sum fun i hi => ?_
  exact (h.2 i).heldOf_le ((isIn_iff s kind .lost i).1 (List.mem_filter.1 hi).2).2

/-- An entry that the passes leave in RUNNING was in RUNNING, and every value sent to it that is new waits in a SET. -/
theorem Passed.of_running (h : Passed s r i) (hrun : r.trains[i].state = .running) : s.trains[i].state = .running ∧
    r.trains[i] = s.trains[i] ∧ ∀ v, r.disp.setpoints[i].bind Setpoint.issued = some v →
      s.disp.setpoints[i].bind Setpoint.issued = some v ∨ (⟨i, .set v⟩ : Cmd) ∈ r.link.cmds := by
  cases h with
  | idle hnot _ _ hview =>
    have hstate : r.trains[i].state = s.trains[i].state := congrArg (fun e => e.work.state) hview
    exact absurd (hstate.symm.trans hrun) hnot
  | started _ hview _ =>
    have hstate : r.trains[i].state = .starting := congrArg (fun e => e.work.state) hview
    exact nomatch (show TrainState.starting = .running from hstate.symm.trans hrun)
  | running hs hwork hsent => exact ⟨hs, hwork, hsent⟩
  | stopped _ _ hview =>
    have hstate : r.trains[i].state = .stopping := congrArg (fun e => e.work.state) hview
    exact nomatch (show TrainState.stopping = .running from hstate.symm.trans hrun)

/-- An entry that the passes send to STOPPING has a STOP waiting and no SET, no setpoint and a fresh stop timer. -/
theorem Passed.of_stopped (h : Passed s r i) (hrun : s.trains[i].state = .running) (hstop : r.trains[i].state = .stopping) :
    (⟨i, .stop⟩ : Cmd) ∈ r.link.cmds ∧ (∀ v, (⟨i, .set v⟩ : Cmd) ∉ r.link.cmds) ∧ r.disp.setpoints[i] = none ∧
      r.trains[i].timer = stopTimer i s := by
  cases h with
  | idle hnot _ _ _ => exact absurd hrun hnot
  | started hready _ _ => exact nomatch (show TrainState.ready = .running from hready.symm.trans hrun)
  | running _ hwork _ =>
    exact nomatch (show TrainState.running = .stopping from hrun.symm.trans (hwork ▸ hstop))
  | stopped _ cmds hview =>
    have hcmds : cmdsFor i r.link.cmds = enqueue ⟨i, .stop⟩ cmds := congrArg EntryView.cmds hview
    refine ⟨?_, fun v => ?_, congrArg EntryView.setpoint hview, congrArg (fun e => e.work.timer) hview⟩
    · rw [← mem_cmdsFor (i := i) rfl, hcmds]
      exact mem_enqueue_self ..
    · rw [← mem_cmdsFor (i := i) rfl, hcmds]
      exact set_not_mem_enqueue_stop i v cmds

/-- The passes issue nothing to an entry outside READY and RUNNING, and take away its setpoint's value alone, where it is LOST. -/
theorem Passed.of_idle (h : Passed s r i) (hrun : s.trains[i].state ≠ .running) (hready : s.trains[i].state ≠ .ready) :
    cmdsFor i r.link.cmds = cmdsFor i s.link.cmds ∧ (r.disp.setpoints[i] = s.disp.setpoints[i] ∨
      (s.trains[i].state = .lost ∧ r.disp.setpoints[i] = heldNothing s.disp.setpoints[i])) := by
  cases h with
  | idle _ sp hcut hview =>
    have hset : r.disp.setpoints[i] = sp := congrArg EntryView.setpoint hview
    exact ⟨congrArg EntryView.cmds hview, by rwa [hset]⟩
  | started h _ _ => exact absurd h hready
  | running h _ _ => exact absurd h hrun
  | stopped h _ _ => exact absurd h hrun

/-- What the passes raise: SHORTFALL as the shortfall passes from 0, and nothing else (R124). -/
def RaisesShortfall (s r : State) : Prop :=
  (s.disp.target = s.disp.clamped → r.disp.target ≠ r.disp.clamped → r.raised .shortfall) ∧
    ∀ n : Notice, n ≠ .shortfall → (r.raised n ↔ s.raised n)

theorem RaisesShortfall.refl (s : State) : RaisesShortfall s s := ⟨fun hs ht => absurd hs ht, fun _ _ => Iff.rfl⟩

theorem RaisesShortfall.of_formed (h : t.formed = r.formed) (hr : RaisesShortfall s r) : RaisesShortfall s t := by
  simp only [State.formed, Prod.mk.injEq] at h
  obtain ⟨htarget, hclamped, hnotices⟩ := h
  simpa only [RaisesShortfall, State.raised, htarget, hclamped, hnotices] using hr

theorem raised_raiseIf (b : Bool) (m n : Notice) (s : State) : (raiseIf b m s).raised n ↔ s.raised n ∨ (b = true ∧ n = m) := by
  cases b
  · simp [raiseIf]
  · simpa [raiseIf] using raised_raise m n s

theorem RaisesShortfall.formTarget (h : RaisesShortfall s r) : RaisesShortfall s (formTarget r) := by
  have hraised : ∀ n, (Machine.formTarget r).raised n ↔ r.raised n ∨
      ((decide (r.disp.target - r.disp.clamped = 0) && decide (targetOf r - clampedOf r (targetOf r) ≠ 0)) = true ∧
        n = .shortfall) := fun n => raised_raiseIf _ _ _ _
  have hdisp : (Machine.formTarget r).disp.target = targetOf r ∧
      (Machine.formTarget r).disp.clamped = clampedOf r (targetOf r) := by
    simp [Machine.formTarget]
  refine ⟨fun hs ht => ?_, fun n hn => ?_⟩
  · rw [hdisp.1, hdisp.2] at ht
    rw [hraised, Bool.and_eq_true, decide_eq_true_iff, decide_eq_true_iff]
    by_cases hr : r.disp.target = r.disp.clamped
    · exact .inr ⟨⟨by omega, by omega⟩, rfl⟩
    · exact .inl (h.1 hs hr)
  · rw [hraised, h.2 n hn]
    exact or_iff_left fun hc => hn hc.2

theorem RaisesShortfall.recomputeOnce (h : RaisesShortfall s r) : RaisesShortfall s (recomputeOnce r) := by
  have hformed := recomputeOnce_formed r
  generalize Machine.recomputeOnce r = u at hformed ⊢
  exact h.formTarget.of_formed hformed

theorem recompute_raisesShortfall (s : State) : RaisesShortfall s (recompute s) :=
  recompute_invariant (RaisesShortfall s) (fun _ h => h.recomputeOnce) s (.refl s)

end Passes

/-- A protected entry is allocated no less than its least stable power (R128 step 3). -/
theorem minStable_le_of_protected {s : State} {tc : Int} {kind : TrainKind} {i : Fin 8} {v : Nat}
    (hi : i ∈ protectedOf s tc kind) (hv : (i, v) ∈ allocateKind s tc kind) : (bandOf s i).2 ≤ v := by
  rw [allocateKind_eq, List.mem_append] at hv
  rcases hv with hv | hv
  · exact absurd hi (mem_unprotectedOf.1 (List.of_mem_zip hv).1).2
  · obtain ⟨j, hj⟩ := List.mem_iff_getElem?.1 hv
    obtain ⟨hentry, hvalue⟩ := List.getElem?_zip_eq_some.1 hj
    exact (spread_le hvalue (q := (bandOf s i).swap) (by rw [List.getElem?_map, hentry]; rfl)).1

/-- A pass gives 0 to an entry that it keeps in RUNNING only where the entry is protected with a least stable power of 0 (R129). -/
theorem passAllocation_zero {s : State} {i : Fin 8} (hrun : s.trains[i].state = .running)
    (hzero : (passAllocation s).lookup i = some 0) : i ∈ passProtected s →
    s.cfg.trains[i].minStableKw = 0 ∧ s.trains[i].runCount < s.cfg.trains[i].minRun ∧ s.disp.trip = false := by
  obtain ⟨v, hv, hmem⟩ := passAllocation_lookup_some s hrun
  obtain rfl := Option.some.inj (hv.symm.trans hzero)
  have htrains := passCut_trains s
  have hcfg := passCut_cfg s
  have htrip := trip_of_backdrop (passCut_backdrop s)
  generalize hkind : s.cfg.trains[i].kind = kind at hmem
  unfold passProtected
  generalize passCut s = u at hmem htrains hcfg htrip ⊢
  generalize passTarget s = tc at hmem ⊢
  intro h
  have hprot : i ∈ protectedOf u tc kind := by
    rcases List.mem_append.1 h with h | h <;>
      · obtain rfl : _ = kind := (protectedAt_of_mem h).2.symm.trans (by rw [hcfg, hkind])
        exact h
  have hleast := minStable_le_of_protected hprot hmem
  obtain ⟨-, hcount, hexposed⟩ := protectedAt_iff.1 (protectedAt_of_mem hprot).1
  rw [hcfg, htrains] at hcount
  simp only [exposedAt, Bool.or_eq_false_iff, htrip] at hexposed
  simp only [bandOf, hcfg] at hleast
  exact ⟨Nat.le_zero.1 hleast, hcount, hexposed.1.1⟩

end Sys2Proof.Machine
end

section
/-! O34 (RecomputeClampsAndActs): the last pass of a recompute, and the theorem. -/

namespace Sys2Proof.Machine

theorem runningCapacity_eq (s : State) (kind : TrainKind) : runningCapacity s kind =
    (((List.finRange 8).filter fun i => decide (s.cfg.trains[i].kind = kind ∧ s.trains[i].state = .running)).map fun i =>
      s.cfg.trains[i].ratedKw).sum + lostHeld s kind := by
  have hstate : isIn s kind .running = fun i => decide (s.cfg.trains[i].kind = kind ∧ s.trains[i].state = .running) := by
    funext i
    rw [isIn, Bool.decide_and]
  rw [runningCapacity, hstate]

/-- The target, the clamped target and SHORTFALL that a pass forms first, with the four clamps in one (R123, R124). -/
theorem formTarget_eq (s : State) {target clamped : Int} (ht : targetOf s = target) (hc : clampedOf s target = clamped) :
    formTarget s = raiseIf (decide (s.disp.target = s.disp.clamped ∧ target ≠ clamped)) .shortfall
      { s with disp := { s.disp with target := target, clamped := clamped } } := by
  subst ht hc
  have hshort : (decide (s.disp.target - s.disp.clamped = 0) && decide (targetOf s - clampedOf s (targetOf s) ≠ 0)) =
      decide (s.disp.target = s.disp.clamped ∧ targetOf s ≠ clampedOf s (targetOf s)) := by
    rw [Bool.eq_iff_iff]
    simp only [Bool.and_eq_true, decide_eq_true_iff]
    omega
  simp only [formTarget]
  rw [hshort]

section Last
variable (s : State)

/-- The last pass of a recompute moves no entry, and follows passes of which each entry shows what they made of it. -/
theorem recompute_lastPass : ∃ r, PassedAll s r ∧ recompute s = recomputeOnce r ∧
    ∀ i : Fin 8, (recomputeOnce r).trains[i].state = r.trains[i].state := by
  obtain ⟨r, hr, heq, hstill⟩ := recompute_last (P := PassedAll s) (fun _ h => h.step) (.refl s)
  exact ⟨r, hr, heq, (trainStates_eq_forall ..).1 hstill⟩

/-- The clamped target after a recompute is that of its last pass, on the roster that the recompute leaves. -/
theorem recompute_clamped : ∃ r, PassedAll s r ∧ (recompute s).disp.clamped = clampedOf r (targetOf s) ∧
    ∀ i : Fin 8, (recompute s).trains[i].state = r.trains[i].state := by
  obtain ⟨r, hr, heq, hstill⟩ := recompute_lastPass s
  refine ⟨r, hr, ?_, fun i => ?_⟩
  · rw [heq, recomputeOnce_clamped, passTarget_eq, targetOf_of_backdrop hr.1]
  · rw [heq]
    exact hstill i

theorem recompute_target : (recompute s).disp.target = targetOf s := by
  obtain ⟨r, hr, heq, -⟩ := recompute_lastPass s
  have hformed := recomputeOnce_formed r
  rw [← heq] at hformed
  have htarget : (formTarget r).disp.target = targetOf r := by simp [formTarget]
  generalize recompute s = t at hformed ⊢
  exact (congrArg Prod.fst hformed).trans (htarget.trans (targetOf_of_backdrop hr.1))

/-- The clamped target keeps the running capacity of the roster that a recompute leaves (R124 clamp 4). -/
theorem recompute_clamped_running (kind : TrainKind) : ∃ capacity : Nat,
    capacity ≤ (((List.finRange 8).filter fun i => decide (s.cfg.trains[i].kind = kind ∧
      (recompute s).trains[i].state = .running)).map fun i => s.cfg.trains[i].ratedKw).sum + lostHeld s kind ∧
    match kind with
    | .compressor => (recompute s).disp.clamped ≤ capacity
    | .expander => -(capacity : Int) ≤ (recompute s).disp.clamped := by
  obtain ⟨r, hr, hclamped, hstates⟩ := recompute_clamped s
  generalize recompute s = t at hclamped hstates ⊢
  refine ⟨runningCapacity r kind, ?_, ?_⟩
  · have hlost := hr.lostHeld_le kind
    simp only [runningCapacity_eq, cfg_of_backdrop hr.1, hstates]
    omega
  · have hrunning := clampedOf_running r (targetOf s)
    rw [hclamped]
    cases kind
    · exact hrunning.1
    · exact hrunning.2

/-- After a recompute a RUNNING entry has been sent the value it holds, and holds 0 only where it is protected with a least stable
power of 0 (R129). -/
theorem recompute_running {i : Fin 8} (hrun : (recompute s).trains[i].state = .running) :
    ∃ v, (recompute s).disp.setpoints[i] = some ⟨v, some v⟩ ∧
      (s.disp.setpoints[i].bind Setpoint.issued ≠ some v → (⟨i, .set v⟩ : Cmd) ∈ (recompute s).link.cmds) ∧
      (v = 0 → s.cfg.trains[i].minStableKw = 0 ∧ (recompute s).trains[i].runCount < s.cfg.trains[i].minRun ∧
        s.disp.trip = false) := by
  obtain ⟨r, hr, heq, hstill⟩ := recompute_lastPass s
  obtain ⟨-, hwork, hsent⟩ := ((recompute_passed s).2 i).of_running hrun
  have hrunr : r.trains[i].state = .running := by rw [← hstill i, ← heq, hrun]
  have hworkr := ((hr.2 i).of_running hrunr).2.1
  obtain ⟨v, hv, -⟩ := passAllocation_lookup_some r hrunr
  have hview := recomputeOnce_entryView_running r hrunr hv
  have hzero := fun h : v = 0 => passAllocation_zero hrunr (h ▸ hv)
  rw [← heq] at hview
  rw [cfg_of_backdrop hr.1, trip_of_backdrop hr.1, hworkr, ← hwork] at hzero
  generalize recompute s = t at hview hrun hwork hsent hzero ⊢
  split at hview
  · have hstop : t.trains[i].state = .stopping := congrArg (fun e => e.work.state) hview
    exact nomatch (show TrainState.running = .stopping from hrun.symm.trans hstop)
  · rename_i hkept
    have hset : t.disp.setpoints[i] = some ⟨v, some v⟩ := congrArg EntryView.setpoint hview
    refine ⟨v, hset, fun hnew => (hsent v (by rw [hset]; rfl)).resolve_left hnew, fun h0 => ?_⟩
    exact hzero h0 (not_not.1 fun hnot => hkept ⟨h0, hnot⟩)

end Last

/-- A recompute leaves everything but the roster, the dispatch unit, the command queue, the flag and SHORTFALL. -/
theorem recompute_frame (s : State) : RecomputeFrame s (recompute s) := by
  have h := recompute_backdrop s
  generalize recompute s = t at h ⊢
  have hrun : t.engine.run.map (fun r : Run => { r with stale := false }) =
      s.engine.run.map fun r => { r with stale := false } := congrArg (·.engine.run) h
  exact {
    now := now_of_backdrop h
    free := congrArg (·.free) h
    pins := congrArg (·.pins) h
    cfg := cfg_of_backdrop h
    book := congrArg (·.book) h
    queue := congrArg (·.queue) h
    live := live_of_backdrop h
    closed := congrArg (·.engine.closed) h
    runCount := congrArg (·.engine.runCount) h
    snap := congrArg (·.engine.snap) h
    runKept := by simpa [Function.comp_def] using congrArg (Option.map fun r : Run => (r.kind, r.subject, r.copy)) hrun
    caverns := congrArg (·.caverns) h
    store := congrArg (·.store) h
    scan := congrArg (·.scan) h
    clock := clock_of_backdrop h
    link := by
      have hlink : { t.link with cmds := [] } = { s.link with cmds := [] } := congrArg (·.link) h
      exact congrArg (fun l => { l with cmds := t.link.cmds }) hlink
    nv := congrArg (·.nv) h
    port := congrArg (·.port) h
    pending := congrArg (·.pending) h }

/-- Settles O34: the target and its clamps as one formula, what the passes leave of each entry, the recomputes that follow one
another, and the frame with the bounds of the clamped target. -/
theorem recomputeClampsAndActs : Obligations.RecomputeClampsAndActs := by
  unfold Obligations.RecomputeClampsAndActs
  refine ⟨fun s => ?_, fun s => ⟨fun h => ?_, fun ⟨i, hi⟩ => ?_⟩, fun s => ?_⟩
  · intro powers rated lost target grid cut allowed clamped
    have htarget : targetOf s = target := by
      simp only [targetOf, target]
      cases s.disp.openTally <;> rfl
    have hlost : ∀ kind, lostHeld s kind = lost kind := lostHeld_eq s
    have hcapacity : ∀ kind, runningCapacity s kind = rated kind + lost kind := fun kind => by
      rw [runningCapacity_eq, hlost]
    have hclamped : clampedOf s target = clamped := by
      rw [clampedOf, clampTrip_clampInhibit, clampRunning, hcapacity, hcapacity]
      rfl
    refine ⟨formTarget_eq s htarget hclamped, banAgainst_compressor_iff s, banAgainst_expander_iff s, ?_⟩
    have hraises := recompute_raisesShortfall s
    have hpassed := recompute_passed s
    have hformed := recompute_target s
    have hcompressor := recompute_clamped_running s .compressor
    have hexpander := recompute_clamped_running s .expander
    have hrunning := fun i => recompute_running s (i := i)
    generalize recompute s = u at hraises hpassed hformed hcompressor hexpander hrunning ⊢
    rintro t rfl ratedAfter
    obtain ⟨top, htop, hle⟩ := hcompressor
    obtain ⟨bottom, hbottom, hge⟩ := hexpander
    rw [hlost] at htop hbottom
    refine ⟨hformed.trans htarget, ?_, ?_, hraises.1, hraises.2, fun i => ⟨hrunning i, ?_, fun hrun hready => ?_⟩⟩
    · exact hle.trans (Int.ofNat_le.2 htop)
    · exact (Int.neg_le_neg (Int.ofNat_le.2 hbottom)).trans hge
    · exact (hpassed.2 i).of_stopped
    · obtain ⟨hcmds, hset⟩ := (hpassed.2 i).of_idle hrun hready
      refine ⟨fun c hc => ?_, fun hstart => ?_, fun _ => hset.imp_right And.right⟩
      · rw [← mem_cmdsFor hc, hcmds, mem_cmdsFor hc]
      · exact hset.resolve_right fun h => nomatch (show TrainState.starting = .lost from hstart.symm.trans h.1)
  · exact recompute_of_still ((trainStates_eq_forall ..).2 h)
  · exact recompute_of_moved fun h => hi ((trainStates_eq_forall ..).1 h i)
  · have hframe := recompute_frame s
    have hback := recompute_backdrop s
    have htarget := recompute_target s
    obtain ⟨r, hr, hclamped, -⟩ := recompute_clamped s
    generalize recompute s = u at hframe hback htarget hclamped ⊢
    intro t
    have hgrid := clampedOf_grid r (targetOf s)
    have hbetween := clampedOf_between r (targetOf s)
    have hnear := clampGrid_between r.cfg.site (targetOf s)
    rw [← hclamped, cfg_of_backdrop hr.1] at hgrid hbetween
    rw [cfg_of_backdrop hr.1] at hnear
    refine ⟨hframe, htarget, hgrid.1, hgrid.2, fun h => ?_, fun h => ?_, fun h => ?_, fun h => ?_, fun h => ?_,
      trip_of_backdrop hback, expanderHold_of_backdrop hback, openTally_of_backdrop hback, congrArg (·.disp.closedTally) hback,
      congrArg (·.disp.replyMarks) hback⟩
    · rw [htarget] at h ⊢
      exact ⟨(hbetween.1 h).1, (hbetween.1 h).2.trans (hnear.1 h).2⟩
    · rw [htarget] at h ⊢
      exact ⟨(hnear.2 h).1.trans (hbetween.2 h).1, (hbetween.2 h).2⟩
    · exact hclamped.trans (clampedOf_of_trip r (by rwa [trip_of_backdrop hr.1]) _)
    · exact hclamped.trans_le (clampedOf_of_ban_compressor r (by rwa [banAgainst_of_backdrop hr.1]) _)
    · exact (clampedOf_of_ban_expander r (by rwa [banAgainst_of_backdrop hr.1]) _).trans_eq hclamped.symm

end Sys2Proof.Machine
end

section
/-! O37 (TallyCreditsAndBoundary). -/

namespace Sys2Proof.Machine

/-! ### The tally at a boundary (R121, R131, R138, R139) -/

section Boundary
variable (s : State)

theorem creditRecord_disp (key n due delivered : Nat) : (creditRecord key n due delivered s).disp = s.disp := by
  unfold creditRecord
  split
  · rfl
  · split
    · simp [leaveBook, dropItem]
    · simp

/-- The credits of a closing tally leave the dispatch unit as it was. -/
theorem foldl_creditRecord_disp (n : Nat) (l : List Credit) :
    (l.foldl (fun s c => creditRecord c.member.key n c.due c.delivered s) s).disp = s.disp :=
  foldl_keeps State.disp _ (fun s _ => creditRecord_disp s _ _ _ _) l s

theorem closeTally_none (h : s.disp.openTally = none) : closeTally s = s := by
  unfold closeTally
  rw [h]

theorem closeTally_some {o : OpenTally} (h : s.disp.openTally = some o) :
    closeTally s = { (closedTallyOf o).credits.foldl
      (fun b c => creditRecord c.member.key o.interval c.due c.delivered b) s with
      disp := { s.disp with openTally := none, closedTally := some (closedTallyOf o) } } := by
  unfold closeTally
  rw [h]
  simp only [foldl_creditRecord_disp]

theorem closeTally_changeCount : (closeTally s).disp.changeCount = s.disp.changeCount := by
  cases h : s.disp.openTally with
  | none => rw [closeTally_none s h]
  | some o => rw [closeTally_some s h]

theorem mem_membersFor (n : Nat) (m : Member) : m ∈ membersFor s n ↔ ∃ (i : Fin 128) (r : Record), s.book[i].record = some r ∧
    (r.state = .firm ∨ r.state = .active) ∧ r.start ≤ n ∧ n < r.start + r.length ∧
    m = ⟨s.book[i].gen * 128 + i.val, r.dir, r.powerAt n⟩ := by
  simp only [membersFor, List.mem_insertionSort, List.mem_filterMap, List.mem_finRange, true_and, memberOf,
    Option.bind_eq_some_iff, Option.ite_none_right_eq_some, Option.some.injEq, Record.spans, Bool.and_eq_true,
    decide_eq_true_iff, keyOf, and_assoc]
  simp only [eq_comm (b := m)]

/-- The members of a tally stand in the order of their keys, which no two share (R138). -/
theorem pairwise_membersFor (n : Nat) : ((membersFor s n).map Member.key).Pairwise (· < ·) := by
  set found := (List.finRange 128).filterMap fun i => memberOf i s.book[i] n with hfound
  have hkey : ∀ (i : Fin 128) (m : Member), memberOf i s.book[i] n = some m → m.key % 128 = i.val := by
    intro i m h
    simp only [memberOf, Option.bind_eq_some_iff, Option.ite_none_right_eq_some, Option.some.injEq] at h
    obtain ⟨r, -, -, rfl⟩ := h
    have := i.isLt
    simp only [keyOf]
    omega
  have hdistinct : found.Pairwise fun a b => a.key ≠ b.key := by
    rw [hfound, List.pairwise_filterMap]
    refine (List.nodup_finRange 128).imp fun {i j} hij a ha b hb hab => hij (Fin.ext ?_)
    rw [← hkey i a ha, ← hkey j b hb, hab]
  have : Std.Total fun a b : Member => a.key ≤ b.key := ⟨fun a b => Nat.le_total ..⟩
  have : IsTrans Member fun a b => a.key ≤ b.key := ⟨fun a b c => Nat.le_trans⟩
  have hsorted : (membersFor s n).Pairwise fun a b => a.key ≤ b.key := List.pairwise_insertionSort _ _
  have hperm : (membersFor s n).Perm found := List.perm_insertionSort _ _
  have hne : (membersFor s n).Pairwise fun a b => a.key ≠ b.key :=
    (hperm.pairwise_iff fun h => h.symm).2 hdistinct
  rw [List.pairwise_map]
  exact (hsorted.and hne).imp fun h => Nat.lt_of_le_of_ne h.1 h.2

end Boundary

/-! ### The credits (R135 to R137) -/

/-- A member's credit, from the net direction and the shares of its pool. -/
def creditOf (net : Option Direction) (shares : List (Nat × Nat)) (m : Member) : Credit :=
  ⟨m, dueOf m.power, if net = some m.dir then (shares.lookup m.key).getD 0 else dueOf m.power⟩

theorem lookup_map_keys (shares : List (Nat × Nat)) (h : (shares.map Prod.fst).Nodup) :
    ((shares.map Prod.fst).map fun k => (shares.lookup k).getD 0) = shares.map Prod.snd := by
  rw [List.map_map]
  refine List.map_congr_left fun q hq => ?_
  rw [Function.comp_apply, lookup_of_mem h hq]
  rfl

section Pool
variable (pool total : Nat) (ms : List Member)

/-- A member's floored part of a pool. -/
def poolPart (m : Member) : Nat := pool * m.power / total

theorem poolShares_cons (m : Member) : poolShares pool total (m :: ms) =
    (m.key, poolPart pool total m + (pool - (poolPart pool total m + (ms.map (poolPart pool total)).sum))) ::
      ms.map fun l => (l.key, poolPart pool total l) := by
  simp only [poolShares, List.map_cons, List.sum_cons, List.map_map]
  rfl

theorem map_fst_poolShares : (poolShares pool total ms).map Prod.fst = ms.map Member.key := by
  cases ms with
  | nil => rfl
  | cons m ms =>
    rw [poolShares_cons]
    simp

/-- The shares of a pool sum to it exactly: the remainder goes to the first member (R136). -/
theorem sum_poolShares (htotal : (ms.map Member.power).sum = total) (hpos : 0 < total) :
    ((poolShares pool total ms).map Prod.snd).sum = pool := by
  cases ms with
  | nil => simp at htotal; omega
  | cons m ms =>
    have hle := sum_map_div_le pool total ((m :: ms).map Member.power)
    rw [htotal, Nat.mul_div_cancel _ hpos, List.map_map] at hle
    have hparts : ((m :: ms).map (poolPart pool total)).sum ≤ pool := hle
    rw [List.map_cons, List.sum_cons] at hparts
    rw [poolShares_cons, List.map_cons, List.sum_cons, List.map_map]
    have hrest : (Prod.snd ∘ fun l : Member => (l.key, poolPart pool total l)) = poolPart pool total := rfl
    rw [hrest]
    omega

variable {pool total ms}

/-- A member's share is its part, and no less where it is the first. -/
theorem lookup_poolShares (hkeys : (ms.map Member.key).Pairwise (· < ·)) {m : Member} (hm : m ∈ ms) :
    ∃ v, (poolShares pool total ms).lookup m.key = some v ∧ poolPart pool total m ≤ v ∧
      ((∃ d ∈ ms, d.key < m.key) → v = poolPart pool total m) := by
  have hnodup : ((poolShares pool total ms).map Prod.fst).Nodup := by
    rw [map_fst_poolShares]
    exact hkeys.imp Nat.ne_of_lt
  cases ms with
  | nil => simp at hm
  | cons a ms =>
    rw [List.map_cons, List.pairwise_cons] at hkeys
    rw [poolShares_cons] at hnodup ⊢
    rcases List.mem_cons.1 hm with rfl | hm
    · refine ⟨_, lookup_of_mem hnodup List.mem_cons_self, Nat.le_add_right .., ?_⟩
      rintro ⟨d, hd, hlt⟩
      rcases List.mem_cons.1 hd with rfl | hd
      · exact absurd hlt (Nat.lt_irrefl _)
      · exact absurd hlt (Nat.lt_asymm (hkeys.1 d.key (List.mem_map_of_mem hd)))
    · refine ⟨_, lookup_of_mem hnodup (List.mem_cons_of_mem _ (List.mem_map_of_mem hm)), Nat.le_refl _, fun _ => rfl⟩

end Pool

/-- The credits of a tally with a net direction: the members of the other direction are credited their due, and those of the net
direction share the pool by power, the remainder to the lowest key (R136). -/
theorem credits_share {ms : List Member} (hkeys : (ms.map Member.key).Pairwise (· < ·)) {net other : Direction}
    (hother : other ≠ net) {pool : Nat} (hpos : 0 < powerOf net ms) {credits : List Credit}
    (hcredits : credits = ms.map (creditOf (some net) (poolShares pool (powerOf net ms) (ms.filter (Member.isOf net))))) :
    (∀ c ∈ credits, c.member.dir = other → c.delivered = c.due) ∧
    ((credits.filter fun c => c.member.dir == net).map Credit.delivered).sum = pool ∧
    (∀ c ∈ credits, c.member.dir = net → (∃ d ∈ ms, d.dir = net ∧ d.key < c.member.key) →
      c.delivered = pool * c.member.power / powerOf net ms) ∧
    ∀ c ∈ credits, c.member.dir = net → pool * c.member.power / powerOf net ms ≤ c.delivered := by
  subst hcredits
  set mine := ms.filter (Member.isOf net) with hmine
  set shares := poolShares pool (powerOf net ms) mine with hshares
  have hsub : (mine.map Member.key).Pairwise (· < ·) :=
    hkeys.sublist ((List.filter_sublist).map Member.key)
  have hmem : ∀ m ∈ ms, m.dir = net → m ∈ mine := fun m hm hd => List.mem_filter.2 ⟨hm, decide_eq_true hd⟩
  have hdelivered : ∀ m : Member, m.dir = net →
      (creditOf (some net) shares m).delivered = (shares.lookup m.key).getD 0 := fun m hd => if_pos (by rw [hd])
  refine ⟨fun c hc hd => ?_, ?_, fun c hc hd hlow => ?_, fun c hc hd => ?_⟩
  · obtain ⟨m, -, rfl⟩ := List.mem_map.1 hc
    exact if_neg fun h => hother (hd.symm.trans (Option.some.inj h).symm)
  · have hfilter : ((ms.map (creditOf (some net) shares)).filter fun c => c.member.dir == net) =
        mine.map (creditOf (some net) shares) := List.filter_map ..
    have hvalues : (mine.map (creditOf (some net) shares)).map Credit.delivered = shares.map Prod.snd := by
      rw [← lookup_map_keys shares (by rw [hshares, map_fst_poolShares]; exact hsub.imp Nat.ne_of_lt), hshares,
        map_fst_poolShares, List.map_map, List.map_map]
      exact List.map_congr_left fun m hm => hdelivered m (of_decide_eq_true (List.mem_filter.1 hm).2)
    rw [hfilter, hvalues]
    exact sum_poolShares pool _ mine rfl hpos
  · obtain ⟨m, hm, rfl⟩ := List.mem_map.1 hc
    obtain ⟨v, hv, -, hpart⟩ := lookup_poolShares (pool := pool) (total := powerOf net ms) hsub (hmem m hm hd)
    obtain ⟨d, hdm, hdd, hlt⟩ := hlow
    rw [hdelivered m hd, hshares, hv]
    exact hpart ⟨d, hmem d hdm hdd, hlt⟩
  · obtain ⟨m, hm, rfl⟩ := List.mem_map.1 hc
    obtain ⟨v, hv, hle, -⟩ := lookup_poolShares (pool := pool) (total := powerOf net ms) hsub (hmem m hm hd)
    rw [hdelivered m hd, hshares, hv]
    exact hle

/-! ### The closed tally -/

section Closed
variable (ms : List Member) (compressorWh expanderWh : Nat)

theorem creditsOf_charge (h : powerOf .discharge ms < powerOf .charge ms) : creditsOf ms compressorWh expanderWh =
    ms.map (creditOf (some .charge) (poolShares (powerOf .discharge ms * 1000 / 12 + (compressorWh - expanderWh))
      (powerOf .charge ms) (ms.filter (Member.isOf .charge)))) := by
  simp only [creditsOf, netDirection, if_pos h, ePhysOf]
  rfl

theorem creditsOf_discharge (h : powerOf .charge ms < powerOf .discharge ms) : creditsOf ms compressorWh expanderWh =
    ms.map (creditOf (some .discharge) (poolShares (powerOf .charge ms * 1000 / 12 + (expanderWh - compressorWh))
      (powerOf .discharge ms) (ms.filter (Member.isOf .discharge)))) := by
  simp only [creditsOf, netDirection, if_pos h, if_neg (Nat.lt_asymm h), ePhysOf]
  rfl

theorem creditsOf_even (h : powerOf .charge ms = powerOf .discharge ms) :
    creditsOf ms compressorWh expanderWh = ms.map (creditOf none []) := by
  simp only [creditsOf, netDirection, h, lt_irrefl, if_false]
  rfl

/-- Each member has a credit, at its own due (R135). -/
theorem creditsOf_members : (creditsOf ms compressorWh expanderWh).map Credit.member = ms ∧
    ∀ c ∈ creditsOf ms compressorWh expanderWh, c.due = c.member.power * 1000 / 12 := by
  have hform : ∃ net shares, creditsOf ms compressorWh expanderWh = ms.map (creditOf net shares) := ⟨_, _, rfl⟩
  obtain ⟨net, shares, hform⟩ := hform
  rw [hform, List.map_map]
  refine ⟨List.map_id' ms, fun c hc => ?_⟩
  obtain ⟨m, -, rfl⟩ := List.mem_map.1 hc
  rfl

end Closed

/-- Settles O37: the boundary of the dispatch unit, and the credits of a closed tally by its net direction. -/
theorem tallyCreditsAndBoundary : Obligations.TallyCreditsAndBoundary := by
  unfold Obligations.TallyCreditsAndBoundary
  refine ⟨fun ended n s => ⟨closeTally s, countChangeover (openTallyFor n (closeTally s)), rfl, closeTally_none s,
    fun o ho => closeTally_some s ho, membersFor (closeTally s) n, ?_, pairwise_membersFor _ n, mem_membersFor _ n⟩,
    fun t hkeys => ?_⟩
  · have hcount : incTo 3 (closeTally s).disp.changeCount =
        if s.disp.changeCount < 3 then s.disp.changeCount + 1 else 3 := by
      rw [closeTally_changeCount, incTo]
      split_ifs <;> omega
    rw [← hcount]
    rfl
  · intro z sumOf comp exp creditedOf roles
    obtain ⟨hmembers, hdue⟩ := creditsOf_members t.members comp exp
    refine ⟨rfl, hmembers, hdue, rfl, rfl, rfl, rfl, fun h => ?_, fun h => ?_, fun h => ?_⟩
    · have hshares := credits_share hkeys (other := .discharge) (by decide) (Nat.zero_lt_of_lt h)
        (creditsOf_charge t.members comp exp h)
      refine ⟨?_, hshares⟩
      exact congrArg (ePhysOf · comp exp) (if_pos h)
    · have hshares := credits_share hkeys (other := .charge) (by decide) (Nat.zero_lt_of_lt h)
        (creditsOf_discharge t.members comp exp h)
      refine ⟨?_, hshares⟩
      exact congrArg (ePhysOf · comp exp) ((if_neg (Nat.lt_asymm h)).trans (if_pos h))
    · have hnone : netDirection (sumOf .charge) (sumOf .discharge) = none := by
        rw [netDirection, h, if_neg (Nat.lt_irrefl _), if_neg (Nat.lt_irrefl _)]
      refine ⟨congrArg (ePhysOf · comp exp) hnone, fun c hc => ?_⟩
      have hcredits : z.credits = _ := creditsOf_even t.members comp exp h
      rw [hcredits] at hc
      obtain ⟨m, -, rfl⟩ := List.mem_map.1 hc
      rfl

end Sys2Proof.Machine
end

section
/-! SUPPORT. What keeps the invariants of directions and setpoints (R128, R129, R132): the relation between two states that every
command of the machine but SET_TRAIN, SET_SITE and the resets is made of, and the operations that leave the fleet as it was. -/

namespace Sys2Proof.Machine

/-! ### The relation -/

/-- What ties the roster to its settings and to the link holds on, and so then do the directions and the setpoints. -/
def Safe (s t : State) : Prop :=
  s.fleet.Linked → t.fleet.Linked ∧ (s.fleet.Unopposed → t.fleet.Unopposed) ∧ (s.fleet.Sound → t.fleet.Sound)

namespace Safe
variable {s t u : State}

protected theorem refl (s : State) : Safe s s := fun h => ⟨h, id, id⟩

protected theorem trans (h : Safe s t) (h' : Safe t u) : Safe s u := fun hs => by
  obtain ⟨ht, hup, hsound⟩ := h hs
  obtain ⟨hu, hup', hsound'⟩ := h' ht
  exact ⟨hu, hup' ∘ hup, hsound' ∘ hsound⟩

theorem of_fleet (h : t.fleet = s.fleet) : Safe s t := by
  unfold Safe
  rw [h]
  exact Safe.refl s

theorem of_comes (h : Comes s t) : Safe s t := fun hs => ⟨h.linked hs, h.unopposed, h.sound⟩

/-- A move of the fleet, for which the ties of the roster may be used. -/
theorem of_move (h : s.fleet.Linked → Fleet.Move s.fleet t.fleet) : Safe s t := fun hs => of_comes (.of_move (h hs)) hs

/-- What follows an operation that leaves the fleet as it was. -/
theorem of_fleet_left (h : t.fleet = s.fleet) (h' : Safe t u) : Safe s u := (of_fleet h).trans h'

/-- What an operation that leaves the fleet as it was follows. -/
theorem of_fleet_right (h : Safe s t) (h' : u.fleet = t.fleet) : Safe s u := h.trans (of_fleet h')

theorem ite {c : Prop} [Decidable c] {a b : State} (ha : Safe s a) (hb : Safe s b) : Safe s (if c then a else b) := by
  split <;> assumption

theorem foldl {α : Type} (f : State → α → State) (h : ∀ s a, Safe s (f s a)) (l : List α) (s : State) : Safe s (l.foldl f s) :=
  foldl_invariant (Safe s) f (fun t a ht => ht.trans (h t a)) l s (.refl s)

theorem directions (h : Safe s t) (hs : DirectionsSound s) : DirectionsSound t := by
  obtain ⟨hlinked, hup⟩ := (directionsSound_iff s).1 hs
  obtain ⟨ht, hdir, -⟩ := h hlinked
  exact (directionsSound_iff t).2 ⟨ht, hdir hup⟩

theorem setpoints (h : Safe s t) (hs : SetpointsSound s) : SetpointsSound t := by
  obtain ⟨hlinked, hstanding, hrated, hbounded⟩ := (setpointsSound_iff s).1 hs
  obtain ⟨ht, -, hset⟩ := h hlinked
  obtain ⟨hstanding', hrated', hbounded'⟩ := hset ⟨hstanding, hrated, hbounded⟩
  exact (setpointsSound_iff t).2 ⟨ht, hstanding', hrated', hbounded'⟩

end Safe

theorem recompute_safe (s : State) : Safe s (recompute s) := .of_comes (recompute_comes s)

theorem recomputeIf_safe (b : Bool) (s : State) : Safe s (recomputeIf b s) := .of_comes (recomputeIf_comes b s)

/-! ### Operations that leave the fleet as it was -/

section Kept
variable (s : State)

theorem fleet_ite {c : Prop} [Decidable c] {a b : State} (ha : a.fleet = s.fleet) (hb : b.fleet = s.fleet) :
    (if c then a else b).fleet = s.fleet := by split <;> assumption

@[simp] theorem fleet_with_now (x : Nat) : ({ s with now := x } : State).fleet = s.fleet := rfl
@[simp] theorem fleet_with_pins (x : Pins) : ({ s with pins := x } : State).fleet = s.fleet := rfl
@[simp] theorem fleet_with_book (x : Vector BookSlot 128) : ({ s with book := x } : State).fleet = s.fleet := rfl
@[simp] theorem fleet_with_queue (x : List Item) : ({ s with queue := x } : State).fleet = s.fleet := rfl
@[simp] theorem fleet_with_engine (x : Engine) : ({ s with engine := x } : State).fleet = s.fleet := rfl
@[simp] theorem fleet_with_caverns (x : Vector CavernWork 4) : ({ s with caverns := x } : State).fleet = s.fleet := rfl
@[simp] theorem fleet_with_store (x : StoreWork) : ({ s with store := x } : State).fleet = s.fleet := rfl
@[simp] theorem fleet_with_scan (x : Scanner) : ({ s with scan := x } : State).fleet = s.fleet := rfl
@[simp] theorem fleet_with_clock (x : Clock) : ({ s with clock := x } : State).fleet = s.fleet := rfl
@[simp] theorem fleet_with_notices (x : Notices) : ({ s with notices := x } : State).fleet = s.fleet := rfl
@[simp] theorem fleet_with_port (x : Port) : ({ s with port := x } : State).fleet = s.fleet := rfl
@[simp] theorem fleet_with_pending (x : List Instr) : ({ s with pending := x } : State).fleet = s.fleet := rfl

@[simp] theorem raise_fleet (n : Notice) : (raise n s).fleet = s.fleet := rfl
@[simp] theorem raiseIf_fleet (b : Bool) (n : Notice) : (raiseIf b n s).fleet = s.fleet := by cases b <;> rfl
@[simp] theorem setVerify_fleet : (setVerify s).fleet = s.fleet := rfl
@[simp] theorem setVerifyIf_fleet (b : Bool) : (setVerifyIf b s).fleet = s.fleet := by cases b <;> rfl
@[simp] theorem answer_fleet (r : ResultCode) (b : Body) : (answer r b s).fleet = s.fleet := rfl
@[simp] theorem reply_fleet (r : ResultCode) : (reply r s).fleet = s.fleet := rfl
@[simp] theorem issue_fleet (c : Cmd) : (issue c s).fleet = s.fleet := rfl
@[simp] theorem putIdent_fleet (i : Fin 8) : (putIdent i s).fleet = s.fleet := fleet_ite s rfl rfl

variable {s} in
/-- A change of the link that keeps the poll marks and, of the transaction in flight, its entry and whether it is disowned, keeps
the fleet. -/
theorem fleet_with_link {l : Link} (hpolls : l.polls = s.link.polls) (f : Txn → Txn) (hslot : l.slot = s.link.slot.map f)
    (hf : ∀ t, (f t).entry = t.entry ∧ (f t).disowned = t.disowned) : ({ s with link := l } : State).fleet = s.fleet := by
  have hflight : l.slot.map (fun t => (t.entry, t.disowned)) = s.link.slot.map fun t => (t.entry, t.disowned) := by
    rw [hslot, Option.map_map]
    exact congrArg (Option.map · s.link.slot) (funext fun t => Prod.ext (hf t).1 (hf t).2)
  simp only [State.fleet, hflight, hpolls]

@[simp] theorem putIdentAfter_fleet (i : Fin 8) : (putIdentAfter i s).fleet = s.fleet :=
  fleet_ite s (fleet_with_link rfl (fun t => { t with identAfter := true }) rfl fun _ => ⟨rfl, rfl⟩) (putIdent_fleet s i)

@[simp] theorem withdrawIdent_fleet (i : Fin 8) : (withdrawIdent i s).fleet = s.fleet :=
  fleet_with_link rfl (Txn.withoutIdentAfter i) rfl fun t => by unfold Txn.withoutIdentAfter; split <;> exact ⟨rfl, rfl⟩

@[simp] theorem disownForwards_fleet : (disownForwards s).fleet = s.fleet :=
  fleet_with_link rfl Txn.forwardDisowned rfl fun t => by unfold Txn.forwardDisowned; split <;> exact ⟨rfl, rfl⟩

@[simp] theorem sequenceError_fleet : (sequenceError s).fleet = s.fleet := disownForwards_fleet s

variable {s}

theorem Safe.replied {t : State} {r : ResultCode} (h : Safe s t) : Safe s (reply r t) := h.of_fleet_right (reply_fleet t r)

/-- A request is safe where the command it carries is: a request out of turn leaves the fleet as it was (R191). -/
theorem station_safe {act : State → State} (h : ∀ s, Safe s (act s)) : Safe s (station act s) := by
  by_cases hi : s.port.state = .idle
  · rw [station_idle hi]
    exact .of_fleet_left rfl (h s.taken)
  · rw [station_busy hi]
    exact .of_fleet (sequenceError_fleet s)

theorem station_fleet {act : State → State} (h : ∀ s, (act s).fleet = s.fleet) : Safe s (station act s) :=
  station_safe fun s => .of_fleet (h s)

/-- A settings-class write is safe where the command is: BUSY leaves the fleet as it was (R198). -/
theorem settingsWrite_safe {act : State → State} (h : ∀ s, Safe s (act s)) : Safe s (settingsWrite act s) :=
  .ite (.of_fleet rfl) (h s)

theorem settingsWrite_fleet {act : State → State} (h : ∀ s, (act s).fleet = s.fleet) : Safe s (settingsWrite act s) :=
  settingsWrite_safe fun s => .of_fleet (h s)

end Kept

/-! ### The book and the engine -/

section Book
variable (s : State)

@[simp] theorem setRecord_fleet (key : Nat) (r : Record) : (setRecord key r s).fleet = s.fleet := by simp [State.fleet]
@[simp] theorem freeRecord_fleet (key : Nat) : (freeRecord key s).fleet = s.fleet := by simp [State.fleet]
@[simp] theorem dropItem_fleet (key : Nat) : (dropItem key s).fleet = s.fleet := rfl
@[simp] theorem pushItem_fleet (it : Item) : (pushItem it s).fleet = s.fleet := rfl
@[simp] theorem leaveBook_fleet (key : Nat) (r : Record) : (leaveBook key r s).fleet = s.fleet := by simp [leaveBook]
@[simp] theorem makeRecord_fleet (i : Fin 128) (r : Record) : (makeRecord i r s).fleet = s.fleet := rfl

theorem bookAct_fleet (p : BookParams) : (bookAct p s).fleet = s.fleet := by
  unfold bookAct
  split
  · simp
  · split
    · refine fleet_ite s rfl (fleet_ite s rfl (fleet_ite s rfl ?_))
      split
      · simp
      · exact fleet_ite s rfl rfl
    · simp

theorem confirmAct_fleet (key : Nat) : (confirmAct key s).fleet = s.fleet := by
  unfold confirmAct
  split
  · simp
  · split <;> simp

theorem amendAct_fleet (p : AmendParams) : (amendAct p s).fleet = s.fleet := by
  unfold amendAct
  split
  · simp
  · rename_i r _
    refine fleet_ite s rfl (fleet_ite s rfl ?_)
    simp only
    cases amendGate (filledAmendment p r s.clock.interval) r s with
    | some code => rfl
    | none => exact fleet_ite s rfl (by simp)

theorem retireAct_fleet (key : Nat) : (retireAct key s).fleet = s.fleet := by
  unfold retireAct
  split
  · simp
  · unfold retireRecord
    split <;> simp

@[simp] theorem creditRecord_fleet (key n due delivered : Nat) : (creditRecord key n due delivered s).fleet = s.fleet := by
  unfold creditRecord
  split
  · rfl
  · simp only
    split <;> simp

theorem closeTally_fleet : (closeTally s).fleet = s.fleet := by
  unfold closeTally
  split
  · rfl
  · have hbook : ∀ (t : State) (l : List Credit) (n : Nat), (l.foldl
        (fun s c => creditRecord c.member.key n c.due c.delivered s) t).fleet = t.fleet :=
      fun t l n => foldl_keeps State.fleet _ (fun s c => creditRecord_fleet s _ _ _ _) l t
    exact hbook s _ _

theorem bookBoundaryAt_fleet (n : Nat) (i : Fin 128) : (bookBoundaryAt n i s).fleet = s.fleet := by
  unfold bookBoundaryAt
  split
  · rfl
  · simp only
    split_ifs <;> simp

theorem bookBoundary_fleet (n : Nat) : (bookBoundary n s).fleet = s.fleet :=
  foldl_keeps State.fleet _ (fun s i => bookBoundaryAt_fleet s n i) _ s

theorem writeMark_fleet (copy : RunCopy) (table : List ProjSlot) (q : State × Bool) (r : Counted) :
    (writeMark copy table q r).1.fleet = q.1.fleet := by
  unfold writeMark
  split
  · split <;> simp
  · rfl

@[simp] theorem writeMarks_fleet (copy : RunCopy) (table : List ProjSlot) : (writeMarks copy table s).fleet = s.fleet := by
  rw [writeMarks, raiseIf_fleet]
  have hfold : ∀ (l : List Counted) (q : State × Bool), (l.foldl (writeMark copy table) q).1.fleet = q.1.fleet := by
    intro l
    induction l with
    | nil => intro q; rfl
    | cons r l ih => intro q; rw [List.foldl_cons, ih, writeMark_fleet]
  exact hfold _ _

@[simp] theorem startRun_fleet (candidate : Option Item) : (startRun candidate s).fleet = s.fleet := rfl
@[simp] theorem dropRun_fleet : (dropRun s).fleet = s.fleet := rfl
@[simp] theorem goLive_fleet (run : Run) (table : List ProjSlot) : (goLive run table s).fleet = s.fleet := rfl

theorem considerRun_fleet : (considerRun s).fleet = s.fleet := by
  unfold considerRun
  split
  · rfl
  · split
    · rfl
    · split <;> rfl

theorem engineBoundary_fleet (n : Nat) : (engineBoundary n s).fleet = s.fleet := by
  have hshift : ∀ t : State, (shiftLive n t).fleet = t.fleet := fun t => by
    unfold shiftLive
    split <;> rfl
  unfold engineBoundary
  simp only
  split
  · rw [startRun_fleet, hshift]
    rfl
  · rw [hshift]
    rfl

theorem completeVerification_safe (run : Run) : Safe s (completeVerification run s) :=
  .of_fleet_left (by simp) (recompute_safe (writeMarks run.copy (runTable run.copy) (goLive run (runTable run.copy) s)))

end Book

end Sys2Proof.Machine
end

section
/-! SUPPORT. The caverns, the heat store, the scanner and the clock, which leave the fleet as it was, and the runs' completions. -/

namespace Sys2Proof.Machine

section Measured
variable (s : State)

/-! ### The caverns -/

@[simp] theorem setCavernWork_fleet (i : Fin 4) (w : CavernWork) : (setCavernWork i w s).fleet = s.fleet := rfl
@[simp] theorem setCavernCfg_fleet (i : Fin 4) (c : CavernCfg) : (setCavernCfg i c s).fleet = s.fleet := rfl
@[simp] theorem formMass_fleet (i : Fin 4) (p : Nat) : (formMass i p s).fleet = s.fleet := by simp [formMass]
@[simp] theorem refreshStartMass_fleet (i : Fin 4) : (refreshStartMass i s).fleet = s.fleet := by
  unfold refreshStartMass
  simp only
  split <;> simp
@[simp] theorem judgeCavernInhibit_fleet (i : Fin 4) : (judgeCavernInhibit i s).fleet = s.fleet := by
  simp [judgeCavernInhibit]
@[simp] theorem takeVote_fleet (i : Fin 4) (o : VoteOutcome) (f : Disagree) : (takeVote i o f s).fleet = s.fleet := by
  have hgood : ∀ (p : Nat) (t : State), (goodVote i p t).fleet = t.fleet := fun p t => by
    unfold goodVote
    simp only
    split
    · simp
    · split <;> simp
    · simp
  have hnone : ∀ t : State, (noMajority i t).fleet = t.fleet := fun t => by
    unfold noMajority
    simp only
    split <;> simp
  cases o <;> simp [takeVote, hgood, hnone]
@[simp] theorem ageCavern_fleet (i : Fin 4) : (ageCavern i s).fleet = s.fleet := by
  unfold ageCavern
  simp only
  split
  · rfl
  · split <;> simp
  · simp
@[simp] theorem boundaryStartMass_fleet (i : Fin 4) : (boundaryStartMass i s).fleet = s.fleet := by
  unfold boundaryStartMass
  split <;> simp
@[simp] theorem formDrift_fleet (ended : Nat) (i : Fin 4) : (formDrift ended i s).fleet = s.fleet := by
  unfold formDrift
  simp only
  split <;> simp
theorem cavernsBoundary_fleet (ended : Nat) : (cavernsBoundary ended s).fleet = s.fleet :=
  foldl_keeps State.fleet _ (fun s i => by simp [cavernBoundary]) _ s
@[simp] theorem cavernsBegin_fleet : (cavernsBegin s).fleet = s.fleet :=
  foldl_keeps State.fleet _ (fun s i => by simp [cavernBegin]) _ s
@[simp] theorem remeasure_fleet (i : Fin 4) : (remeasure i s).fleet = s.fleet := by
  unfold remeasure
  split <;> simp

/-! ### The heat store -/

@[simp] theorem setStoreWork_fleet (w : StoreWork) : (setStoreWork w s).fleet = s.fleet := rfl
@[simp] theorem setStoreCfg_fleet (c : StoreCfg) : (setStoreCfg c s).fleet = s.fleet := rfl
@[simp] theorem refreshStartContent_fleet : (refreshStartContent s).fleet = s.fleet := by
  unfold refreshStartContent
  split <;> simp
@[simp] theorem judgeStoreInhibit_fleet : (judgeStoreInhibit s).fleet = s.fleet := by simp [judgeStoreInhibit]
@[simp] theorem takeTemperatures_fleet (l : List ChanResult) : (takeTemperatures l s).fleet = s.fleet := by
  have hgood : ∀ (x : Int) (n : Nat) (t : State), (goodMean x n t).fleet = t.fleet := fun x n t => by
    unfold goodMean
    simp only
    split
    · simp
    · split <;> simp
    · simp
  have hnone : ∀ t : State, (noValid t).fleet = t.fleet := fun t => by
    unfold noValid
    simp only
    split <;> simp
  unfold takeTemperatures
  simp only
  split <;> simp [hgood, hnone]
@[simp] theorem storeSilence_fleet : (storeSilence s).fleet = s.fleet := fleet_ite s rfl rfl
@[simp] theorem storeAge_fleet : (storeAge s).fleet = s.fleet := by
  unfold storeAge
  split
  · rfl
  · simp only
    split <;> simp
  · simp
@[simp] theorem storeStartContent_fleet : (storeStartContent s).fleet = s.fleet := by
  unfold storeStartContent
  split <;> simp
@[simp] theorem storeBoundary_fleet : (storeBoundary s).fleet = s.fleet := by simp [storeBoundary]
@[simp] theorem storeBegin_fleet : (storeBegin s).fleet = s.fleet := by simp [storeBegin]
@[simp] theorem recontent_fleet : (recontent s).fleet = s.fleet := by
  unfold recontent
  split <;> simp

/-! ### The scanner -/

@[simp] theorem reformHold_fleet : (reformHold s).fleet = s.fleet := rfl
@[simp] theorem handVote_fleet (i : Fin 4) : (handVote i s).fleet = s.fleet := by
  unfold handVote
  split <;> simp
@[simp] theorem serveSnapshot_fleet : (serveSnapshot s).fleet = s.fleet := fleet_ite s rfl rfl
@[simp] theorem restartPass_fleet : (restartPass s).fleet = s.fleet := rfl
@[simp] theorem clearHanded_fleet : (clearHanded s).fleet = s.fleet := rfl
@[simp] theorem completePass_fleet : (completePass s).fleet = s.fleet := by
  simp only [completePass, restartPass_fleet, serveSnapshot_fleet, takeTemperatures_fleet]
  exact foldl_keeps State.fleet _ (fun s i => handVote_fleet s i) _ _
@[simp] theorem completeEntry_fleet (ch : Fin 24) (codes : List Nat) : (completeEntry ch codes s).fleet = s.fleet := by
  unfold completeEntry
  simp only
  split <;> simp
theorem scannerBoundary_fleet : (scannerBoundary s).fleet = s.fleet := by
  rw [scannerBoundary, clearHanded_fleet]
  exact foldl_keeps State.fleet _ (fun s i => fleet_ite s rfl (takeVote_fleet s i _ _)) _ s

theorem recomputeIfBanned_safe {t : State} (h : t.fleet = s.fleet) : Safe s (recomputeIfBanned s t) :=
  .of_fleet_left h (recomputeIf_safe _ t)

/-! ### Station commands on settings -/

theorem setCavernAct_safe (p : CavernParams) : Safe s (setCavernAct p s) := by
  unfold setCavernAct
  split
  · exact .of_fleet rfl
  · exact .ite (recomputeIfBanned_safe s (by simp)).replied (.of_fleet rfl)
theorem loadCavernTableAct_fleet (p : CavernTableParams) : (loadCavernTableAct p s).fleet = s.fleet := by
  unfold loadCavernTableAct
  split
  · rfl
  · split <;> simp
theorem setStoreAct_safe (p : StoreParams) : Safe s (setStoreAct p s) := by
  unfold setStoreAct
  exact .ite (recomputeIfBanned_safe s (by simp)).replied (.of_fleet rfl)
theorem loadStoreTableAct_fleet (p : StoreTableParams) : (loadStoreTableAct p s).fleet = s.fleet := by
  unfold loadStoreTableAct
  split <;> simp
theorem setChannelAct_safe (p : ChannelParams) : Safe s (setChannelAct p s) := by
  unfold setChannelAct
  split
  · exact .of_fleet rfl
  · refine .ite (recomputeIfBanned_safe s ?_).replied (.of_fleet rfl)
    rw [reformHold_fleet, raiseIf_fleet]
    rfl
theorem setScanListAct_fleet (l : List Nat) : (setScanListAct l s).fleet = s.fleet := by
  unfold setScanListAct
  split
  · rfl
  · exact fleet_ite s rfl (fleet_ite s rfl rfl)
theorem entryComplete_safe (codes : List Nat) : Safe s (match s.converting with
    | some ch => if conversionsDone s ch codes then recomputeIfBanned s (completeEntry ch codes s) else s
    | none => s) := by
  split
  · exact .ite (recomputeIfBanned_safe s (completeEntry_fleet s _ _)) (.refl s)
  · exact .refl s

/-! ### The completion of a run -/

theorem refuseCandidate_fleet (run : Run) (key : Nat) (note : RefusalNote) (r : Record) :
    (refuseCandidate run key note r s).fleet = s.fleet := by
  rw [refuseCandidate, raise_fleet, setRecord_fleet, dropRun_fleet]

theorem admitCandidate_safe (run : Run) (key : Nat) (table : List ProjSlot) (r : Record) :
    Safe s (admitCandidate run key table r s) :=
  .of_fleet_left (by simp) (recompute_safe (raise .admissionDone (writeMarks run.copy table
    (setRecord key (candidateAdmitted run.kind s.clock.interval r) (goLive run table s)))))

theorem completeAdmission_safe (run : Run) : Safe s (completeAdmission run s) := by
  unfold completeAdmission
  split
  · exact .of_fleet rfl
  · split
    · exact .of_fleet rfl
    · unfold judgeCandidate
      split
      · exact .of_fleet (refuseCandidate_fleet s _ _ _ _)
      · simp only
        split
        · exact .of_fleet (refuseCandidate_fleet s _ _ _ _)
        · exact admitCandidate_safe s _ _ _ _

/-! ### The clock -/

@[simp] theorem engineBegin_fleet : (engineBegin s).fleet = s.fleet := rfl
@[simp] theorem dispatchBegin_fleet (n : Nat) : (dispatchBegin n s).fleet = s.fleet := rfl
@[simp] theorem blocksBegin_fleet (n : Nat) : (blocksBegin n s).fleet = s.fleet := by simp [blocksBegin]
theorem beginNow_fleet (n : Nat) : (beginNow n s).fleet = s.fleet := by simp [beginNow]
theorem armClock_fleet (n : Nat) : (armClock n s).fleet = s.fleet := rfl

theorem setIntervalAct_fleet (n form : Nat) : (setIntervalAct n form s).fleet = s.fleet := by
  unfold setIntervalAct
  split
  · rfl
  · split_ifs
    · rfl
    · rfl
    · rw [reply_fleet, beginNow_fleet]
    · rw [reply_fleet, armClock_fleet]

end Measured

end Sys2Proof.Machine
end

section
/-! SUPPORT. The roster's moves as moves of the fleet (R102 to R113, R126). -/

namespace Sys2Proof.Machine

/-! ### One entry's move -/

section Move
variable (i : Fin 8) (s : State)

/-- A write of an entry's working fields that keeps its state keeps the fleet. -/
theorem setTrain_fleet {w : TrainWork} (h : w.state = s.trains[i].state) : (setTrain i w s).fleet = s.fleet := by
  have hstate : (fun j : Fin 8 => (s.trains.set i w)[j].state) = fun j : Fin 8 => s.trains[j].state := by
    funext j
    by_cases hj : j = i
    · subst hj
      rw [getElem_set_same, h]
    · rw [getElem_set_other _ _ hj]
  simp only [State.fleet, setTrain, hstate]

/-- A move of an entry in the terms of the fleet (R129, R179). -/
theorem moveTrain_fleet (new : TrainState) (timer : Option Timer) :
    (moveTrain i new timer s).fleet = s.fleet.enter i new := by
  have hstate : (moveTrain i new timer s).fleet.state = (s.fleet.enter i new).state := by
    funext j
    rw [Fleet.state_enter, fleet_state, moveTrain_trains]
    by_cases hj : j = i
    · subst hj
      rw [getElem_set_same, if_pos rfl]
    · rw [getElem_set_other _ _ hj, if_neg hj]
      rfl
  have hheld : (moveTrain i new timer s).fleet.held = (s.fleet.enter i new).held := by
    funext j
    simp only [Fleet.enter, fleet_held, moveTrain_setpoints]
    split
    · rfl
    · rw [Function.update_apply]
      by_cases hj : j = i
      · subst hj
        rw [getElem_set_same, if_pos rfl]
        rfl
      · rw [getElem_set_other _ _ hj, if_neg hj]
        rfl
  have hpolled : (moveTrain i new timer s).fleet.polled = (s.fleet.enter i new).polled := by
    funext j
    simp only [Fleet.enter, State.fleet, moveTrain_link]
    by_cases hb : new.bound = true
    · by_cases hold : s.trains[i].state.bound = true
      · simp only [hb, hold, Bool.true_eq_false, if_true, if_false]
      · rw [Bool.not_eq_true] at hold
        simp only [hb, hold, Bool.true_eq_false, Bool.false_eq_true, if_true, if_false, Function.update_apply]
        split
        · rename_i hj
          subst hj
          rw [getElem_set_same]
          rfl
        · rename_i hj
          rw [getElem_set_other _ _ hj]
    · rw [Bool.not_eq_true] at hb
      simp only [hb, Bool.false_eq_true, if_true, if_false, Function.update_apply]
      split
      · rename_i hj
        subst hj
        rw [getElem_set_same]
        rfl
      · rename_i hj
        rw [getElem_set_other _ _ hj]
  have hrest : (moveTrain i new timer s).cfg = s.cfg ∧ (moveTrain i new timer s).link.slot = s.link.slot ∧
      (moveTrain i new timer s).nv = s.nv := by
    simp [moveTrain_link]
  obtain ⟨hcfg, hslot, hnv⟩ := hrest
  have hsplit : (moveTrain i new timer s).fleet = { s.fleet with
      state := (moveTrain i new timer s).fleet.state
      held := (moveTrain i new timer s).fleet.held
      polled := (moveTrain i new timer s).fleet.polled } := by
    simp only [State.fleet, hcfg, hslot, hnv]
  rw [hsplit, hstate, hheld, hpolled]
  rfl

theorem enterStopping_fleet : (enterStopping i s).fleet = s.fleet.enter i .stopping := moveTrain_fleet ..

theorem stopTrain_fleet : (stopTrain i s).fleet = s.fleet.enter i .stopping := moveTrain_fleet ..

theorem stopUnbidden_fleet : (stopUnbidden i s).fleet = s.fleet.enter i .stopping := moveTrain_fleet ..

theorem lockOut_fleet (cause : LockoutCause) : (lockOut i cause s).fleet = s.fleet.enter i .lockedOut := by
  unfold lockOut
  rw [raise_fleet, setTrain_fleet, moveTrain_fleet]
  rfl

theorem enterResting_fleet : (enterResting i s).fleet = s.fleet.enter i .resting := by
  unfold enterResting
  rw [setTrain_fleet, moveTrain_fleet]
  rfl

theorem enterRunning_fleet : (enterRunning i s).fleet = s.fleet.enter i .running := by
  unfold enterRunning
  rw [setTrain_fleet, moveTrain_fleet]
  rfl

theorem holdNothing_fleet : (holdNothing i s).fleet = s.fleet.release i := by
  have hheld : (holdNothing i s).fleet.held = (s.fleet.release i).held := by
    funext j
    simp only [Fleet.release, fleet_held, holdNothing, Function.update_apply]
    by_cases hj : j = i
    · subst hj
      rw [getElem_set_same, if_pos rfl, Option.map_map, Option.map_map]
      rfl
    · rw [getElem_set_other _ _ hj, if_neg hj]
  exact congrArg (fun h => { s.fleet with held := h }) hheld

variable {i s}

/-- An entry that enters a state in which no train is up (R132). -/
theorem enters_safe {t : State} {new : TrainState} (ht : t.fleet = s.fleet.enter i new)
    (hfrom : s.trains[i].state ≠ .absent ∨ s.cfg.trains[i].configured = true ∨ new = .absent)
    (hdown : new ≠ .starting ∧ new ≠ .running) : Safe s t :=
  .of_move fun hs => by
    rw [ht]
    refine .enters s.fleet i new ?_ hdown
    rcases hfrom with h | h | h
    · exact .inl (Fleet.configured_of_not_absent hs h)
    · exact .inl h
    · exact .inr h

/-- Where no entry of the other kind is up, none opposes an entry (R110). -/
theorem clearFor_of_mayBeRunning (h : mayBeRunning i s = true) : s.fleet.clearFor i := by
  intro j hj
  by_contra hne
  obtain ⟨hstart, hrun⟩ := (mayBeRunning_iff.1 h).2 j (eq_other_iff.2 hne)
  exact hj.elim hstart hrun

end Move

/-! ### A STATUS (R106, R110) -/

section Status
variable {i : Fin 8} {s : State} {st : ReportedState}

theorem nextState_eq_running {c : TrainCfg} {may : Bool} {old : TrainState}
    (h : nextState c.restedState may old st = .running) (hne : old ≠ .running) :
    old = .starting ∨ (old = .lost ∧ may = true) := by
  have hrest := restedState_ne_running c
  generalize c.restedState = rested at h hrest
  cases old <;> cases st <;> cases may <;> simp_all [nextState]

theorem nextState_eq_starting {c : TrainCfg} {may : Bool} {old : TrainState}
    (h : nextState c.restedState may old st = .starting) (hne : old ≠ .starting) : old = .lost ∧ may = true := by
  have hrest := restedState_eq_ready_or c
  generalize c.restedState = rested at h hrest
  rcases hrest with rfl | rfl <;> cases old <;> cases st <;> cases may <;> simp_all [nextState]

/-- A STATUS makes a move of the fleet of its entry, or none. -/
theorem statusMove_safe : Safe s (statusMove i st s) := by
  rw [statusMove_eq]
  split
  · exact .refl s
  rename_i hne
  have hfrom : s.trains[i].state ≠ .absent := fun h => hne (statusState_unmoved st (.inl h))
  have hreached := statusState_reached hne
  generalize runsUnbidden s.trains[i].state st (mayBeRunning i s) = unbidden
  have hrun : statusState i st s = .running → s.trains[i].state = .starting ∨
      (s.trains[i].state = .lost ∧ mayBeRunning i s = true) := fun h =>
    nextState_eq_running h fun hr => hne (h.trans hr.symm)
  have hstart : statusState i st s = .starting → s.trains[i].state = .lost ∧ mayBeRunning i s = true := fun h =>
    nextState_eq_starting h fun hr => hne (h.trans hr.symm)
  generalize statusState i st s = new at hreached hrun hstart
  cases new with
  | absent => exact absurd rfl hreached.1
  | withdrawn => exact absurd rfl hreached.2.1
  | lost => exact absurd rfl hreached.2.2
  | ready => exact enters_safe (moveTrain_fleet ..) (.inl hfrom) (by decide)
  | stopping =>
    unfold enterReported
    exact .ite (enters_safe (stopUnbidden_fleet i s) (.inl hfrom) (by decide))
      (enters_safe (enterStopping_fleet i s) (.inl hfrom) (by decide))
  | resting => exact enters_safe (enterResting_fleet i s) (.inl hfrom) (by decide)
  | lockedOut => exact enters_safe (lockOut_fleet i s _) (.inl hfrom) (by decide)
  | running =>
    have hfleet : (enterReported i .running unbidden s).fleet = s.fleet.enter i .running := by
      unfold enterReported
      simp only
      split
      · exact moveTrain_fleet ..
      · exact enterRunning_fleet i s
    refine .of_move fun _ => ?_
    rw [hfleet]
    exact .runs s.fleet i ((hrun rfl).imp id fun ⟨hl, hm⟩ => ⟨hl, clearFor_of_mayBeRunning hm⟩)
  | starting =>
    obtain ⟨hl, hm⟩ := hstart rfl
    have hfleet : (enterReported i .starting unbidden s).fleet = (s.fleet.enter i .starting).release i := by
      rw [← moveTrain_fleet i s .starting (startTimer i s)]
      exact holdNothing_fleet i _
    refine .of_move fun _ => ?_
    rw [hfleet]
    exact .restarts s.fleet i hl (clearFor_of_mayBeRunning hm)

theorem takeStatus_safe (r : Report) : Safe s (takeStatus i r s) :=
  .of_fleet_left (setTrain_fleet i s (w := { s.trains[i] with report := some r }) rfl) statusMove_safe

end Status

/-! ### An ANNOUNCE (R102 to R104) -/

section Announces
variable {i : Fin 8} {s : State}

theorem setBindFault_fleet (f : Option BindFault) : (setBindFault i f s).fleet = s.fleet := by
  rw [setBindFault, raiseIf_fleet, setTrain_fleet]
  rfl

theorem announced_fleet (a : Announce) (f : Option BindFault) : (announced i a f s).fleet = s.fleet :=
  setTrain_fleet i s (w := { s.trains[i] with bindFault := f, report := some (announcedReport a.state s.free) }) rfl

/-- Ratings that an ANNOUNCE gives to an entry that is not bound (R103). -/
theorem rerated_safe (a : Announce) (hunbound : s.trains[i].state.bound = false) :
    Safe s (setTrainCfg i (s.cfg.trains[i].rerated a) s) :=
  .of_move fun _ => by
    refine .rerates s.fleet i (s.cfg.trains[i].rerated a) ?_ (fun h => ?_) hunbound
    · unfold TrainCfg.rerated
      split <;> exact ⟨rfl, rfl⟩
    · unfold TrainCfg.rerated
      split
      · exact h
      · exact Nat.min_le_left ..

theorem bindAs_fleet (st : ReportedState) : (bindAs i st s).fleet = s.fleet.enter i (boundState st) := by
  cases st with
  | stopped => exact moveTrain_fleet ..
  | fault => exact lockOut_fleet i s _
  | starting => exact enterResting_fleet i s
  | running => exact enterResting_fleet i s
  | stopping => exact enterResting_fleet i s

/-- An ANNOUNCE of a configured entry makes moves of the fleet: new ratings, then the binding (R102 to R104). -/
theorem takeAnnounce_safe (a : Announce) (hconf : s.cfg.trains[i].configured = true) : Safe s (takeAnnounce i a s) := by
  have hannounced := fun f => announced_fleet (i := i) (s := s) a f
  by_cases habsent : s.trains[i].state = .absent
  · by_cases hf : announceFaultOf s.cfg.trains[i] a = none
    · rw [takeAnnounce_binds habsent hf]
      have hbound : (announced i a none s).trains[i].state.bound = false := by
        have hstate := congrFun (congrArg Fleet.state (hannounced none)) i
        rw [show (announced i a none s).trains[i].state = s.trains[i].state from hstate, habsent]
        rfl
      have hrated : Safe s (bindsFrom i a s) :=
        .of_fleet_left (hannounced none) ((rerated_safe a hbound).of_fleet_right (setVerifyIf_fleet _ _))
      refine hrated.trans (enters_safe (bindAs_fleet a.state) (.inr (.inl ?_)) (by cases a.state <;> decide))
      rw [bindsFrom_cfg, rerated_eq]
      simpa using hconf
    · rw [takeAnnounce_faulty habsent hf]
      exact .of_fleet (setBindFault_fleet _)
  · rw [takeAnnounce_bound habsent]
    simp only
    have hreported : ∀ b f, (raiseIf b .identity (announced i a f s)).fleet = s.fleet := fun b f =>
      (raiseIf_fleet _ _ _).trans (hannounced f)
    split
    · rename_i hw
      generalize announceFaultOf s.cfg.trains[i] a = f
      have hfleet := hreported (decide (f ≠ none ∧ f ≠ s.trains[i].bindFault)) f
      generalize raiseIf (decide (f ≠ none ∧ f ≠ s.trains[i].bindFault)) .identity (announced i a f s) = u at hfleet ⊢
      have hcfg : u.cfg.trains = s.cfg.trains := congrArg Fleet.cfg hfleet
      have hstate : u.trains[i].state = s.trains[i].state := congrFun (congrArg Fleet.state hfleet) i
      refine .of_fleet_left hfleet (.of_fleet_right ?_ (setVerifyIf_fleet _ _))
      rw [← hcfg]
      exact rerated_safe a (by rw [hstate, hw.1]; rfl)
    · exact .of_fleet (hreported _ _)

end Announces

end Sys2Proof.Machine
end

section
/-! SUPPORT. The unit link: the transaction in flight, its outcome and the grants, as moves of the fleet (R174 to R188). -/

namespace Sys2Proof.Machine

/-! ### The transaction in flight -/

section Flight
variable {s : State} {i : Fin 8}

/-- A transaction in flight that a configured entry has, or none has, or that is disowned, is a move of the fleet (R100). -/
theorem slot_safe {l : Link} (hpolls : ∀ j : Fin 8, l.polls[j].isSome = s.link.polls[j].isSome)
    (h : s.fleet.Linked → ∀ j : Fin 8, l.slot.map (fun t => (t.entry, t.disowned)) = some (some j, false) →
      s.cfg.trains[j].configured = true) : Safe s { s with link := l } :=
  .of_move fun hs => by
    have hfleet : ({ s with link := l } : State).fleet =
        { s.fleet with slot := l.slot.map fun t => (t.entry, t.disowned) } := by
      simp only [State.fleet, hpolls]
    rw [hfleet]
    exact .sends s.fleet _ (h hs)

/-- A frame sent to a configured entry (R171). -/
theorem sendTo_safe (kind : MsgKind) (payload : List Byte) (origin : Origin)
    (h : s.fleet.Linked → s.cfg.trains[i].configured = true) : Safe s (sendTo i kind payload origin s) :=
  slot_safe (fun _ => rfl) fun hs j hj => by
    obtain rfl : i = j := by simpa using hj
    exact h hs

theorem emptySlot_safe : Safe s { s with link := { s.link with slot := none } } :=
  slot_safe (fun _ => rfl) fun _ _ hj => nomatch hj

end Flight

/-! ### The outcome of a transaction (R101, R109, R178, R181, R182, R188) -/

section Outcome
variable (i : Fin 8) (s : State)

theorem declareLost_safe : Safe s (declareLost i s) := by
  unfold declareLost
  split
  case h_6 => exact .refl s
  all_goals
    rename_i h
    exact enters_safe (t := raise .trainLost (moveTrain i .lost none s)) (moveTrain_fleet ..) (.inl (by rw [h]; decide)) (by decide)

theorem countOutcome_safe (o : TxnOutcome) : Safe s (countOutcome i o s) := by
  unfold countOutcome
  simp only
  have hcounted : ∀ (b : Bool) (v : Vector Counters 8),
      (raiseIf b .linkErrors { s with link := { s.link with counters := v } }).fleet = s.fleet := fun b v => raiseIf_fleet _ _ _
  split
  · exact .of_fleet_left (hcounted _ _) (declareLost_safe i _)
  · exact .of_fleet (hcounted _ _)

theorem countOutcome_places (o : TxnOutcome) : (countOutcome i o s).cfg.trains[i].configured = s.cfg.trains[i].configured := by
  have hcfg : (countOutcome i o s).cfg = s.cfg := by
    unfold countOutcome declareLost
    simp only
    split
    · split <;> simp
    · simp
  rw [hcfg]

theorem identFailed_fleet : (identFailed i s).fleet = s.fleet :=
  fleet_ite s (setBindFault_fleet _) rfl

theorem identEnded_fleet : (identEnded i s).fleet = s.fleet :=
  fleet_ite s (setTrain_fleet i s rfl) rfl

theorem acceptReply_fleet (kw : Nat) : (acceptReply i kw s).fleet = s.fleet := rfl

theorem markReply_fleet : (markReply i s).fleet = s.fleet := rfl

variable {i} in
/-- A good reply of a configured entry (R122, R175). -/
theorem handReply_safe (d : ReplyData) (hconf : s.cfg.trains[i].configured = true) : Safe s (handReply i d s) := by
  cases d with
  | status r =>
    unfold handReply
    exact .ite ((takeStatus_safe r).of_fleet_right (acceptReply_fleet _ _ _)) (takeStatus_safe r)
  | announce a => exact (takeAnnounce_safe a hconf).of_fleet_right (markReply_fleet _ _)

variable {i} in
theorem handRoster_safe (kind : MsgKind) (o : TxnOutcome) (hconf : s.cfg.trains[i].configured = true) :
    Safe s (handRoster i kind o s) := by
  unfold handRoster
  split
  · exact handReply_safe s _ hconf
  · exact .ite (.of_fleet (identFailed_fleet i s)) (.refl s)

/-- A dropped SET leaves the held values (R129, R178). -/
theorem dropCmd_fleet (c : Cmd) : (dropCmd c s).fleet = s.fleet := by
  unfold dropCmd
  split
  · have hheld : ∀ j : Fin 8, (s.disp.setpoints.set c.entry
        (s.disp.setpoints[c.entry].map fun p => { p with issued := none }))[j].map Setpoint.held =
          s.disp.setpoints[j].map Setpoint.held := fun j => by
      by_cases hj : j = c.entry
      · subst hj
        rw [getElem_set_same, Option.map_map]
        rfl
      · rw [getElem_set_other _ _ hj]
    simp only [State.fleet, hheld]
  · rfl

theorem answerOwed_fleet (f : Fwd) (r : ResultCode) (b : Body) : (answerOwed f r b s).fleet = s.fleet := fleet_ite s rfl rfl

theorem handOrigin_fleet (origin : Origin) (o : TxnOutcome) : (handOrigin origin o s).fleet = s.fleet := by
  unfold handOrigin
  split
  · exact fleet_ite s rfl (fleet_ite s (dropCmd_fleet s _) rfl)
  · unfold forwardResponse
    split <;> exact answerOwed_fleet s _ _ _
  · rfl

variable {s} in
/-- The end of a transaction in flight is made of moves of its entry, which is configured unless a SET_TRAIN has disowned the
transaction (R100, R175). -/
theorem endTransaction_safe {t : Txn} {i : Fin 8} (h : s.awaiting = some (t, i)) (o : TxnOutcome) :
    Safe s (endTransaction t i o s) := by
  intro hs
  have hslot : s.link.slot = some t ∧ t.entry = some i := by
    simp only [State.awaiting, Option.bind_eq_some_iff, Option.map_eq_some_iff] at h
    obtain ⟨t', ht, i', hi, heq⟩ := h
    obtain ⟨rfl, rfl⟩ := Prod.mk.inj heq
    exact ⟨ht, hi⟩
  have hconf : t.disowned = false → s.cfg.trains[i].configured = true := fun hd =>
    hs.inFlight i (by simp only [State.fleet, hslot.1, Option.map_some, hslot.2, hd])
  revert hs
  change Safe s _
  have hcounted : Safe s (countOutcome i o { s with link := { s.link with slot := none } }) :=
    emptySlot_safe.trans (countOutcome_safe i _ o)
  have hplace := countOutcome_places i { s with link := { s.link with slot := none } } o
  unfold endTransaction
  simp only
  generalize countOutcome i o { s with link := { s.link with slot := none } } = u at hcounted hplace ⊢
  have hhanded : Safe s (if t.disowned then u else handRoster i t.frame.kind o u) := by
    cases hd : t.disowned
    · exact hcounted.trans (handRoster_safe u _ o (hplace.trans (hconf hd)))
    · exact hcounted
  generalize (if t.disowned then u else handRoster i t.frame.kind o u) = v at hhanded ⊢
  have hended : Safe s (if t.frame.kind = .ident then identEnded i v else v) :=
    hhanded.of_fleet_right (fleet_ite v (identEnded_fleet i v) rfl)
  generalize (if t.frame.kind = .ident then identEnded i v else v) = w at hended ⊢
  have horigin := hended.of_fleet_right (handOrigin_fleet w t.origin o)
  generalize handOrigin t.origin o w = x at horigin ⊢
  have hjoined : Safe s (if t.identAfter then putIdent i x else x) :=
    horigin.of_fleet_right (fleet_ite x (putIdent_fleet x i) rfl)
  exact hjoined.trans (recomputeIf_safe _ _)

end Outcome

/-! ### The grants (R176 to R180) -/

section Grants
variable (s : State)

/-- A command that may be sent goes to a configured entry (R177). -/
theorem configured_of_sendable {s : State} {c : Cmd} (hs : s.fleet.Linked) (h : sendable c s = true) :
    s.cfg.trains[c.entry].configured = true := by
  have hbound : s.trains[c.entry].state ≠ .absent → s.cfg.trains[c.entry].configured = true :=
    fun hne => Fleet.configured_of_not_absent hs hne
  unfold sendable at h
  split at h
  · exact h
  · refine hbound fun habsent => ?_
    rw [habsent] at h
    exact Bool.noConfusion h

theorem grantCommand_safe (c : Cmd) (reissued : Bool) : Safe s (grantCommand c reissued s) := by
  unfold grantCommand
  split
  · rename_i h
    exact sendTo_safe _ _ _ fun hs => configured_of_sendable hs h
  · exact .of_fleet (dropCmd_fleet s c)

theorem grantForward_safe (f : Fwd) : Safe s (grantForward f s) := by
  unfold grantForward
  split
  · exact .of_fleet (answerOwed_fleet s _ _ _)
  · rename_i hconf
    refine .ite (.of_fleet (answerOwed_fleet s _ _ _)) (sendTo_safe _ _ _ fun _ => ?_)
    exact Bool.not_eq_false _ ▸ hconf

theorem grantIdent_safe (i : Fin 8) : Safe s (grantIdent i s) := by
  unfold grantIdent
  split
  · rename_i h
    exact sendTo_safe _ _ _ fun _ => h
  · exact .refl s

/-- A poll goes to an entry with a poll mark, which is bound (R179). -/
theorem grantPoll_safe {i : Fin 8} (h : pollIsDue s i = true) : Safe s (grantPoll i s) := by
  have hmark : s.link.polls[i].isSome = true := by
    unfold pollIsDue at h
    split at h
    · rename_i hm
      rw [hm]
      rfl
    · exact Bool.noConfusion h
  refine slot_safe (fun j => ?_) fun hs j hj => ?_
  · change (s.link.polls.set i _)[j].isSome = _
    by_cases hj : j = i
    · subst hj
      rw [getElem_set_same, hmark]
      rfl
    · rw [getElem_set_other _ _ hj]
  · obtain rfl : i = j := by simpa [sendTo] using hj
    refine Fleet.configured_of_not_absent hs fun habsent => ?_
    have hbound := hs.polled i hmark
    rw [habsent] at hbound
    exact Bool.noConfusion hbound

theorem grantBroadcast_safe (v : Speed) : Safe s (grantBroadcast v s) :=
  slot_safe (fun _ => rfl) fun _ j hj => by simp at hj

theorem grantOnce_safe : Safe s (grantOnce s) := by
  unfold grantOnce
  split
  · exact grantBroadcast_safe s _
  · exact .ite (.of_fleet rfl) (.of_fleet_left (by rfl) (grantCommand_safe _ _ _))
  · exact .of_fleet_left (by rfl) (grantCommand_safe _ _ _)
  · exact .of_fleet_left (by rfl) (grantForward_safe _ _)
  · exact .of_fleet_left (by rfl) (grantIdent_safe _ _)
  · split
    · rename_i i hi
      exact grantPoll_safe s (List.find?_some hi)
    · exact .refl s

theorem grantSlot_safe : Safe s (grantSlot s) := by
  have hgrants : ∀ (n : Nat) (t : State), Safe t (grantUpTo n t) := by
    intro n
    induction n with
    | zero => exact Safe.refl
    | succ n ih => exact fun t => .ite (.refl t) ((grantOnce_safe t).trans (ih _))
  exact hgrants _ s

/-! ### The link reset and the polls (R179, R184) -/

theorem abandonTransaction_safe : Safe s (abandonTransaction s) := by
  unfold abandonTransaction
  split
  · rename_i t i h
    exact endTransaction_safe h _
  · exact emptySlot_safe

theorem linkReset_safe : Safe s (linkReset s) := by
  have hforwards : ∀ t : State, (abandonForwards t).fleet = t.fleet := fun t =>
    foldl_keeps State.fleet _ (fun s f => answerOwed_fleet s f _ _) _ _
  have habandoned := (abandonTransaction_safe s).of_fleet_right (hforwards _)
  exact habandoned.of_fleet_right rfl

theorem pollFallsDue_fleet (i : Fin 8) : (pollFallsDue i s).fleet = s.fleet := by
  unfold pollFallsDue
  split
  · rename_i m hm
    refine fleet_ite s ?_ rfl
    have hmarks : ∀ j : Fin 8, (s.link.polls.set i (some ⟨true, none⟩))[j].isSome = s.link.polls[j].isSome := fun j => by
      by_cases hj : j = i
      · subst hj
        rw [getElem_set_same, hm]
        rfl
      · rw [getElem_set_other _ _ hj]
    simp only [State.fleet, hmarks]
  · rfl

theorem broadcastSent_safe : Safe s (match s.link.slot with
    | some t =>
      match t.origin with
      | .broadcast v => { s with link := { s.link with slot := none, speed := v } }
      | _ => s
    | none => s) := by
  split
  · split
    · exact slot_safe (fun _ => rfl) fun _ _ hj => nomatch hj
    · exact .refl s
  · exact .refl s

theorem forwardAct_fleet (p : ForwardParams) : (forwardAct p s).fleet = s.fleet := by
  have hqueue : ∀ (a : AliasEntry) (kind : MsgKind) (b : List Byte), (queueForward a kind b s).fleet = s.fleet :=
    fun a kind b => by
      unfold queueForward
      simp only
      split <;> rfl
  unfold forwardAct
  split
  · rfl
  · refine fleet_ite s rfl ?_
    unfold forwardTo
    split
    · rfl
    · exact fleet_ite s rfl (fleet_ite s rfl (fleet_ite s rfl (hqueue _ _ _)))

end Grants

end Sys2Proof.Machine
end

section
/-! SUPPORT. The boundary, the clock, the timers, the site trip and the commands on an entry, as moves of the fleet (R105 to R114,
R126, R163, R197). -/

namespace Sys2Proof.Machine

/-! ### The boundary and the clock (R111, R163 to R168) -/

section Boundary
variable (s : State)

theorem countChangeover_fleet : (countChangeover s).fleet = s.fleet := rfl

theorem openTallyFor_fleet (n : Nat) : (openTallyFor n s).fleet = s.fleet := rfl

theorem rosterBoundaryAt_safe (n : Nat) (i : Fin 8) : Safe s (rosterBoundaryAt n i s) := by
  have hrest : s.trains[i].state = .resting → Safe s (restBoundary i s) := fun h => by
    have hcounted : (setTrain i { s.trains[i] with restCount := s.trains[i].restCount - 1 } s).fleet = s.fleet :=
      setTrain_fleet i s rfl
    unfold restBoundary
    simp only
    generalize setTrain i { s.trains[i] with restCount := s.trains[i].restCount - 1 } s = u at hcounted ⊢
    refine .of_fleet_left hcounted (.ite (enters_safe (moveTrain_fleet ..) (.inl ?_) (by decide)) (.refl u))
    rw [show u.trains[i].state = s.trains[i].state from congrFun (congrArg Fleet.state hcounted) i, h]
    decide
  have hcount : Safe s (rosterCount i s) := by
    unfold rosterCount
    split
    · exact .of_fleet (setTrain_fleet i s rfl)
    · exact hrest (by assumption)
    · exact .refl s
  unfold rosterBoundaryAt
  exact .ite (hcount.of_fleet_right (setTrain_fleet i _ (by rfl))) (.refl s)

theorem takeBoundary_safe (ended n : Nat) (b : Block) : Safe s (takeBoundary ended n b s) := by
  cases b with
  | book => exact .of_fleet (bookBoundary_fleet s n)
  | engine => exact .of_fleet (engineBoundary_fleet s n)
  | caverns => exact .of_fleet (cavernsBoundary_fleet s ended)
  | store => exact .of_fleet_left (storeBoundary_fleet s) (recomputeIf_safe _ _)
  | roster =>
    simp only [takeBoundary, rosterBoundary]
    exact (Safe.foldl _ (fun t i => rosterBoundaryAt_safe t n i) _ s).trans (recompute_safe _)
  | dispatch =>
    have hopened : (countChangeover (openTallyFor n (closeTally s))).fleet = s.fleet := by
      rw [countChangeover_fleet, openTallyFor_fleet, closeTally_fleet]
    simp only [takeBoundary, dispatchBoundary]
    exact .of_fleet_left hopened (recompute_safe _)
  | scanner => exact .of_fleet (scannerBoundary_fleet s)

theorem boundary_safe (mode : ClockMode) (origin : Nat) (absorb : Bool) : Safe s (boundary mode origin absorb s) := by
  unfold boundary
  simp only
  exact .of_fleet_left (by rfl) (Safe.foldl _ (fun t b => takeBoundary_safe t _ _ b) _ _)

theorem pulseBoundary_safe (phase : Nat) : Safe s (pulseBoundary phase s) :=
  .of_fleet_left (by rfl) (boundary_safe _ _ _ _)

theorem timerBoundary_safe (mode : ClockMode) (e : Nat) : Safe s (timerBoundary mode e s) :=
  .of_fleet_left (by rfl) (boundary_safe _ _ _ _)

theorem takePulse_safe : Safe s (takePulse s) := by
  have hignored : Safe s (ignorePulse s) := .of_fleet rfl
  have hunlocked : ∀ phase, Safe s (pulseUnlocked phase s) := fun phase =>
    .ite (.of_fleet rfl) (.ite (pulseBoundary_safe s phase) hignored)
  unfold takePulse
  simp only
  split
  · exact .refl s
  · exact .of_fleet ((blocksBegin_fleet _ _).trans rfl)
  · exact .ite (pulseBoundary_safe s _) hignored
  · exact hunlocked _
  · exact hunlocked _

theorem takeExpiry_safe : Safe s (takeExpiry s) := by
  unfold takeExpiry
  split
  · exact .refl s
  · refine .ite (.refl s) ?_
    split
    · exact .of_fleet_left (raise_fleet s .holdover) (timerBoundary_safe _ _ _)
    · exact timerBoundary_safe s _ _

end Boundary

/-! ### The site trip (R126) -/

section Trip
variable (s : State)

theorem stopIfUp_safe (i : Fin 8) : Safe s (stopIfUp i s) := by
  unfold stopIfUp
  split
  · rename_i h
    exact enters_safe (stopTrain_fleet i s) (.inl (by rcases h with h | h <;> rw [h] <;> decide)) (by decide)
  · exact .refl s

theorem zeroLost_safe : Safe s (zeroLost s) :=
  .of_move fun _ => by
    refine .releases s.fleet (zeroLost s).fleet.held fun i => ?_
    have hset : (zeroLost s).disp.setpoints[i] = if s.trains[i].state = .lost then
        s.disp.setpoints[i].map fun p => { p with held := 0 } else s.disp.setpoints[i] := Vector.getElem_ofFn i.isLt
    rw [fleet_held, hset]
    split
    · rename_i hlost
      refine .inr ⟨hlost, ?_⟩
      rw [fleet_held, Option.map_map, Option.map_map]
      rfl
    · exact .inl rfl

theorem tripAsserted_safe : Safe s (tripAsserted s) := by
  have hraised : (setVerify (raise .siteTrip { s with disp := { s.disp with trip := true } })).fleet = s.fleet := rfl
  have hstops : ∀ t : State, Safe t (inMerit stopIfUp t) := fun t => Safe.foldl _ (fun u i => stopIfUp_safe u i) _ t
  unfold tripAsserted
  simp only
  generalize setVerify (raise .siteTrip { s with disp := { s.disp with trip := true } }) = u at hraised ⊢
  exact .of_fleet_left hraised ((hstops u).trans ((zeroLost_safe _).trans (recompute_safe _)))

theorem tripReleased_safe : Safe s (tripReleased s) :=
  .of_fleet_left (t := setVerify (raise .siteTrip { s with disp := { s.disp with trip := false } })) (by rfl) (recompute_safe _)

end Trip

/-! ### Commands and events of an entry (R101, R107, R108, R112 to R115) -/

section Entry
variable {s : State}

theorem onEntry_safe {n : Nat} {f : Fin 8 → State → State} (h : ∀ i s, Safe s (f i s)) : Safe s (onEntry n f s) := by
  unfold onEntry
  split
  · exact h _ s
  · exact .refl s

/-- A command on an entry is safe where its act is, on an entry that is configured. -/
theorem entryCommand_safe {n : Nat} {allowed : TrainState → Bool} {act : Fin 8 → State → State}
    (h : ∀ (i : Fin 8) (s : State), s.cfg.trains[i].configured = true → Safe s (act i s)) : Safe s (entryCommand n allowed act s) := by
  unfold entryCommand
  split
  · exact .of_fleet rfl
  · rename_i i _
    split
    · exact .of_fleet rfl
    · rename_i hconf
      refine .ite ?_ (.of_fleet rfl)
      exact (h i s (by simpa using hconf)).replied

variable (s) (i : Fin 8)

variable {i} in
theorem withdrawAct_safe (hconf : s.cfg.trains[i].configured = true) : Safe s (withdrawAct i s) := by
  have hmoved : (withdrawIdent i (moveTrain i .withdrawn none s)).fleet = s.fleet.enter i .withdrawn :=
    (withdrawIdent_fleet _ i).trans (moveTrain_fleet ..)
  unfold withdrawAct
  exact (enters_safe ((setTrain_fleet i _ (by rfl)).trans hmoved) (.inr (.inl hconf)) (by decide)).trans (recompute_safe _)

variable {i} in
theorem restoreAct_safe (hconf : s.cfg.trains[i].configured = true) : Safe s (restoreAct i s) := by
  unfold restoreAct
  refine (enters_safe (new := .absent) ?_ (.inr (.inl hconf)) (by decide)).trans (recompute_safe _)
  rw [putIdent_fleet]
  exact (setTrain_fleet i _ (by rfl)).trans (moveTrain_fleet ..)

variable {i} in
theorem releaseAct_safe (hconf : s.cfg.trains[i].configured = true) : Safe s (releaseAct i s) := by
  unfold releaseAct
  exact (enters_safe ((setTrain_fleet i _ (by rfl)).trans (moveTrain_fleet i s .ready none)) (.inr (.inl hconf)) (by decide)).trans
    (recompute_safe _)

variable {i} in
theorem rebindAct_safe (hconf : s.cfg.trains[i].configured = true) : Safe s (rebindAct i s) := by
  unfold rebindAct
  refine .ite ((enters_safe (new := .absent) ?_ (.inr (.inl hconf)) (by decide)).trans (recompute_safe _))
    (.of_fleet (putIdent_fleet s i))
  rw [putIdent_fleet]
  exact moveTrain_fleet ..

theorem startTimedOut_safe : Safe s (startTimedOut i s) := by
  unfold startTimedOut
  split
  · rename_i h
    have hstate : s.trains[i].state = .starting := by
      rw [timerRanOut, Bool.and_eq_true, decide_eq_true_iff] at h
      exact h.1
    exact (enters_safe (t := issue ⟨i, .stop⟩ (lockOut i .startFail s)) (lockOut_fleet i s _) (.inl (by rw [hstate]; decide))
      (by decide)).trans (recompute_safe _)
  · exact .refl s

theorem stopTimedOut_safe : Safe s (stopTimedOut i s) := by
  unfold stopTimedOut
  split
  · rename_i h
    have hstate : s.trains[i].state = .stopping := by
      rw [timerRanOut, Bool.and_eq_true, decide_eq_true_iff] at h
      exact h.1
    exact (enters_safe (lockOut_fleet i s _) (.inl (by rw [hstate]; decide)) (by decide)).trans (recompute_safe _)
  · exact .refl s

theorem periodicIdentAct_fleet : (periodicIdentAct i s).fleet = s.fleet :=
  fleet_ite s ((putIdent_fleet _ i).trans (setTrain_fleet i s rfl)) rfl

theorem setOutageAct_fleet (p : OutageParams) : (setOutageAct p s).fleet = s.fleet := by
  unfold setOutageAct
  split
  · rfl
  · rename_i i _
    refine fleet_ite s rfl (fleet_ite s rfl ?_)
    rw [reply_fleet, setVerifyIf_fleet, setTrain_fleet]
    rfl

end Entry

/-! ### Saving the settings (R197) -/

section Store
variable (s : State)

theorem saveSettingsAct_safe : Safe s (saveSettingsAct s) := by
  refine .ite (.of_fleet rfl) (.of_move fun _ => ?_)
  refine .stores s.fleet (some s.cfg.trains) none (fun c hc => .inl ?_) fun c hc => nomatch hc
  exact (Option.some.inj hc).symm

theorem saveComplete_safe : Safe s (match s.nv.saving with
    | some image =>
      raise .saveDone { s with nv := { s.nv with saving := none, image := some image, lastSave := .completed } }
    | none => s) := by
  split
  · rename_i image h
    refine .of_move fun _ => .stores s.fleet none (some image.trains) (fun c hc => nomatch hc) fun c hc => .inl ?_
    rw [← Option.some.inj hc]
    simp only [State.fleet, h, Option.map_some]
  · exact .refl s

end Store

end Sys2Proof.Machine
end

section
/-! SUPPORT. A change of the settings of one entry or of the site, and the recompute after it (R98 to R100, R125, R128, R132, R195,
R196). -/

namespace Sys2Proof.Machine

/-! ### An entry's new settings -/

namespace Fleet
variable {f g : Fleet} {i : Fin 8} {new : TrainCfg}

/-- What a SET_TRAIN that is taken makes of a fleet: an entry that is neither ABSENT nor WITHDRAWN keeps its place, one whose
configured is cleared becomes ABSENT and loses its poll mark and its transaction, and a LOST one is cut to new ratings (R99, R100,
R125). -/
structure Reconfigures (i : Fin 8) (new : TrainCfg) (f g : Fleet) : Prop where
  cfg : g.cfg = f.cfg.set i new
  site : g.site = f.site
  saving : g.saving = f.saving
  image : g.image = f.image
  ratings : new.minStableKw ≤ new.ratedKw
  others : ∀ j, j ≠ i → g.state j = f.state j ∧ g.held j = f.held j ∧ g.polled j = f.polled j
  place : f.state i = .absent ∨ f.state i = .withdrawn ∨ new.kind = f.cfg[i].kind
  state : g.state i = f.state i ∨ g.state i = .absent
  unconfigured : new.configured = false → g.state i = .absent
  polled : g.polled i = true → f.polled i = true ∧ g.state i = f.state i
  inFlight : ∀ j, g.slot = some (some j, false) → f.slot = some (some j, false) ∧ (j = i → new.configured = true)
  held : ∀ v, g.held i = some v → g.state i = f.state i ∧
    ((f.held i = some v ∧ (f.state i = .lost → ¬Rerated f.cfg[i] new)) ∨
      (f.state i = .lost ∧ Rerated f.cfg[i] new ∧ (v = 0 ∨ (new.minStableKw ≤ v ∧ v ≤ new.ratedKw))))

namespace Reconfigures
variable (h : Reconfigures i new f g)
include h

theorem cfg_self : g.cfg[i] = new := by rw [h.cfg, getElem_set_same]

theorem cfg_other {j : Fin 8} (hj : j ≠ i) : g.cfg[j] = f.cfg[j] := by rw [h.cfg, getElem_set_other _ _ hj]

theorem linked (hf : f.Linked) : g.Linked where
  unconfigured j hj := by
    by_cases he : j = i
    · subst he
      exact h.unconfigured (h.cfg_self ▸ hj)
    · rw [(h.others j he).1]
      exact hf.unconfigured j (h.cfg_other he ▸ hj)
  polled j hj := by
    by_cases he : j = i
    · subst he
      obtain ⟨hpolled, hstate⟩ := h.polled hj
      exact hstate ▸ hf.polled j hpolled
    · obtain ⟨hstate, -, hpolled⟩ := h.others j he
      exact hstate ▸ hf.polled j (hpolled ▸ hj)
  inFlight j hj := by
    obtain ⟨hslot, hnew⟩ := h.inFlight j hj
    by_cases he : j = i
    · subst he
      exact h.cfg_self ▸ hnew rfl
    · rw [h.cfg_other he]
      exact hf.inFlight j hslot

/-- An entry that is neither ABSENT nor WITHDRAWN keeps its kind. -/
theorem kind {j : Fin 8} (hj : f.state j ≠ .absent ∧ f.state j ≠ .withdrawn) : g.cfg[j].kind = f.cfg[j].kind := by
  by_cases he : j = i
  · subst he
    rw [h.cfg_self]
    exact (h.place.resolve_left hj.1).resolve_left hj.2
  · rw [h.cfg_other he]

theorem up {j : Fin 8} (hj : g.up j) : f.up j := by
  have hstate : g.state j = f.state j := by
    by_cases he : j = i
    · subst he
      refine h.state.resolve_right fun habsent => ?_
      rw [Fleet.up, habsent] at hj
      exact hj.elim nofun nofun
    · exact (h.others j he).1
  rwa [Fleet.up, hstate] at hj

theorem kind_of_up {j : Fin 8} (hj : f.up j) : g.cfg[j].kind = f.cfg[j].kind :=
  h.kind (by rcases hj with hj | hj <;> rw [hj] <;> decide)

theorem unopposed (hf : f.Unopposed) : g.Unopposed := fun j k hj hk => by
  rw [h.kind_of_up (h.up hj), h.kind_of_up (h.up hk)]
  exact hf j k (h.up hj) (h.up hk)

/-- What an entry holds stands in the state that it had, and was held there or is cut. -/
theorem held_cases {j : Fin 8} {v : Nat} (hv : g.held j = some v) :
    g.state j = f.state j ∧ ((f.held j = some v ∧ (j = i → f.state j = .lost → ¬Rerated f.cfg[i] new)) ∨
      (f.state j = .lost ∧ Rerated f.cfg[i] new ∧ g.holds j v)) := by
  by_cases he : j = i
  · subst he
    obtain ⟨hstate, hkept | ⟨hlost, hr, hband⟩⟩ := h.held v hv
    · exact ⟨hstate, .inl ⟨hkept.1, fun _ => hkept.2⟩⟩
    · refine ⟨hstate, .inr ⟨hlost, hr, ?_⟩⟩
      rwa [holds, h.cfg_self]
  · obtain ⟨hstate, hheld, -⟩ := h.others j he
    exact ⟨hstate, .inl ⟨hheld ▸ hv, fun e => absurd e he⟩⟩

theorem standing (hf : f.Standing) : g.Standing where
  placed j v hv := by
    obtain ⟨hstate, ⟨hheld, -⟩ | ⟨hlost, -⟩⟩ := h.held_cases hv
    · exact hstate ▸ hf.placed j v hheld
    · rw [hstate, hlost]
      rfl
  starting j v hv hst := by
    obtain ⟨hstate, ⟨hheld, -⟩ | ⟨hlost, -⟩⟩ := h.held_cases hv
    · exact hf.starting j v hheld (hstate ▸ hst)
    · rw [hstate, hlost] at hst
      exact nomatch hst

theorem rated (hf : f.Rated) : g.Rated where
  ratings j := by
    by_cases he : j = i
    · subst he
      rw [h.cfg_self]
      exact h.ratings
    · rw [h.cfg_other he]
      exact hf.ratings j
  saving := h.saving ▸ hf.saving
  image := h.image ▸ hf.image

/-- A value in band before stays in band where the entry's ratings stay. -/
theorem holds_of_holds {j : Fin 8} {v : Nat} (hv : f.holds j v) (hr : j = i → ¬Rerated f.cfg[i] new) : g.holds j v := by
  by_cases he : j = i
  · subst he
    obtain ⟨hrated, hmin⟩ := not_or.1 (hr rfl)
    rwa [holds, h.cfg_self, not_ne_iff.1 hrated, not_ne_iff.1 hmin]
  · rwa [holds, h.cfg_other he]

theorem lost_holds (hf : f.Bounded) {j : Fin 8} {v : Nat} (hv : g.held j = some v) (hst : g.state j = .lost) : g.holds j v := by
  obtain ⟨hstate, ⟨hheld, hr⟩ | ⟨-, -, hband⟩⟩ := h.held_cases hv
  · exact h.holds_of_holds (hf.inBand j v hheld) fun e => hr e (hstate ▸ hst)
  · exact hband

theorem bounded (hstanding : f.Standing) (hf : f.Bounded) (hr : ¬Rerated f.cfg[i] new) : g.Bounded := by
  have hheld : ∀ j v, g.held j = some v → f.held j = some v := fun j v hv =>
    (h.held_cases hv).2.elim And.left fun hcut => absurd hcut.2.1 hr
  refine ⟨fun j v hv => h.holds_of_holds (hf.inBand j v (hheld j v hv)) fun _ => hr, fun kind => ?_⟩
  rw [h.site]
  refine le_trans (List.sum_le_sum fun j _ => ?_) (hf.withinGrid kind)
  rw [counted_eq hstanding, counted_eq (h.standing hstanding)]
  cases hv : g.held j with
  | none =>
    rw [Option.getD_none, ite_self]
    exact Nat.zero_le _
  | some v =>
    have hkeeps := (keepsSetpoint_iff _).1 (hstanding.placed j v (hheld j v hv))
    rw [hheld j v hv, h.kind (by rcases hkeeps with hst | hst | hst <;> rw [hst] <;> decide)]

end Reconfigures

end Fleet

/-! ### A change of settings and the recompute after it -/

/-- A change after which only the recompute brings the bands and the grid limits about. -/
theorem Safe.of_changed {s u : State} {b : Bool} (hlinked : s.fleet.Linked → u.fleet.Linked)
    (hup : s.fleet.Linked → s.fleet.Unopposed → u.fleet.Unopposed)
    (hset : s.fleet.Linked → s.fleet.Sound → u.fleet.Standing ∧ u.fleet.Rated ∧
      (∀ i v, u.fleet.held i = some v → u.fleet.state i = .lost → u.fleet.holds i v) ∧ (b = false → u.fleet.Bounded)) :
    Safe s (recomputeIf b u) := fun hs => by
  obtain ⟨ht, hup', hsound'⟩ := recomputeIf_safe b u (hlinked hs)
  refine ⟨ht, fun h => hup' (hup hs h), fun h => ?_⟩
  obtain ⟨hstanding, hrated, hlost, hbounded⟩ := hset hs h
  by_cases hb : b = true
  · rw [hb, recomputeIf, if_pos rfl]
    exact recompute_sound hstanding hrated hlost
  · exact hsound' ⟨hstanding, hrated, hbounded (Bool.eq_false_iff.2 hb)⟩

/-! ### SET_SITE (R195, R196) -/

section Site
variable (s : State)

/-- The part with other site values. -/
def State.withSite (c : SiteCfg) : State := { s with cfg := { s.cfg with site := c } }

theorem withSite_fleet (c : SiteCfg) : (s.withSite c).fleet = { s.fleet with site := c } := rfl

/-- The two grid limits are among the values whose change is a cause of a recompute (R196). -/
theorem gridLimit_of_same {a b : SiteCfg} (h : a.gridDiffers b = false) (kind : TrainKind) :
    gridLimit a kind = gridLimit b kind := by
  simp only [SiteCfg.gridDiffers, Bool.or_eq_false_iff, decide_eq_false_iff_not, not_not] at h
  obtain ⟨⟨himport, hexport⟩, -⟩ := h
  cases kind
  · exact himport
  · exact hexport

theorem changeSite_safe (c : SiteCfg) (b : Bool) (hb : b = c.gridDiffers s.cfg.site) :
    Safe s (recomputeIf b (setVerifyIf b (s.withSite c))) := by
  refine .of_changed ?_ ?_ ?_
  all_goals rw [setVerifyIf_fleet, withSite_fleet]
  · exact fun hs => ⟨hs.unconfigured, hs.polled, hs.inFlight⟩
  · exact fun _ hup => hup
  · rintro - ⟨hstanding, hrated, hbounded⟩
    refine ⟨⟨hstanding.placed, hstanding.starting⟩, ⟨hrated.ratings, hrated.saving, hrated.image⟩,
      fun i v hv _ => hbounded.inBand i v hv, fun hsame => ⟨hbounded.inBand, fun kind => ?_⟩⟩
    exact le_of_le_of_eq (hbounded.withinGrid kind) (gridLimit_of_same (hb.symm.trans hsame) kind).symm

theorem setSiteAct_safe (p : SiteParams) : Safe s (setSiteAct p s) := by
  unfold setSiteAct
  split
  · exact (changeSite_safe s _ _ rfl).replied
  · exact .of_fleet (reply_fleet s _)

end Site

/-! ### SET_TRAIN (R99, R100, R125) -/

section Train
variable {i : Fin 8} {new : TrainCfg} {s : State}

/-- A held value that is cut lies in the new band, or is 0 (R125). -/
theorem cutToRating_inBand (t : TrainCfg) (v : Nat) :
    cutToRating t v = 0 ∨ (t.minStableKw ≤ cutToRating t v ∧ cutToRating t v ≤ t.ratedKw) := by
  simp only [cutToRating]
  split <;> omega

theorem trainSet_fleet_state (j : Fin 8) : (trainSet i new s).fleet.state j =
    if j = i then (rebindWork s.cfg.trains[i] new s.trains[i]).state else s.fleet.state j := by
  rw [trainSet, setVerifyIf_fleet]
  change (s.trains.set i (rebindWork s.cfg.trains[i] new s.trains[i]))[j].state = _
  split
  · rename_i hj
    subst hj
    rw [getElem_set_same]
  · rename_i hj
    rw [getElem_set_other _ _ hj]
    rfl

theorem trainSet_fleet_held (j : Fin 8) : (trainSet i new s).fleet.held j = (setpointsSet i new s)[j].map Setpoint.held := by
  rw [trainSet, setVerifyIf_fleet]
  rfl

theorem trainSet_fleet_polled (j : Fin 8) : (trainSet i new s).fleet.polled j =
    (!(decide (j = i) && cleared s.cfg.trains[i] new) && s.fleet.polled j) := by
  rw [trainSet, setVerifyIf_fleet]
  change (if cleared s.cfg.trains[i] new then s.link.polls.set i none else s.link.polls)[j].isSome = _
  by_cases hc : cleared s.cfg.trains[i] new = true
  · by_cases hj : j = i
    · subst hj
      simp only [hc, if_true, getElem_set_same]
      simp
    · simp only [hc, if_true, getElem_set_other _ _ hj, hj]
      rfl
  · simp only [hc]
    simp [State.fleet]

theorem trainSet_fleet_slot : (trainSet i new s).fleet.slot = s.fleet.slot.map fun x =>
    (x.1, if x.1 = some i then x.2 || (cleared s.cfg.trains[i] new || placed s.cfg.trains[i] new) else x.2) := by
  rw [trainSet, setVerifyIf_fleet]
  change Option.map _ (Option.map _ _) = Option.map _ (Option.map _ _)
  rw [Option.map_map, Option.map_map]
  refine congrArg (Option.map · s.link.slot) (funext fun t => ?_)
  simp only [Function.comp_apply]
  split <;> rfl

theorem trainSet_fleet_aside : (trainSet i new s).fleet.cfg = s.fleet.cfg.set i new ∧
    (trainSet i new s).fleet.site = s.fleet.site ∧
    (trainSet i new s).fleet.saving = s.fleet.saving ∧ (trainSet i new s).fleet.image = s.fleet.image := by
  rw [trainSet, setVerifyIf_fleet]
  exact ⟨rfl, rfl, rfl, rfl⟩

theorem setpointsSet_other {j : Fin 8} (hj : j ≠ i) : (setpointsSet i new s)[j] = s.disp.setpoints[j] := by
  unfold setpointsSet
  split
  · exact getElem_set_other _ _ hj
  · split
    · exact getElem_set_other _ _ hj
    · rfl

/-- What entry `i` holds after its SET_TRAIN: nothing where its configured is cleared, a value cut to its new band where it is LOST
and its ratings are new, and else what it held (R100, R125). -/
theorem setpointsSet_self {v : Nat} (hfound : appears s.cfg.trains[i] new = true → s.trains[i].state = .absent)
    (hv : (setpointsSet i new s)[i].map Setpoint.held = some v) : cleared s.cfg.trains[i] new = false ∧
      ((s.fleet.held i = some v ∧ (s.trains[i].state = .lost → ¬Rerated s.cfg.trains[i] new)) ∨
        (s.trains[i].state = .lost ∧ Rerated s.cfg.trains[i] new ∧ (v = 0 ∨ (new.minStableKw ≤ v ∧ v ≤ new.ratedKw)))) := by
  unfold setpointsSet at hv
  split at hv
  · rw [getElem_set_same] at hv
    exact nomatch hv
  · rename_i hc
    refine ⟨Bool.eq_false_iff.2 hc, ?_⟩
    split at hv
    · rename_i hcut
      obtain ⟨_, hr, hlost⟩ := hcut
      rw [getElem_set_same, Option.map_map] at hv
      obtain ⟨q, -, rfl⟩ := Option.map_eq_some_iff.1 hv
      exact .inr ⟨hlost, hr, cutToRating_inBand new q.held⟩
    · rename_i hcut
      refine .inl ⟨hv, fun hlost hr => hcut ⟨fun ha => ?_, hr, hlost⟩⟩
      exact nomatch (hfound ha).symm.trans hlost

/-- A SET_TRAIN that R99 lets through, in the terms of the fleet. -/
theorem trainSet_reconfigures (hlinked : s.fleet.Linked) (hratings : new.minStableKw ≤ new.ratedKw)
    (hl : identityLocked s.trains[i] s.cfg.trains[i] new = false) :
    Fleet.Reconfigures i new s.fleet (trainSet i new s).fleet := by
  obtain ⟨hcfg, hsite, hsaving, himage⟩ := trainSet_fleet_aside (i := i) (new := new) (s := s)
  have habsent : s.cfg.trains[i].configured = false → s.trains[i].state = .absent := hlinked.unconfigured i
  have hfound : appears s.cfg.trains[i] new = true → s.trains[i].state = .absent := fun ha => habsent ((appears_iff _ _).1 ha).1
  have hstate : (trainSet i new s).fleet.state i = if cleared s.cfg.trains[i] new then .absent else s.fleet.state i := by
    rw [trainSet_fleet_state, if_pos rfl, rebindWork_state]
    cases ha : appears s.cfg.trains[i] new with
    | false => rw [Bool.false_or, fleet_state]
    | true => rw [Bool.true_or, if_pos rfl, fleet_state, hfound ha, ite_self]
  have hkept : cleared s.cfg.trains[i] new = false → (trainSet i new s).fleet.state i = s.fleet.state i := fun hc => by
    rw [hstate, hc, if_neg Bool.false_ne_true]
  refine ⟨hcfg, hsite, hsaving, himage, hratings, fun j hj => ⟨?_, ?_, ?_⟩, ?_, ?_, fun hnew => ?_, fun hpolled => ?_,
    fun j hj => ?_, fun v hv => ?_⟩
  · rw [trainSet_fleet_state, if_neg hj]
  · rw [trainSet_fleet_held, setpointsSet_other hj, fleet_held]
  · rw [trainSet_fleet_polled, decide_eq_false hj, Bool.false_and, Bool.not_false, Bool.true_and]
  · cases hold : s.cfg.trains[i].configured with
    | false => exact .inl (habsent hold)
    | true =>
      by_contra hserved
      obtain ⟨hpresent, hserved⟩ := not_or.1 hserved
      obtain ⟨hin, hkind⟩ := not_or.1 hserved
      exact Bool.eq_false_iff.1 hl ((identityLocked_iff _ _ _).2 ⟨hold, hpresent, hin, .inr (.inl hkind)⟩)
  · rw [hstate]
    split
    · exact .inr rfl
    · exact .inl rfl
  · rw [hstate]
    split
    · rfl
    · rename_i hc
      refine habsent (Bool.eq_false_iff.2 fun hold => hc ?_)
      exact (cleared_iff _ _).2 ⟨hold, hnew⟩
  · rw [trainSet_fleet_polled, decide_eq_true rfl, Bool.true_and, Bool.and_eq_true, Bool.not_eq_true'] at hpolled
    exact ⟨hpolled.2, hkept hpolled.1⟩
  · rw [trainSet_fleet_slot] at hj
    obtain ⟨x, hx, heq⟩ := Option.map_eq_some_iff.1 hj
    obtain ⟨e, d⟩ := x
    obtain ⟨rfl, hd⟩ := Prod.mk.inj heq
    by_cases he : j = i
    · subst he
      rw [if_pos rfl, Bool.or_eq_false_iff, Bool.or_eq_false_iff] at hd
      obtain ⟨rfl, hc, -⟩ := hd
      refine ⟨hx, fun _ => ?_⟩
      by_contra hnew
      exact Bool.eq_false_iff.1 hc ((cleared_iff _ _).2 ⟨hlinked.inFlight j hx, Bool.eq_false_iff.2 hnew⟩)
    · rw [if_neg fun h => he (Option.some.inj h)] at hd
      exact ⟨hd ▸ hx, fun h => absurd h he⟩
  · rw [trainSet_fleet_held] at hv
    obtain ⟨hc, hcases⟩ := setpointsSet_self hfound hv
    exact ⟨hkept hc, hcases⟩

theorem applyTrain_safe (hratings : new.minStableKw ≤ new.ratedKw)
    (hl : identityLocked s.trains[i] s.cfg.trains[i] new = false) : Safe s (applyTrain i new s) := by
  have hst : cleared s.cfg.trains[i] new = true → s.trains[i].state = .absent ∨ s.trains[i].state = .withdrawn := fun hc => by
    obtain ⟨hold, hnew⟩ := (cleared_iff _ _).1 hc
    by_contra hserved
    obtain ⟨hpresent, hin⟩ := not_or.1 hserved
    exact Bool.eq_false_iff.1 hl ((identityLocked_iff _ _ _).2 ⟨hold, hpresent, hin, .inl (by rw [hold, hnew]; decide)⟩)
  have hset := fun hs : s.fleet.Linked => trainSet_reconfigures hs hratings hl
  rw [applyTrain_eq hst]
  refine .of_changed (fun hs => (hset hs).linked hs) (fun hs => (hset hs).unopposed) fun hs hsound => ?_
  obtain ⟨hstanding, hrated, hbounded⟩ := hsound
  refine ⟨(hset hs).standing hstanding, (hset hs).rated hrated, fun j v => (hset hs).lost_holds hbounded, fun hb => ?_⟩
  exact (hset hs).bounded hstanding hbounded (not_or.1 (of_decide_eq_false hb)).1

theorem setTrainAct_safe (s : State) (p : TrainParams) : Safe s (setTrainAct p s) := by
  by_cases hout : p.entry = 0 ∨ 8 < p.entry
  · rw [setTrainAct_outside hout]
    exact .of_fleet rfl
  obtain ⟨i, hp⟩ : ∃ i : Fin 8, p.entry = i.val + 1 := ⟨⟨p.entry - 1, by omega⟩, by simp only; omega⟩
  by_cases hgood : trainSettingsGood p i (s.cfg.trains[i].given p) s.cfg.trains
  · cases hl : identityLocked s.trains[i] s.cfg.trains[i] (s.cfg.trains[i].given p) with
    | true =>
      rw [setTrainAct_locked hp hgood hl]
      exact .of_fleet rfl
    | false =>
      rw [setTrainAct_taken hp hgood hl]
      exact (applyTrain_safe hgood.2.1 hl).replied
  · rw [setTrainAct_refused hp hgood]
    exact .of_fleet rfl

end Train

end Sys2Proof.Machine
end

section
/-! SUPPORT. The two resets and the machine's step over the fleet (R128, R129, R132, R199, R200). -/

namespace Sys2Proof.Machine

/-! ### The resets (R199, R200) -/

section Resets
variable {s t : State}

/-- After a reset every entry is ABSENT, holds nothing and has neither poll mark nor transaction in flight (R97, R120, R173). -/
theorem ResetBlocks.fleet (h : ResetBlocks s t) :
    t.fleet = { t.fleet with state := fun _ => .absent, held := fun _ => none, polled := fun _ => false, slot := none } := by
  simp only [State.fleet, h.trains, h.disp, h.link, Fin.getElem_fin, TrainWork.cleared, DispatchUnit.cleared, Link.cleared,
    Vector.getElem_replicate, Option.map_none, Option.isSome_none]

/-- A reset clears what the invariants speak of, so that only the settings that it loads count. -/
theorem ResetBlocks.safe (h : ResetBlocks s t) (hrated : s.fleet.Rated → t.fleet.Rated) : Safe s (Machine.tripAtReset t) := by
  have hreset : Safe s t := fun _ => by
    have hstate : ∀ i, t.fleet.state i = .absent := fun i => by rw [h.fleet]
    have hheld : ∀ i, t.fleet.held i = none := fun i => by rw [h.fleet]
    have hpolled : ∀ i, t.fleet.polled i = false := fun i => by rw [h.fleet]
    have hslot : t.fleet.slot = none := by rw [h.fleet]
    have hdown : ∀ i, ¬t.fleet.up i := fun i hup => by
      rw [Fleet.up, hstate i] at hup
      exact hup.elim nofun nofun
    have hempty : ∀ i v, t.fleet.held i ≠ some v := fun i v hv => nomatch (hheld i).symm.trans hv
    refine ⟨⟨fun i _ => hstate i, fun i hi => ?_, fun i hi => ?_⟩, fun _ i _ hi => absurd hi (hdown i), fun hs => ?_⟩
    · exact nomatch (hpolled i).symm.trans hi
    · exact nomatch hslot.symm.trans hi
    · have hstanding : t.fleet.Standing := ⟨fun i v hv => absurd hv (hempty i v), fun i v hv => absurd hv (hempty i v)⟩
      refine ⟨hstanding, hrated hs.rated, fun i v hv => absurd hv (hempty i v), fun kind => ?_⟩
      refine le_of_eq_of_le (List.sum_eq_zero fun n hn => ?_) (Nat.zero_le _)
      obtain ⟨i, -, rfl⟩ := List.mem_map.1 hn
      rw [Fleet.counted_eq hstanding, hheld i, Option.getD_none, ite_self]
  exact hreset.trans (.ite (tripAsserted_safe t) (.refl t))

theorem stationReset_rated (r : ResultCode) (b : Body) (h : s.fleet.Rated) : (stationReset (s.answered r b)).fleet.Rated := by
  have hstore : (stationReset (s.answered r b)).nv = s.nv.afterStationReset := rfl
  refine ⟨?_, ?_, ?_⟩
  · simp only [fleet_cfg, stationReset_cfg]
    exact h.ratings
  all_goals
    simp only [State.fleet, hstore, afterStationReset_eq]
    split
  · exact h.saving
  · exact nofun
  · exact h.image
  · exact nofun

theorem factory_ratingsSound : ratingsSound Settings.factory.trains := fun i => by
  simp [Settings.factory, TrainCfg.factory]

theorem powerOnState_rated (h : s.fleet.Rated) : (powerOnState s).fleet.Rated := by
  have hpowered : ∀ cfg : Settings, ratingsSound cfg.trains → (poweredWith s cfg).fleet.Rated := fun cfg hcfg =>
    ⟨hcfg, nofun, h.image⟩
  cases himage : s.nv.image with
  | none =>
    rw [powerOnState_of_noImage himage, raise_fleet]
    exact hpowered _ factory_ratingsSound
  | some cfg =>
    rw [powerOnState_of_image himage]
    exact hpowered cfg (h.image cfg.trains (by simp only [State.fleet, himage, Option.map_some]))

end Resets

/-! ### Every command -/

section Commands
variable (s : State)

theorem readCommitmentAct_fleet (key : Nat) : (readCommitmentAct key s).fleet = s.fleet := by
  unfold readCommitmentAct
  split <;> rfl

theorem readProjectionAct_fleet (page : Nat) : (readProjectionAct page s).fleet = s.fleet :=
  fleet_ite s rfl (fleet_ite s rfl (fleet_ite s rfl rfl))

theorem verifyAct_fleet : (verifyAct s).fleet = s.fleet := fleet_ite s rfl rfl

theorem readCavernAct_fleet (n : Nat) : (readCavernAct n s).fleet = s.fleet := by
  unfold readCavernAct
  split <;> rfl

theorem readTrainAct_fleet (n : Nat) : (readTrainAct n s).fleet = s.fleet := by
  unfold readTrainAct
  split <;> rfl

theorem readChannelAct_fleet (n : Nat) : (readChannelAct n s).fleet = s.fleet := by
  unfold readChannelAct
  split <;> rfl

theorem snapshotAct_fleet : (snapshotAct s).fleet = s.fleet := fleet_ite s rfl rfl

theorem setAliasAct_fleet (p : AliasParams) : (setAliasAct p s).fleet = s.fleet := by
  unfold setAliasAct
  split
  · rfl
  · split
    · rfl
    · split <;> rfl
    · rfl

theorem linkSpeedAct_fleet (n : Nat) : (linkSpeedAct n s).fleet = s.fleet := by
  unfold linkSpeedAct
  split <;> rfl

theorem setNoticeMaskAct_fleet (n : Nat) : (setNoticeMaskAct n s).fleet = s.fleet := fleet_ite s rfl rfl

theorem fetchBytes_fleet (n : Nat) : (fetchBytes n s).fleet = s.fleet := by
  unfold fetchBytes
  split
  · simp only
    split <;> rfl
  · rfl

variable {s}

theorem exec_safe {c : Instr} {t : State} (h : exec c s = .next t) : Safe s t := by
  cases c with
  | book p => exact holds_of_next (Safe s) h (station_fleet fun s => bookAct_fleet s p)
  | confirm key => exact holds_of_next (Safe s) h (station_fleet fun s => confirmAct_fleet s key)
  | amend p => exact holds_of_next (Safe s) h (station_fleet fun s => amendAct_fleet s p)
  | retire key => exact holds_of_next (Safe s) h (station_fleet fun s => retireAct_fleet s key)
  | readCommitment key => exact holds_of_next (Safe s) h (station_fleet fun s => readCommitmentAct_fleet s key)
  | listCommitments page => exact holds_of_next (Safe s) h (station_fleet fun s => fleet_ite s rfl rfl)
  | readProjection page => exact holds_of_next (Safe s) h (station_fleet fun s => readProjectionAct_fleet s page)
  | verify => exact holds_of_next (Safe s) h (station_fleet verifyAct_fleet)
  | setCavern p => exact holds_of_next (Safe s) h (station_safe fun _ => settingsWrite_safe fun s => setCavernAct_safe s p)
  | loadCavernTable p =>
    exact holds_of_next (Safe s) h (station_safe fun _ => settingsWrite_fleet fun s => loadCavernTableAct_fleet s p)
  | readCavern n => exact holds_of_next (Safe s) h (station_fleet fun s => readCavernAct_fleet s n)
  | setStore p => exact holds_of_next (Safe s) h (station_safe fun _ => settingsWrite_safe fun s => setStoreAct_safe s p)
  | loadStoreTable p =>
    exact holds_of_next (Safe s) h (station_safe fun _ => settingsWrite_fleet fun s => loadStoreTableAct_fleet s p)
  | readStore => exact holds_of_next (Safe s) h (station_fleet fun _ => rfl)
  | setTrain p => exact holds_of_next (Safe s) h (station_safe fun _ => settingsWrite_safe fun s => setTrainAct_safe s p)
  | setOutage p => exact holds_of_next (Safe s) h (station_fleet fun s => setOutageAct_fleet s p)
  | withdraw n => exact holds_of_next (Safe s) h (station_safe fun _ => entryCommand_safe fun _ s => withdrawAct_safe s)
  | restore n => exact holds_of_next (Safe s) h (station_safe fun _ => entryCommand_safe fun _ s => restoreAct_safe s)
  | release n => exact holds_of_next (Safe s) h (station_safe fun _ => entryCommand_safe fun _ s => releaseAct_safe s)
  | rebind n => exact holds_of_next (Safe s) h (station_safe fun _ => entryCommand_safe fun _ s => rebindAct_safe s)
  | readTrain n => exact holds_of_next (Safe s) h (station_fleet fun s => readTrainAct_fleet s n)
  | setSite p => exact holds_of_next (Safe s) h (station_safe fun _ => settingsWrite_safe fun s => setSiteAct_safe s p)
  | readDispatch => exact holds_of_next (Safe s) h (station_fleet fun _ => rfl)
  | setChannel p => exact holds_of_next (Safe s) h (station_safe fun _ => settingsWrite_safe fun s => setChannelAct_safe s p)
  | setScanList l => exact holds_of_next (Safe s) h (station_safe fun _ => settingsWrite_fleet fun s => setScanListAct_fleet s l)
  | readChannel n => exact holds_of_next (Safe s) h (station_fleet fun s => readChannelAct_fleet s n)
  | snapshot => exact holds_of_next (Safe s) h (station_fleet snapshotAct_fleet)
  | setInterval n form => exact holds_of_next (Safe s) h (station_fleet fun s => setIntervalAct_fleet s n form)
  | readClock => exact holds_of_next (Safe s) h (station_fleet fun _ => rfl)
  | setAlias p => exact holds_of_next (Safe s) h (station_safe fun _ => settingsWrite_fleet fun s => setAliasAct_fleet s p)
  | forward p => exact holds_of_next (Safe s) h (station_fleet fun s => forwardAct_fleet s p)
  | linkSpeed n => exact holds_of_next (Safe s) h (station_fleet fun s => linkSpeedAct_fleet s n)
  | readLink => exact holds_of_next (Safe s) h (station_fleet fun _ => rfl)
  | saveSettings => exact holds_of_next (Safe s) h (station_safe saveSettingsAct_safe)
  | readNotices => exact holds_of_next (Safe s) h (station_fleet fun _ => rfl)
  | setNoticeMask n => exact holds_of_next (Safe s) h (station_fleet fun s => setNoticeMaskAct_fleet s n)
  | resetStation =>
    by_cases hi : s.port.state = .idle
    · rw [exec_resetStation_idle hi] at h
      exact holds_of_next (Safe s) h ((stationReset_blocks s .done .empty).safe (stationReset_rated .done .empty))
    · exact holds_of_next (Safe s) h ((Safe.of_fleet (sequenceError_fleet s)).of_fleet_right (by rw [station_busy hi]))
  | identify => exact holds_of_next (Safe s) h (station_fleet fun _ => rfl)
  | unknownCommand r => exact holds_of_next (Safe s) h (station_fleet fun _ => rfl)
  | fetch n => exact holds_of_next (Safe s) h (.of_fleet (fleet_ite s rfl (fetchBytes_fleet s n)))
  | powerOnReset => exact holds_of_next (Safe s) h ((powerOnState_blocks s).safe powerOnState_rated)
  | saveComplete => exact holds_of_next (Safe s) h (saveComplete_safe s)
  | pulse => exact holds_of_next (Safe s) h (takePulse_safe s)
  | ownTimerExpiry => exact holds_of_next (Safe s) h (takeExpiry_safe s)
  | absorbWindowClose => exact holds_of_next (Safe s) h (.of_fleet (fleet_ite s rfl rfl))
  | siteTripAssert =>
    exact holds_of_next (Safe s) h (.ite (.refl s) (.of_fleet_left (fleet_with_pins s ⟨true⟩) (tripAsserted_safe _)))
  | siteTripRelease =>
    exact holds_of_next (Safe s) h (.ite (.of_fleet_left (fleet_with_pins s ⟨false⟩) (tripReleased_safe _)) (.refl s))
  | runStart => exact holds_of_next (Safe s) h (.of_fleet (considerRun_fleet s))
  | verificationRunComplete =>
    refine holds_of_next (Safe s) h ?_
    split
    · exact .ite (completeVerification_safe s _) (.refl s)
    · exact .refl s
  | admissionRunComplete =>
    refine holds_of_next (Safe s) h ?_
    split
    · exact .ite (.refl s) (completeAdmission_safe s _)
    · exact .refl s
  | pinTimeout =>
    refine holds_of_next (Safe s) h (.of_fleet ?_)
    split
    · exact fleet_ite s rfl rfl
    · rfl
  | entryComplete codes => exact holds_of_next (Safe s) h (entryComplete_safe s codes)
  | grant => exact holds_of_next (Safe s) h (grantSlot_safe s)
  | replyReceived bytes =>
    refine holds_of_next (Safe s) h ?_
    split
    · rename_i hawaited
      exact endTransaction_safe hawaited _
    · exact .of_fleet rfl
  | replyTimeout =>
    refine holds_of_next (Safe s) h ?_
    split
    · rename_i hawaited
      exact endTransaction_safe hawaited .timeout
    · exact .refl s
  | broadcastSent => exact holds_of_next (Safe s) h (broadcastSent_safe s)
  | unsolicitedFrame => exact holds_of_next (Safe s) h (.of_fleet rfl)
  | linkReset => exact holds_of_next (Safe s) h (linkReset_safe s)
  | startTimerExpiry n => exact holds_of_next (Safe s) h (onEntry_safe fun i s => startTimedOut_safe s i)
  | stopTimerExpiry n => exact holds_of_next (Safe s) h (onEntry_safe fun i s => stopTimedOut_safe s i)
  | pollDue n => exact holds_of_next (Safe s) h (onEntry_safe fun i s => .of_fleet (pollFallsDue_fleet s i))
  | periodicIdent n => exact holds_of_next (Safe s) h (onEntry_safe fun i s => .of_fleet (periodicIdentAct_fleet s i))

/-- With no command waiting 1 ms passes, and otherwise the command in front runs. -/
theorem step_safe {t : State} (h : step s = .next t) : Safe s t := by
  unfold step at h
  split at h
  · exact holds_of_next (Safe s) h (.of_fleet rfl)
  · rename_i c rest _
    exact .of_fleet_left (fleet_with_pending s rest) (exec_safe h)

end Commands

/-- Settles O57: what ties the roster to its settings and to the link, with the direction of the entries that are up, is kept by
every move of the fleet. -/
theorem stepKeepsDirectionsSound : Obligations.StepKeepsDirectionsSound := by
  unfold Obligations.StepKeepsDirectionsSound
  intro s t hs hstep
  exact (step_safe hstep).directions hs

/-- Settles O58: the setpoints stay where they may stand through every move of the fleet, and a recompute brings the bands and the
grid limits about after a change of settings. -/
theorem stepKeepsSetpointsSound : Obligations.StepKeepsSetpointsSound := by
  unfold Obligations.StepKeepsSetpointsSound
  intro s t hs hstep
  exact (step_safe hstep).setpoints hs

end Sys2Proof.Machine
end

section
/-! SUPPORT. The scanner's results and votes (R147, R148, R153 to R155): a result formed and judged, the order of the counted
values, and the outcomes of the table. -/

namespace Sys2Proof.Machine

/-! ### Results and window states (R147, R148) -/

/-- A conversion is invalid by the code of an open or of a shorted input (R147 step 2). -/
theorem codesValid_iff (codes : List Nat) : codesValid codes = true ↔ 0 ∉ codes ∧ 4095 ∉ codes := by
  simp only [codesValid, List.all_eq_true, Bool.and_eq_true, decide_eq_true_eq, forall_and, List.forall_mem_ne']

theorem formResult_code (cfg : ChannelCfg) (codes : List Nat) : (formResult cfg codes).code = averagedCode codes := by
  unfold formResult
  split <;> rfl

theorem formResult_invalid {codes : List Nat} (h : 0 ∈ codes ∨ 4095 ∈ codes) (cfg : ChannelCfg) :
    formResult cfg codes = ⟨averagedCode codes, none, .noState⟩ :=
  if_neg fun hvalid => not_and_or.2 (h.imp not_not_intro not_not_intro) ((codesValid_iff codes).1 hvalid)

theorem formResult_valid {codes : List Nat} (h0 : 0 ∉ codes) (h4095 : 4095 ∉ codes) (cfg : ChannelCfg) :
    formResult cfg codes =
      let v := scaledValue cfg (averagedCode codes)
      ⟨averagedCode codes, some v, windowStateOf cfg v⟩ :=
  if_pos ((codesValid_iff codes).2 ⟨h0, h4095⟩)

section Window
variable {cfg : ChannelCfg} {v : Int}

theorem alarm_iff_of_ite {q : Prop} [Decidable q] :
    (if q then WindowState.alarm else .clear) = .alarm ↔ q := by
  simp only [ite_eq_left_iff, reduceCtorEq, imp_false, not_not]

theorem windowStateOf_outside (h : cfg.windowMode = .alarmOutside) :
    windowStateOf cfg v = .alarm ↔ v < cfg.windowLow ∨ cfg.windowHigh < v := by
  rw [windowStateOf, h]
  exact alarm_iff_of_ite

theorem windowStateOf_inside (h : cfg.windowMode = .alarmInside) :
    windowStateOf cfg v = .alarm ↔ cfg.windowLow ≤ v ∧ v ≤ cfg.windowHigh := by
  rw [windowStateOf, h]
  exact alarm_iff_of_ite

/-- A valid result is in ALARM or CLEAR (R148). -/
theorem windowStateOf_clear (h : windowStateOf cfg v ≠ .alarm) : windowStateOf cfg v = .clear := by
  unfold windowStateOf at h ⊢
  split at h <;> simp_all

end Window

/-- Settles O39, by whether every code is valid. -/
theorem resultFormedAndJudged : Obligations.ResultFormedAndJudged := by
  unfold Obligations.ResultFormedAndJudged
  intro cfg codes code exact v r
  refine ⟨formResult_code cfg codes, fun hbad => ?_, fun h0 h4095 => ?_⟩
  · have hr : r = _ := formResult_invalid hbad cfg
    simp only [hr, and_self]
  · have hr : r = ⟨code, some v, windowStateOf cfg v⟩ := formResult_valid h0 h4095 cfg
    rw [hr]
    exact ⟨rfl, windowStateOf_outside, windowStateOf_inside, windowStateOf_clear⟩

/-! ### The counted values in their order (R153) -/

/-- Of two positions the first is the earlier one (R153). -/
def Position.earlier (p q : Position) : Prop := (p = .a ∧ (q = .b ∨ q = .c)) ∨ (p = .b ∧ q = .c)

/-- Of two counted values the first stands before the second: it is less, or equal and of an earlier position (R153). -/
def countsBefore (x y : Nat × Position) : Prop := x.1 < y.1 ∨ (x.1 = y.1 ∧ x.2.earlier y.2)

theorem le_of_countsBefore {x y : Nat × Position} (h : countsBefore x y) : x.1 ≤ y.1 := by
  obtain hlt | ⟨heq, _⟩ := h
  · exact hlt.le
  · exact heq.le

theorem countsBefore_of_le {x y : Nat × Position} (hle : x.1 ≤ y.1) (hpos : x.2.earlier y.2) : countsBefore x y :=
  hle.lt_or_eq.imp_right fun heq => ⟨heq, hpos⟩

/-- A value inserted among values of later positions keeps their order. -/
theorem orderedInsert_countsBefore {x : Nat × Position} {l : List (Nat × Position)} (hl : l.Pairwise countsBefore)
    (hx : ∀ y ∈ l, x.2.earlier y.2) : (l.orderedInsert (fun x y => x.1 ≤ y.1) x).Pairwise countsBefore := by
  induction l with
  | nil => exact List.pairwise_singleton _ _
  | cons y l ih =>
    obtain ⟨hyl, hl'⟩ := List.pairwise_cons.1 hl
    rw [List.orderedInsert]
    split
    next hxy =>
      refine List.pairwise_cons.2 ⟨fun z hz => countsBefore_of_le ?_ (hx z hz), hl⟩
      obtain rfl | hz := List.mem_cons.1 hz
      · exact hxy
      · exact hxy.trans (le_of_countsBefore (hyl z hz))
    next hxy =>
      refine List.pairwise_cons.2 ⟨fun z hz => ?_, ih hl' fun z hz => hx z (List.mem_cons_of_mem _ hz)⟩
      obtain rfl | hz := (List.mem_orderedInsert _).1 hz
      · exact .inl (Nat.lt_of_not_le hxy)
      · exact hyl z hz

/-- Values listed by position are sorted with the earlier position first among equal ones. -/
theorem insertionSort_countsBefore {l : List (Nat × Position)} (hl : l.Pairwise fun x y => x.2.earlier y.2) :
    (l.insertionSort fun x y => x.1 ≤ y.1).Pairwise countsBefore := by
  induction l with
  | nil => exact .nil
  | cons x l ih =>
    obtain ⟨hx, hl⟩ := List.pairwise_cons.1 hl
    exact orderedInsert_countsBefore (ih hl) fun y hy => hx y ((List.mem_insertionSort _).1 hy)

/-- The counted value of a position (R153). -/
def countAt (a b c : Option Nat) : Position → Option Nat
  | .a => a
  | .b => b
  | .c => c

section Counts
variable {a b c : Option Nat}

/-- One position lists at most one value. -/
theorem listed_pairwise (R : Nat × Position → Nat × Position → Prop) (o : Option Nat) (pos : Position) :
    (o.map fun v => (v, pos)).toList.Pairwise R := by
  cases o <;> simp

theorem position_of_listed {o : Option Nat} {pos : Position} {x : Nat × Position}
    (h : x ∈ (o.map fun v => (v, pos)).toList) : x.2 = pos := by
  obtain ⟨v, -, rfl⟩ := Option.map_eq_some_iff.1 (Option.mem_toList.1 h)
  rfl

theorem sortedCounts_countsBefore (a b c : Option Nat) : (sortedCounts a b c).Pairwise countsBefore := by
  refine insertionSort_countsBefore (List.pairwise_append.2 ⟨List.pairwise_append.2 ⟨listed_pairwise _ a .a,
    listed_pairwise _ b .b, fun x hx y hy => ?_⟩, listed_pairwise _ c .c, fun x hx y hy => ?_⟩)
  · exact .inl ⟨position_of_listed hx, .inl (position_of_listed hy)⟩
  · obtain hx | hx := List.mem_append.1 hx
    · exact .inl ⟨position_of_listed hx, .inr (position_of_listed hy)⟩
    · exact .inr ⟨position_of_listed hx, position_of_listed hy⟩

/-- What counts is listed with its position, and nothing else is (R153). -/
theorem mem_sortedCounts_iff {v : Nat} {pos : Position} : (v, pos) ∈ sortedCounts a b c ↔ countAt a b c pos = some v := by
  cases pos <;> simp [sortedCounts, countAt, List.mem_insertionSort]

theorem countAt_eq_some_iff {v : Nat} {pos : Position} :
    countAt a b c pos = some v ↔ (pos = .a ∧ a = some v) ∨ (pos = .b ∧ b = some v) ∨ (pos = .c ∧ c = some v) := by
  cases pos <;> simp [countAt]

theorem mem_positions_iff {pos : Position} : pos ∈ (sortedCounts a b c).map Prod.snd ↔ countAt a b c pos ≠ none := by
  simp only [List.mem_map, Prod.exists, mem_sortedCounts_iff, exists_eq_right, Option.ne_none_iff_exists']

end Counts

/-! ### The table of outcomes (R154) -/

section Outcome
variable (tol : Nat)

theorem voteOutcome_three (lo mid hi : Nat × Position) :
    voteOutcome tol [lo, mid, hi] =
      if mid.1 - lo.1 ≤ tol then
        if hi.1 - mid.1 ≤ tol then (.good mid.1, none) else (.good ((lo.1 + mid.1) / 2), some hi.2)
      else if hi.1 - mid.1 ≤ tol then (.good ((mid.1 + hi.1) / 2), some lo.2)
      else (.noMajority, none) := by
  simp only [voteOutcome, agree, decide_eq_true_eq]

theorem voteOutcome_two (lo hi : Nat × Position) :
    voteOutcome tol [lo, hi] =
      if hi.1 - lo.1 ≤ tol then (.good ((lo.1 + hi.1) / 2), none) else (.noMajority, none) := by
  simp only [voteOutcome, agree, decide_eq_true_eq]

theorem voteOutcome_alone {l : List (Nat × Position)} (h : l.length ≤ 1) : voteOutcome tol l = (.noMajority, none) := by
  unfold voteOutcome
  split
  · simp at h
  · simp at h
  · rfl

/-- A voted pressure is the middle value, or the mean of two neighbours: it lies between the least and the greatest. -/
theorem voteOutcome_between {l : List (Nat × Position)} (hl : l.Pairwise fun x y => x.1 ≤ y.1) {p : Nat}
    (h : (voteOutcome tol l).1 = .good p) : (∃ q ∈ l, q.1 ≤ p) ∧ ∃ q ∈ l, p ≤ q.1 := by
  match l with
  | [] | [_] => cases h
  | [lo, hi] =>
    have hle : lo.1 ≤ hi.1 := by simpa using hl
    rw [voteOutcome_two] at h
    split at h
    · cases h
      exact ⟨⟨lo, by simp, by omega⟩, hi, by simp, by omega⟩
    · cases h
  | [lo, mid, hi] =>
    obtain ⟨⟨hlm, -⟩, hmh⟩ : (lo.1 ≤ mid.1 ∧ lo.1 ≤ hi.1) ∧ mid.1 ≤ hi.1 := by simpa using hl
    rw [voteOutcome_three] at h
    split at h <;> split at h <;> cases h
    · exact ⟨⟨mid, by simp, le_rfl⟩, mid, by simp, le_rfl⟩
    · exact ⟨⟨lo, by simp, by omega⟩, mid, by simp, by omega⟩
    · exact ⟨⟨mid, by simp, by omega⟩, hi, by simp, by omega⟩
  | _ :: _ :: _ :: _ :: _ => cases h

end Outcome

/-- A disagree flag follows the vote where its position counts, and else stays (R155). -/
theorem flagAfter_sortedCounts (a b c : Option Nat) (o : VoteOutcome × Option Position) (pos : Position) (before : Bool) :
    flagAfter (sortedCounts a b c) o pos before =
      if countAt a b c pos = none then before else decide (o.1 = .noMajority ∨ o.2 = some pos) := by
  simp only [flagAfter, mem_positions_iff, ne_eq, ite_not]
  congr 1
  obtain ⟨p | _, out⟩ := o <;> simp

/-- Settles O40: the order by the insertion of the values one by one, the outcomes row by row of the table. -/
theorem voteFollowsTable : Obligations.VoteFollowsTable := by
  unfold Obligations.VoteFollowsTable
  intro tol a b c f l o g earlier
  have hbefore : l.Pairwise countsBefore := sortedCounts_countsBefore a b c
  have hle : l.Pairwise fun x y => x.1 ≤ y.1 := hbefore.imp le_of_countsBefore
  refine ⟨List.pairwise_map.2 hle, hbefore, fun v pos => mem_sortedCounts_iff.trans countAt_eq_some_iff,
    fun lo mid hi h => ?_, fun lo hi h => ?_, voteOutcome_alone tol, fun p => voteOutcome_between tol hle,
    flagAfter_sortedCounts a b c o .a f.a, flagAfter_sortedCounts a b c o .b f.b, flagAfter_sortedCounts a b c o .c f.c⟩
  · have ho : o = _ := (congrArg (voteOutcome tol) h).trans (voteOutcome_three tol lo mid hi)
    refine ⟨fun h1 h2 => ?_, fun h1 h2 => ?_, fun h1 h2 => ?_, fun h1 h2 => ?_⟩
    · rw [ho, if_pos h1, if_pos h2]
    · rw [ho, if_pos h1, if_neg (Nat.not_le.2 h2)]
    · rw [ho, if_neg (Nat.not_le.2 h1), if_pos h2]
    · rw [ho, if_neg (Nat.not_le.2 h1), if_neg (Nat.not_le.2 h2)]
  · have ho : o = _ := (congrArg (voteOutcome tol) h).trans (voteOutcome_two tol lo hi)
    exact ⟨fun h1 => ho.trans (if_pos h1), fun h1 => ho.trans (if_neg (Nat.not_le.2 h1))⟩

end Sys2Proof.Machine
end

section
/-! SUPPORT. The scanner's commands (R141, R143 to R145, R149, R150, R157): the ranges of SET_CHANNEL, the pass that a settings
write aborts, the causes of a recompute, and the scan list. -/

namespace Sys2Proof.Machine

/-! ### Ranges and codes (R141, R143) -/

theorem windowModeOf_of_le {n : Nat} (h : n ≤ 1) :
    windowModeOf n = some (if n = 0 then .alarmOutside else .alarmInside) := by
  interval_cases n <;> rfl

theorem le_one_of_windowModeOf {n : Nat} (h : (windowModeOf n).isSome = true) : n ≤ 1 := by
  unfold windowModeOf at h
  split at h <;> simp at h ⊢

theorem isCode_windowModeOf_iff (o : Option Nat) : isCode windowModeOf o = true ↔ ∀ v ∈ o, v ≤ 1 := by
  rw [isCode, Option.all_eq_true]
  exact ⟨fun h v hv => le_one_of_windowModeOf (h v hv), fun h v hv => by rw [windowModeOf_of_le (h v hv), Option.isSome_some]⟩

/-- A window mode in range takes the value its code stands for (R203). -/
theorem codeOr_windowModeOf {o : Option Nat} (h : ∀ v ∈ o, v ≤ 1) (kept : WindowMode) :
    codeOr windowModeOf o kept = (o.map fun v => if v = 0 then WindowMode.alarmOutside else .alarmInside).getD kept := by
  cases o with
  | none => rfl
  | some v => rw [codeOr, Option.bind_some, windowModeOf_of_le (h v rfl), Option.map_some]

theorem cavernOf_eq (n : Nat) : cavernOf n = if 1 ≤ n ∧ n ≤ 4 then some (Fin.ofNat 4 (n - 1)) else none := by
  by_cases h : 1 ≤ n ∧ n ≤ 4
  · simp only [cavernOf, dif_pos h, if_pos h, Fin.ofNat, Nat.mod_eq_of_lt (show n - 1 < 4 by omega)]
  · rw [cavernOf, dif_neg h, if_neg h]

theorem positionOf_eq (n : Nat) :
    positionOf n = if n ≤ 2 then some (if n = 0 then .a else if n = 1 then .b else .c) else none := by
  by_cases h : n ≤ 2
  · rw [if_pos h]
    interval_cases n <;> rfl
  · rw [if_neg h]
    match n with
    | _ + 3 => rfl

/-- A role by its alternative and the ranges of its two parameters (R141, R143). -/
theorem roleOf_eq (q : RoleCode) :
    roleOf q =
      if q.alternative = 0 ∧ 1 ≤ q.first ∧ q.first ≤ 4 ∧ q.second ≤ 2 then
        some (.cavernPressure (Fin.ofNat 4 (q.first - 1)) (if q.second = 0 then .a else if q.second = 1 then .b else .c))
      else if q.alternative = 1 ∧ 1 ≤ q.first ∧ q.first ≤ 2 ∧ 1 ≤ q.second ∧ q.second ≤ 4 then
        some (.storeTemp (Fin.ofNat 2 (q.first - 1)) (Fin.ofNat 4 (q.second - 1)))
      else if q.alternative = 2 then some .headerPressure else if q.alternative = 3 then some .spare else none := by
  obtain ⟨alternative, first, second⟩ := q
  match alternative with
  | 0 =>
    by_cases hc : 1 ≤ first ∧ first ≤ 4
    · by_cases hp : second ≤ 2
      · simp [roleOf, cavernOf_eq, positionOf_eq, hc, hp]
      · simp [roleOf, positionOf_eq, hp]
    · have hout : ¬(1 ≤ first ∧ first ≤ 4 ∧ second ≤ 2) := fun ⟨h1, h4, _⟩ => hc ⟨h1, h4⟩
      simp [roleOf, cavernOf_eq, if_neg hc, if_neg hout]
  | 1 =>
    simp only [roleOf]
    split
    next h =>
      rw [if_neg (by simp), if_pos (by simpa [and_assoc] using h)]
      simp only [Fin.ofNat, Nat.mod_eq_of_lt (show first - 1 < 2 by omega), Nat.mod_eq_of_lt (show second - 1 < 4 by omega)]
    next h =>
      rw [if_neg (by simp), if_neg (by simpa [and_assoc] using h)]
      rfl
  | 2 => rfl
  | 3 => rfl
  | n + 4 => simp [roleOf]

/-- The given values of a SET_CHANNEL lie in their ranges (R141, R143). -/
def channelValuesOk (p : ChannelParams) : Prop :=
  (∀ q ∈ p.role, roleOf q ≠ none) ∧ (∀ v ∈ p.gain, -32768 ≤ v ∧ v ≤ 32767) ∧
    (∀ v ∈ p.offset, -2147483648 ≤ v ∧ v ≤ 2147483647) ∧ (∀ v ∈ p.averaging, v = 1 ∨ v = 2 ∨ v = 4 ∨ v = 8) ∧
    (∀ v ∈ p.windowLow, -2147483648 ≤ v ∧ v ≤ 2147483647) ∧ (∀ v ∈ p.windowHigh, -2147483648 ≤ v ∧ v ≤ 2147483647) ∧
    ∀ v ∈ p.windowMode, v ≤ 1

theorem channelInRange_iff (p : ChannelParams) : channelInRange p = true ↔ channelValuesOk p := by
  simp only [channelInRange, within32, Bool.and_eq_true, withinInt_iff, isCode_windowModeOf_iff, Option.all_eq_true,
    Option.mem_def, Option.isSome_iff_ne_none, decide_eq_true_eq, List.mem_cons, List.not_mem_nil, or_false, and_assoc,
    channelValuesOk]

/-- Another channel holds the cavern position or the store sensor (R141). -/
def roleHeld (ch : Fin 24) (r : Role) (channels : Vector ChannelCfg 24) : Prop :=
  ∃ j : Fin 24, j ≠ ch ∧ channels[j].role = r ∧ r ≠ .headerPressure ∧ r ≠ .spare

theorem exclusive_iff (r : Role) : r.exclusive = true ↔ r ≠ .headerPressure ∧ r ≠ .spare := by
  cases r <;> simp [Role.exclusive]

theorem roleTaken_iff (ch : Fin 24) (r : Role) (channels : Vector ChannelCfg 24) :
    roleTaken ch r channels = true ↔ roleHeld ch r channels := by
  simp only [roleTaken, Bool.and_eq_true, exclusive_iff, List.any_eq_true, List.mem_finRange, decide_eq_true_eq, true_and,
    roleHeld]
  exact ⟨fun ⟨hr, j, hj, hrole⟩ => ⟨j, hj, hrole, hr⟩, fun ⟨j, hj, hrole, hr⟩ => ⟨hr, j, hj, hrole⟩⟩

/-! ### The window notice and the causes of a recompute (R123, R149) -/

theorem windowOfResult_alarm_iff (r : Option ChanResult) :
    windowOfResult r = .alarm ↔ ∃ x, r = some x ∧ x.window = .alarm := by
  cases r <;> simp [windowOfResult]

/-- WINDOW is raised as a SPARE channel's window state enters or leaves ALARM (R149). -/
theorem windowEvent_iff (cfg : ChannelCfg) (before after : Option ChanResult) :
    windowEvent cfg before after = true ↔
      cfg.role = .spare ∧ ¬((∃ x, before = some x ∧ x.window = .alarm) ↔ ∃ x, after = some x ∧ x.window = .alarm) := by
  simp only [windowEvent, Bool.and_eq_true, decide_eq_true_eq, bne_iff_ne, ne_eq, decide_eq_decide, windowOfResult_alarm_iff]

theorem reformHold_raiseIf (b : Bool) (n : Notice) (s : State) : reformHold (raiseIf b n s) = raiseIf b n (reformHold s) := by
  cases b <;> rfl

/-- What the dispatch unit recomputes on: an inhibit, the store's being UNKNOWN, the expander hold (R123). -/
theorem banInputs_ne_iff (s t : State) :
    banInputs t ≠ banInputs s ↔
      (∃ i : Fin 4, t.caverns[i].inhibit ≠ s.caverns[i].inhibit) ∨ t.store.inhibit ≠ s.store.inhibit ∨
        ¬(t.store.status = .unknown ↔ s.store.status = .unknown) ∨ t.disp.expanderHold ≠ s.disp.expanderHold := by
  simp only [banInputs, ne_eq, Prod.mk.injEq, List.map_inj_left, List.mem_finRange, forall_const, decide_eq_decide,
    not_and_or, not_forall]

/-- With the caverns and the store as they were, the expander hold alone can cause a recompute (R123). -/
theorem recomputeIfBanned_ofHold {s t : State} (hc : t.caverns = s.caverns) (hst : t.store = s.store) :
    recomputeIfBanned s t = recomputeIf (decide (t.disp.expanderHold ≠ s.disp.expanderHold)) t := by
  simp only [recomputeIfBanned, banInputs_ne_iff, hc, hst, ne_eq, not_true_eq_false, exists_false, false_or]

/-! ### SET_CHANNEL (R143, R144) -/

/-- The scanner at the head of its list with no channel marked (R150). -/
def Scanner.restarted (now : Nat) (x : Scanner) : Scanner :=
  { x with marks := Vector.replicate 24 false, pos := 0, began := now }

theorem restartPass_eq (s : State) : restartPass s = { s with scan := s.scan.restarted s.now } := rfl

/-- A channel's settings and result written, with the pass aborted and the expander hold formed again (R144, R150). -/
def channelWritten (ch : Fin 24) (new : ChannelCfg) (after : Option ChanResult) (s : State) : State :=
  let channels := s.cfg.channels.set ch new
  let results := s.scan.results.set ch after
  { s with
    cfg := { s.cfg with channels := channels }, scan := { s.scan.restarted s.now with results := results }
    disp := { s.disp with expanderHold := expanderHoldOf channels results } }

theorem applyChannel_eq (ch : Fin 24) (new : ChannelCfg) (s : State) :
    applyChannel ch new s =
      let after := s.scan.results[ch].map (ChanResult.rejudge new)
      let written := channelWritten ch new after s
      recomputeIf (decide (written.disp.expanderHold ≠ s.disp.expanderHold))
        (raiseIf (windowEvent new s.scan.results[ch] after) .window written) := by
  simp only [applyChannel, reformHold_raiseIf]
  rw [recomputeIfBanned_ofHold (by rw [raiseIf_caverns]; rfl) (by rw [raiseIf_store]; rfl), raiseIf_disp]
  rfl

/-- A SET_CHANNEL that would leave the settings `new` is taken (R143). -/
def channelSettingsGood (p : ChannelParams) (ch : Fin 24) (new : ChannelCfg) (channels : Vector ChannelCfg 24) : Prop :=
  channelValuesOk p ∧ new.windowLow ≤ new.windowHigh ∧ ¬roleHeld ch new.role channels

/-- The settings once a SET_CHANNEL in range is taken (R143). -/
theorem channelUpdated_eq {p : ChannelParams} (h : ∀ v ∈ p.windowMode, v ≤ 1) (c : ChannelCfg) :
    c.updated p =
      { role := (p.role.bind roleOf).getD c.role, gain := p.gain.getD c.gain, offset := p.offset.getD c.offset
        averaging := p.averaging.getD c.averaging, windowLow := p.windowLow.getD c.windowLow
        windowHigh := p.windowHigh.getD c.windowHigh
        windowMode := (p.windowMode.map fun v =>
          if v = 0 then WindowMode.alarmOutside else .alarmInside).getD c.windowMode } := by
  rw [ChannelCfg.updated, codeOr_windowModeOf h]

section SetChannel
variable {s : State} {p : ChannelParams} {ch : Fin 24}

theorem exec_setChannel_idle (h : s.port.state = .idle) (hsave : s.nv.saving = none) (p : ChannelParams) :
    exec (.setChannel p) s = .next (setChannelAct p s.taken) :=
  congrArg Host.Outcome.next ((station_idle h _).trans (settingsWrite_idle (s := s.taken) hsave _))

theorem setChannelAct_badNumber (h : 24 ≤ p.channel) : setChannelAct p s = reply .badValue s := by
  rw [setChannelAct, channelOf_eq_none h]

theorem channelSettings_guard_iff {new : ChannelCfg} {channels : Vector ChannelCfg 24} :
    (channelInRange p && decide (new.windowLow ≤ new.windowHigh) && !roleTaken ch new.role channels) = true
      ↔ channelSettingsGood p ch new channels := by
  simp only [Bool.and_eq_true, Bool.not_eq_true', ← Bool.not_eq_true, channelInRange_iff, roleTaken_iff, decide_eq_true_eq,
    and_assoc, channelSettingsGood]

variable (hch : p.channel = ch.val)
include hch

theorem setChannelAct_refused (h : ¬channelSettingsGood p ch (s.cfg.channels[ch].updated p) s.cfg.channels) :
    setChannelAct p s = reply .badValue s := by
  simp only [setChannelAct, hch, channelOf_val, if_neg (mt channelSettings_guard_iff.1 h)]

theorem setChannelAct_taken {new : ChannelCfg} (hnew : s.cfg.channels[ch].updated p = new)
    (h : channelSettingsGood p ch new s.cfg.channels) : setChannelAct p s = reply .done (applyChannel ch new s) := by
  simp only [setChannelAct, hch, channelOf_val, hnew, if_pos (channelSettings_guard_iff.2 h)]

end SetChannel

/-! ### SET_SCAN_LIST and SNAPSHOT (R145, R157) -/

theorem mapM_channelOf_val (l : List (Fin 24)) : (l.map Fin.val).mapM channelOf = some l := by
  induction l with
  | nil => rfl
  | cons ch l ih =>
    simp only [List.map_cons, List.mapM_cons, channelOf_val, ih, Option.pure_def, Option.bind_eq_bind, Option.bind_some]

theorem mapM_channelOf_eq_none {l : List Nat} {n : Nat} (hn : n ∈ l) (h : 24 ≤ n) : l.mapM channelOf = none := by
  induction l with
  | nil => cases hn
  | cons m l ih =>
    rw [List.mapM_cons]
    obtain rfl | hn := List.mem_cons.1 hn
    · rw [channelOf_eq_none h]
      rfl
    · simp only [ih hn, Option.bind_eq_bind, Option.bind_none, Option.bind_fun_none]

section ScanList
variable {s : State}

theorem exec_setScanList_idle (h : s.port.state = .idle) (hsave : s.nv.saving = none) (l : List Nat) :
    exec (.setScanList l) s = .next (setScanListAct l s.taken) :=
  congrArg Host.Outcome.next ((station_idle h _).trans (settingsWrite_idle (s := s.taken) hsave _))

theorem exec_snapshot_idle (h : s.port.state = .idle) : exec .snapshot s = .next (snapshotAct s.taken) :=
  congrArg Host.Outcome.next (station_idle h _)

theorem setScanListAct_refused {l : List Nat} (h : 32 < l.length ∨ ∃ n ∈ l, 24 ≤ n) :
    setScanListAct l s = reply .badValue s := by
  unfold setScanListAct
  split
  · rfl
  next hl =>
    refine if_pos (h.resolve_right fun ⟨n, hn, h24⟩ => ?_)
    rw [mapM_channelOf_eq_none hn h24] at hl
    cases hl

theorem setScanListAct_taken {l : List (Fin 24)} (h : l.length ≤ 32) :
    setScanListAct (l.map Fin.val) s = reply .done (applyScanList l s) := by
  simp only [setScanListAct, mapM_channelOf_val, List.length_map, if_neg (Nat.not_lt.2 h)]

/-- A scan list taken aborts the pass, and an empty one clears a pending snapshot (R145, R150, R157). -/
theorem applyScanList_eq (l : List (Fin 24)) (s : State) :
    applyScanList l s = { s with
      cfg := { s.cfg with scanList := l }
      scan := { s.scan.restarted s.now with snapPending := !l.isEmpty && s.scan.snapPending } } := by
  cases l <;> rfl

theorem snapshotAct_refused (h : s.cfg.scanList = []) : snapshotAct s = reply .wrongState s :=
  if_pos (List.isEmpty_iff.2 h)

theorem snapshotAct_taken (h : s.cfg.scanList ≠ []) :
    snapshotAct s = reply .queued { s with scan := { s.scan with snapPending := true } } :=
  if_neg (mt List.isEmpty_iff.1 h)

end ScanList

/-- Settles O41, command by command. -/
theorem scannerCommands : Obligations.ScannerCommands := by
  unfold Obligations.ScannerCommands
  intro s h restarted
  refine ⟨fun hsave => ⟨fun p hp => ?_, ?_, fun l hl => ?_, fun l hl => ?_⟩, fun hempty => ?_, fun hlist => ?_⟩
  · rw [exec_setChannel_idle h hsave, setChannelAct_badNumber hp, reply_taken]
  · intro p ch hch old role in32 inRange new held good before after alarm channels results written
    rw [exec_setChannel_idle h hsave]
    have hrole : role = roleOf := (funext roleOf_eq).symm
    clear_value role
    subst hrole
    refine ⟨fun hbad => ?_, fun hgood => ⟨windowEvent new before after, windowEvent_iff new before after, ?_⟩⟩
    · rw [setChannelAct_refused (s := s.taken) hch hbad, reply_taken]
    · obtain ⟨⟨-, -, -, -, -, -, hmode⟩, -, -⟩ := id hgood
      have hnew : s.taken.cfg.channels[ch].updated p = new := channelUpdated_eq hmode old
      rw [setChannelAct_taken hch hnew hgood, applyChannel_eq]
      rfl
  · rw [exec_setScanList_idle h hsave, setScanListAct_refused hl, reply_taken]
  · rw [exec_setScanList_idle h hsave, setScanListAct_taken hl, applyScanList_eq]
    rfl
  · rw [exec_snapshot_idle h, snapshotAct_refused (s := s.taken) hempty, reply_taken]
  · rw [exec_snapshot_idle h, snapshotAct_taken (s := s.taken) hlist]
    rfl

end Sys2Proof.Machine
end

section
/-! SUPPORT. A scan entry completed (R146, R147, R149) and the pass it may complete (R151 to R153, R155, R157): what each cavern
and the store are handed, and the scanner's own fields. -/

namespace Sys2Proof.Machine

/-! ### The scanner's fields beside the operations of the caverns and the store -/

/-- The state with other fields of the scanner. -/
def State.withScan (x : Scanner) (s : State) : State := { s with scan := x }

section WithScan
variable (x : Scanner) (s : State)

theorem raiseIf_withScan (b : Bool) (n : Notice) : raiseIf b n (s.withScan x) = (raiseIf b n s).withScan x := by
  cases b <;> rfl

theorem setVerifyIf_withScan (b : Bool) : setVerifyIf b (s.withScan x) = (setVerifyIf b s).withScan x := by
  cases b <;> rfl

theorem setCavernWork_withScan (i : Fin 4) (w : CavernWork) :
    setCavernWork i w (s.withScan x) = (setCavernWork i w s).withScan x := rfl

theorem setStoreWork_withScan (w : StoreWork) : setStoreWork w (s.withScan x) = (setStoreWork w s).withScan x := rfl

theorem withScan_caverns : (s.withScan x).caverns = s.caverns := rfl

theorem withScan_store : (s.withScan x).store = s.store := rfl

theorem withScan_cfg : (s.withScan x).cfg = s.cfg := rfl

/-- A vote outcome neither reads nor writes the scanner (R70). -/
theorem takeVote_withScan (i : Fin 4) (o : VoteOutcome) (flags : Disagree) :
    takeVote i o flags (s.withScan x) = (takeVote i o flags s).withScan x := by
  cases o with
  | good p =>
    simp only [takeVote_good, voteRaises, withScan_caverns, withScan_cfg, setCavernWork_withScan, raiseIf_withScan,
      setVerifyIf_withScan]
    rfl
  | noMajority =>
    simp only [takeVote_noMajority, withScan_caverns, setCavernWork_withScan, raiseIf_withScan]
    rfl

/-- A temperature outcome neither reads nor writes the scanner (R88). -/
theorem takeTemperatures_withScan (results : List ChanResult) :
    takeTemperatures results (s.withScan x) = (takeTemperatures results s).withScan x := by
  by_cases h : countedTemps results = []
  · simp only [takeTemperatures_none h, withScan_store, setStoreWork_withScan, raiseIf_withScan]
    rfl
  · simp only [takeTemperatures_some rfl h, withScan_store, withScan_cfg, setStoreWork_withScan, raiseIf_withScan,
      setVerifyIf_withScan]
    rfl

end WithScan

/-! ### What the outcomes write and leave -/

/-- A cavern's fields after a vote outcome with its disagree flags (R70 to R72). -/
def CavernWork.voted (c : CavernCfg) (o : VoteOutcome) (flags : Disagree) (w : CavernWork) : CavernWork :=
  match o with
  | .good p => { w.votedGood c p with disagree := flags }
  | .noMajority => { w.votedNone with disagree := flags }

/-- What differs in the caverns, the engine and the notices at most agrees in every other field. -/
theorem SameBesideCaverns.keeps {β : Type} {s t : State} (h : SameBesideCaverns s t) (g : State → β)
    (hg : g { t with caverns := s.caverns, engine := s.engine, notices := s.notices } = g t) : g t = g s :=
  hg.symm.trans (congrArg g h)

/-- What differs in the store, the engine and the notices at most agrees in every other field. -/
theorem SameBesideStore.keeps {β : Type} {s t : State} (h : SameBesideStore s t) (g : State → β)
    (hg : g { t with store := s.store, engine := s.engine, notices := s.notices } = g t) : g t = g s :=
  hg.symm.trans (congrArg g h)

section Outcomes
variable (s : State)

theorem takeVote_caverns (i : Fin 4) (o : VoteOutcome) (flags : Disagree) :
    (takeVote i o flags s).caverns = s.caverns.set i (s.caverns[i].voted s.cfg.caverns[i] o flags) := by
  cases o with
  | good p =>
    rw [takeVote_good, setVerifyIf_caverns, voteRaises, raiseIf_caverns, raiseIf_caverns, raiseIf_caverns]
    rfl
  | noMajority =>
    rw [takeVote_noMajority, raiseIf_caverns, raiseIf_caverns]
    rfl

theorem takeVote_frame (i : Fin 4) (o : VoteOutcome) (flags : Disagree) :
    SameBesideCaverns s (takeVote i o flags s) := by
  cases o with
  | good p => exact takeVote_good_frame i p flags s
  | noMajority =>
    rw [takeVote_noMajority]
    exact (((sameBesideCaverns_refl s).setCavernWork i _).raiseIf _ _).raiseIf _ _

theorem takeTemperatures_frame (results : List ChanResult) : SameBesideStore s (takeTemperatures results s) := by
  by_cases h : countedTemps results = []
  · rw [takeTemperatures_none h]
    exact sameBesideStore_written _ false _ _ s
  · rw [takeTemperatures_some rfl h]
    exact sameBesideStore_written _ _ _ _ s

/-- The store after a temperature outcome, from its fields and its settings alone (R88). -/
theorem takeTemperatures_store_congr {s t : State} (hstore : t.store = s.store) (hcfg : t.cfg = s.cfg)
    (results : List ChanResult) : (takeTemperatures results t).store = (takeTemperatures results s).store := by
  by_cases h : countedTemps results = []
  · simp only [takeTemperatures_none h, raiseIf_store, setStoreWork_store, hstore]
  · simp only [takeTemperatures_some rfl h, setVerifyIf_store, raiseIf_store, setStoreWork_store, hstore, hcfg]

/-- A temperature outcome is heard (R91 step 1). -/
theorem takeTemperatures_heard (results : List ChanResult) : (takeTemperatures results s).store.heard = true := by
  by_cases h : countedTemps results = []
  · rw [takeTemperatures_none h, raiseIf_store]
    rfl
  · rw [takeTemperatures_some rfl h, setVerifyIf_store, raiseIf_store]
    rfl

end Outcomes

/-! ### What a pass hands to a cavern (R152 to R155) -/

section Handed
variable (c : Settings) (x : Scanner) (i : Fin 4)

/-- The channel of a cavern's position, where the pass has marked it (R152). -/
def markedChannel (pos : Position) : Option (Fin 24) :=
  (channelWithRole c.channels (.cavernPressure i pos)).filter fun ch => x.marks[ch]

/-- The counted value of a marked position (R153). -/
def markedCount (pos : Position) : Option Nat := (markedChannel c x i pos).bind fun ch => countedValue x.results[ch]

/-- Some position of the cavern is marked (R152). -/
def anyMarked : Bool :=
  (markedChannel c x i .a).isSome || (markedChannel c x i .b).isSome || (markedChannel c x i .c).isSome

/-- Every position of the cavern is marked (R152). -/
def allMarked : Bool :=
  (markedChannel c x i .a).isSome && (markedChannel c x i .b).isSome && (markedChannel c x i .c).isSome

/-- The values of the cavern's vote (R153). -/
def passCounts : List (Nat × Position) := sortedCounts (markedCount c x i .a) (markedCount c x i .b) (markedCount c x i .c)

/-- The vote on the cavern's three transducers (R154). -/
def passVote : VoteOutcome × Option Position := voteOutcome c.site.tol (passCounts c x i)

/-- The outcome handed to the cavern (R152, R154). -/
def handedOutcome : VoteOutcome := if allMarked c x i then (passVote c x i).1 else .noMajority

/-- The cavern's disagree flags after the pass (R155). -/
def handedFlags : Disagree :=
  if allMarked c x i then flagsAfter (passCounts c x i) (passVote c x i) x.flags[i] else x.flags[i]

/-- The record of the cavern's last vote after the pass (R155; log entry 21). -/
def lastVote : Option VoteRecord :=
  if allMarked c x i then some ⟨handedOutcome c x i, passCounts c x i, handedFlags c x i, x.passCount⟩ else x.votes[i]

theorem anyMarked_of_allMarked (h : allMarked c x i = true) : anyMarked c x i = true := by
  simp only [allMarked, Bool.and_eq_true] at h
  simp only [anyMarked, h, Bool.or_self]

theorem markedResult_eq (s : State) (pos : Position) :
    markedResult s i pos = (markedChannel s.cfg s.scan i pos).map fun ch => s.scan.results[ch] := by
  unfold markedResult markedChannel
  cases channelWithRole s.cfg.channels (.cavernPressure i pos) with
  | none => rfl
  | some ch =>
    rw [Option.bind_some, Option.filter_some]
    split <;> rfl

theorem markedChannel_isSome (s : State) (pos : Position) :
    (markedChannel s.cfg s.scan i pos).isSome = (markedResult s i pos).isSome := by
  rw [markedResult_eq, Option.isSome_map]

theorem markedCount_eq (s : State) (pos : Position) :
    markedCount s.cfg s.scan i pos = (markedResult s i pos).bind countedValue := by
  rw [markedResult_eq, Option.bind_map]
  rfl

/-- None, one or two, or all three of the positions are marked (R152). -/
theorem passOutcome_eq (s : State) :
    passOutcome s i =
      if anyMarked s.cfg s.scan i then
        some (handedOutcome s.cfg s.scan i, handedFlags s.cfg s.scan i,
          if allMarked s.cfg s.scan i then lastVote s.cfg s.scan i else none)
      else none := by
  simp only [passOutcome, lastVote, handedOutcome, handedFlags, passVote, passCounts, anyMarked, allMarked,
    markedChannel_isSome, markedCount_eq]
  generalize markedResult s i .a = a, markedResult s i .b = b, markedResult s i .c = c
  match a, b, c with
  | none, none, none => rfl
  | some _, none, none | none, some _, none | none, none, some _ => rfl
  | some _, some _, none | some _, none, some _ | none, some _, some _ => rfl
  | some _, some _, some _ => rfl

/-- The cavern is handed its outcome where some position is marked (R152). -/
def handTo (t : State) : State :=
  if anyMarked c x i then takeVote i (handedOutcome c x i) (handedFlags c x i) t else t

/-- The scanner's fields with the cavern's outcome written (R155). -/
def Scanner.voted (y : Scanner) : Scanner :=
  { y with
    votes := y.votes.set i (lastVote c x i), flags := y.flags.set i (handedFlags c x i)
    handed := y.handed.set i (x.handed[i] || anyMarked c x i) }

theorem set_getElem_same {α : Type} {n : Nat} (v : Vector α n) (k : Fin n) : v.set k v[k] = v := Vector.set_getElem_self _

/-- The scanner's fields stay where no position of the cavern is marked. -/
theorem voted_of_unmarked (h : ¬anyMarked c x i = true) : Scanner.voted c x i x = x := by
  have hall : ¬allMarked c x i = true := mt (anyMarked_of_allMarked c x i) h
  rw [Bool.not_eq_true] at h
  simp only [Scanner.voted, lastVote, handedFlags, if_neg hall, h, Bool.or_false, set_getElem_same]

/-- A pass completion writes the scanner's fields beside what it hands on (R155). -/
theorem handVote_eq (s : State) :
    handVote i s = (handTo s.cfg s.scan i s).withScan (Scanner.voted s.cfg s.scan i s.scan) := by
  by_cases hany : anyMarked s.cfg s.scan i = true
  · have hto : handTo s.cfg s.scan i s = takeVote i _ _ s := if_pos hany
    simp only [handVote, passOutcome_eq, hto, hany, if_true, Scanner.voted, Bool.or_true]
    rw [← takeVote_withScan]
    cases hall : allMarked s.cfg s.scan i with
    | true =>
      simp only [lastVote, hall, if_true]
      rfl
    | false =>
      simp only [lastVote, hall, Bool.false_eq_true, if_false, set_getElem_same]
      rfl
  · rw [voted_of_unmarked s.cfg s.scan i hany]
    simp only [handVote, passOutcome_eq, handTo, if_neg hany]
    rfl

end Handed

/-! ### What a pass hands on -/

/-- The listed entries of a vector written. -/
def setEach {α : Type} {n : Nat} (f : Fin n → α) (l : List (Fin n)) (v : Vector α n) : Vector α n :=
  l.foldl (fun (v : Vector α n) (i : Fin n) => v.set i (f i)) v

theorem getElem_setEach {α : Type} {n : Nat} (f : Fin n → α) (l : List (Fin n)) (v : Vector α n) (k : Fin n) :
    (setEach f l v)[k] = if k ∈ l then f k else v[k] := by
  induction l generalizing v with
  | nil => rfl
  | cons i l ih =>
    rw [setEach, List.foldl_cons, ← setEach, ih]
    by_cases hk : k = i
    · subst hk
      rw [getElem_set_same, ite_self, if_pos List.mem_cons_self]
    · rw [getElem_set_other _ _ hk]
      simp only [List.mem_cons, hk, false_or]

theorem setEach_finRange {α : Type} {n : Nat} (f : Fin n → α) (v : Vector α n) :
    setEach f (List.finRange n) v = Vector.ofFn f := by
  ext k hk
  exact (getElem_setEach f _ v ⟨k, hk⟩).trans ((if_pos (List.mem_finRange _)).trans (Vector.getElem_ofFn hk).symm)

/-- The scanner's fields with the caverns' records, flags and marks given. -/
def Scanner.withVotes (v : Vector (Option VoteRecord) 4) (f : Vector Disagree 4) (d : Vector Bool 4) (x : Scanner) : Scanner :=
  { x with votes := v, flags := f, handed := d }

section Pass
variable (c : Settings) (x : Scanner)

theorem handTo_frame (i : Fin 4) (s : State) : SameBesideCaverns s (handTo c x i s) := by
  unfold handTo
  split
  · exact takeVote_frame s i _ _
  · rfl

theorem handTo_withScan (i : Fin 4) (y : Scanner) (s : State) :
    handTo c x i (s.withScan y) = (handTo c x i s).withScan y := by
  unfold handTo
  split
  · exact takeVote_withScan y s i _ _
  · rfl

/-- A mark of the cavern handed an outcome (R156). -/
def handedMark (i : Fin 4) : Bool := x.handed[i] || anyMarked c x i

section Amid
variable {i : Fin 4} {v : Vector (Option VoteRecord) 4} {f : Vector Disagree 4} {d : Vector Bool 4}

theorem handedFlags_withVotes (hf : f[i] = x.flags[i]) : handedFlags c (x.withVotes v f d) i = handedFlags c x i := by
  simp only [handedFlags, Scanner.withVotes, hf]
  rfl

theorem lastVote_withVotes (hv : v[i] = x.votes[i]) (hf : f[i] = x.flags[i]) :
    lastVote c (x.withVotes v f d) i = lastVote c x i := by
  simp only [lastVote, handedFlags_withVotes c x hf]
  simp only [Scanner.withVotes, hv]
  rfl

/-- A cavern's turn in a pass reads of the records, flags and marks its own alone. -/
theorem handVote_withVotes {s : State} (hcfg : s.cfg = c) (hv : v[i] = x.votes[i]) (hf : f[i] = x.flags[i])
    (hd : d[i] = x.handed[i]) :
    handVote i (s.withScan (x.withVotes v f d)) = (handTo c x i s).withScan
      (x.withVotes (v.set i (lastVote c x i)) (f.set i (handedFlags c x i)) (d.set i (handedMark c x i))) := by
  subst hcfg
  have hto : handTo s.cfg (x.withVotes v f d) i s = handTo s.cfg x i s := by
    simp only [handTo, handedFlags_withVotes s.cfg x hf]
    rfl
  have hvoted : Scanner.voted s.cfg (x.withVotes v f d) i (x.withVotes v f d) =
      x.withVotes (v.set i (lastVote s.cfg x i)) (f.set i (handedFlags s.cfg x i)) (d.set i (handedMark s.cfg x i)) := by
    simp only [Scanner.voted, handedFlags_withVotes s.cfg x hf, lastVote_withVotes s.cfg x hv hf]
    simp only [Scanner.withVotes, handedMark, hd]
    rfl
  rw [← hvoted, ← hto, handVote_eq, handTo_withScan]
  rfl

end Amid

/-- The caverns' turns in a pass, each with its own record, flags and mark (R151). -/
theorem foldl_handVote {l : List (Fin 4)} (hl : l.Nodup) {s : State} (hcfg : s.cfg = c) {v : Vector (Option VoteRecord) 4}
    {f : Vector Disagree 4} {d : Vector Bool 4} (hv : ∀ i ∈ l, v[i] = x.votes[i]) (hf : ∀ i ∈ l, f[i] = x.flags[i])
    (hd : ∀ i ∈ l, d[i] = x.handed[i]) :
    l.foldl (fun s i => handVote i s) (s.withScan (x.withVotes v f d)) =
      (l.foldl (fun s i => handTo c x i s) s).withScan
        (x.withVotes (setEach (lastVote c x) l v) (setEach (handedFlags c x) l f) (setEach (handedMark c x) l d)) := by
  induction l generalizing s v f d with
  | nil => rfl
  | cons i l ih =>
    obtain ⟨hil, hl⟩ := List.nodup_cons.1 hl
    have hkept : ∀ {α : Type} {u w : Vector α 4} (y : α), (∀ j ∈ i :: l, u[j] = w[j]) → ∀ j ∈ l, (u.set i y)[j] = w[j] :=
      fun y h j hj =>
        (getElem_set_other _ _ (ne_of_mem_of_not_mem hj hil)).trans (h j (List.mem_cons_of_mem _ hj))
    have hi : i ∈ i :: l := List.mem_cons_self
    rw [List.foldl_cons, handVote_withVotes c x hcfg (hv i hi) (hf i hi) (hd i hi)]
    exact ih hl (((handTo_frame c x i s).keeps State.cfg rfl).trans hcfg) (hkept _ hv) (hkept _ hf) (hkept _ hd)

/-- The scanner's fields once the caverns have been handed what the pass gives (R155). -/
def Scanner.handedOn : Scanner :=
  x.withVotes (Vector.ofFn (lastVote c x)) (Vector.ofFn (handedFlags c x)) (Vector.ofFn (handedMark c x))

theorem handVotes_eq {s : State} (hcfg : s.cfg = c) :
    (List.finRange 4).foldl (fun s i => handVote i s) (s.withScan x) =
      ((List.finRange 4).foldl (fun s i => handTo c x i s) s).withScan (Scanner.handedOn c x) := by
  have h := foldl_handVote c x (List.nodup_finRange 4) hcfg (v := x.votes) (f := x.flags) (d := x.handed)
    (fun _ _ => rfl) (fun _ _ => rfl) fun _ _ => rfl
  rw [setEach_finRange, setEach_finRange, setEach_finRange] at h
  exact h

theorem numbered_eq (k : Clock) : k.numbered = if k.mode = .unset ∨ k.mode = .armed then none else some k.interval := by
  by_cases h : k.Stopped
  · rw [numbered_of_stopped h, if_pos h]
  · rw [numbered_of_not_stopped h, if_neg h]

/-- The copy that a pass serves a snapshot with (R157). -/
def Scanner.snapshotAt (interval : Option Nat) : SnapCopy := ⟨x.results, x.marks, x.votes, x.passCount, interval⟩

/-- The scanner's fields as the next pass begins, a pending snapshot served (R151, R157). -/
def Scanner.served (interval : Option Nat) (now : Nat) : Scanner :=
  { x with
    marks := Vector.replicate 24 false, pos := 0, began := now, snapPending := false
    copy := if x.snapPending then some (x.snapshotAt interval) else x.copy }

theorem restartPass_serveSnapshot (s : State) :
    restartPass (serveSnapshot s) = s.withScan (s.scan.served s.clock.numbered s.now) := by
  unfold serveSnapshot Scanner.served
  split
  next h => rfl
  next h =>
    simp only [Bool.not_eq_true] at h
    simp only [restartPass, State.withScan]
    rw [h]

/-- The caverns handed what the pass of `x` gives (R151). -/
def handCaverns (s : State) : State := (List.finRange 4).foldl (fun s i => handTo c x i s) s

theorem handCaverns_keeps {β : Type} (g : State → β) (hg : ∀ i s, g (handTo c x i s) = g s) (s : State) :
    g (handCaverns c x s) = g s :=
  foldl_keeps g (fun s i => handTo c x i s) (fun s i => hg i s) _ s

/-- A cavern once the pass has handed it its outcome, from its own fields and its settings (R151). -/
theorem handCaverns_work {s t : State} (hcaverns : t.caverns = s.caverns) (hcfg : t.cfg = s.cfg) (i : Fin 4) :
    (handCaverns c x t).caverns[i] =
      if anyMarked c x i then (takeVote i (handedOutcome c x i) (handedFlags c x i) s).caverns[i] else s.caverns[i] := by
  have hwrite : ∀ (i : Fin 4) (u : State), (handTo c x i u).caverns = u.caverns.set i
      (if anyMarked c x i then u.caverns[i].voted u.cfg.caverns[i] (handedOutcome c x i) (handedFlags c x i)
        else u.caverns[i]) := by
    intro i u
    unfold handTo
    split
    · exact takeVote_caverns u i _ _
    · exact (set_getElem_same _ i).symm
  have hturn : (handCaverns c x t).caverns[i] = (handTo c x i t).caverns[i] :=
    foldl_caverns_mem (view := State.cfg)
      (after := fun i k w => if anyMarked c x i then w.voted k.caverns[i] (handedOutcome c x i) (handedFlags c x i) else w)
      hwrite (fun i u => (handTo_frame c x i u).keeps State.cfg rfl) (List.nodup_finRange 4) (List.mem_finRange i) t
  rw [hturn, hwrite, getElem_set_same, takeVote_caverns, getElem_set_same, hcaverns, hcfg]

/-- The scanner's fields with the pass counted (R151). -/
def Scanner.counted : Scanner :=
  { x with passCount := if x.passCount < 4294967295 then x.passCount + 1 else 0 }

/-- What a pass hands to the caverns and the store (R151). -/
def handPass (s : State) : State := takeTemperatures (temperatureResults s) (handCaverns s.cfg s.scan.counted s)

/-- The state `t` with everything that a pass may change as it is in `s`. -/
def State.besidePass (s t : State) : State :=
  { t with caverns := s.caverns, store := s.store, engine := s.engine, notices := s.notices, scan := s.scan }

theorem handPass_beside (s : State) : s.besidePass (handPass s) = s :=
  ((takeTemperatures_frame _ _).keeps s.besidePass rfl).trans
    (handCaverns_keeps _ _ s.besidePass (fun i t => (handTo_frame _ _ i t).keeps s.besidePass rfl) s)

/-- What a pass hands on changes the caverns and the store alone, but for causes of R30 and notices (R151). -/
theorem handPass_keeps {β : Type} (g : State → β) (s : State) (hg : ∀ t, g (s.besidePass t) = g t) :
    g (handPass s) = g s :=
  (hg _).symm.trans (congrArg g (handPass_beside s))

/-- What a completed pass leaves (R151). -/
theorem completePass_eq (s : State) :
    completePass s =
      (handPass s).withScan ((Scanner.handedOn s.cfg s.scan.counted).served s.clock.numbered s.now) := by
  have hcount : { s with scan := { s.scan with passCount := wrapInc s.scan.passCount } } = s.withScan s.scan.counted := by
    rw [wrapInc_eq]
    rfl
  have hvotes : (List.finRange 4).foldl (fun s i => handVote i s) (s.withScan s.scan.counted) =
      (handCaverns s.cfg s.scan.counted s).withScan (Scanner.handedOn s.cfg s.scan.counted) :=
    handVotes_eq s.cfg s.scan.counted rfl
  have hcfg : (handCaverns s.cfg s.scan.counted s).cfg = s.cfg :=
    handCaverns_keeps _ _ State.cfg (fun i s => (handTo_frame _ _ i s).keeps State.cfg rfl) s
  have htemps : temperatureResults ((handCaverns s.cfg s.scan.counted s).withScan (Scanner.handedOn s.cfg s.scan.counted)) =
      temperatureResults s := by
    simp only [temperatureResults, withScan_cfg, hcfg]
    rfl
  have hclock : (handPass s).clock = s.clock := handPass_keeps State.clock s fun _ => rfl
  have hnow : (handPass s).now = s.now := handPass_keeps State.now s fun _ => rfl
  simp only [completePass, hcount, hvotes, htemps, takeTemperatures_withScan, restartPass_serveSnapshot]
  rw [← handPass, ← hclock, ← hnow]
  rfl

/-- A completed pass leaves what is no cavern's, the store's, the engine's, a notice's or the scanner's. -/
theorem completePass_keeps {β : Type} (g : State → β) (s : State) (hg : ∀ t, g (s.besidePass t) = g t) :
    g (completePass s) = g s := by
  rw [completePass_eq, ← hg]
  exact congrArg g (handPass_beside s)

section Of
variable {s t : State} (hcfg : t.cfg = s.cfg)
include hcfg

theorem completePass_cavern (hcaverns : t.caverns = s.caverns) (i : Fin 4) :
    (completePass t).caverns[i] =
      if anyMarked s.cfg t.scan.counted i then
        (takeVote i (handedOutcome s.cfg t.scan.counted i) (handedFlags s.cfg t.scan.counted i) s).caverns[i]
      else s.caverns[i] := by
  rw [completePass_eq, withScan_caverns, handPass, (takeTemperatures_frame _ _).keeps State.caverns rfl, hcfg]
  exact handCaverns_work s.cfg t.scan.counted hcaverns hcfg i

theorem completePass_store (hstore : t.store = s.store) :
    (completePass t).store = (takeTemperatures (temperatureResults t) s).store := by
  rw [completePass_eq, withScan_store, handPass]
  refine takeTemperatures_store_congr ?_ ?_ _
  · rw [handCaverns_keeps _ _ State.store fun i t => (handTo_frame _ _ i t).keeps State.store rfl, hstore]
  · rw [handCaverns_keeps _ _ State.cfg fun i t => (handTo_frame _ _ i t).keeps State.cfg rfl, hcfg]

end Of

end Pass

theorem recomputeIfBanned_of_ne {s t : State} (h : banInputs t ≠ banInputs s) : recomputeIfBanned s t = recompute t := by
  rw [recomputeIfBanned, decide_eq_true h, recomputeIf, if_pos rfl]

theorem recomputeIfBanned_of_eq {s t : State} (h : banInputs t = banInputs s) : recomputeIfBanned s t = t := by
  rw [recomputeIfBanned, decide_eq_false (not_not_intro h), recomputeIf, if_neg Bool.false_ne_true]

/-! ### The entry (R146, R147, R149) -/

theorem holdsBack_eq (r : Option ChanResult) :
    holdsBack r = r.any fun x => decide (x.window = .alarm ∨ x.value = none) := by
  cases r with
  | none => rfl
  | some x =>
    rw [Option.any_some, Bool.decide_or, holdsBack]
    cases x.value <;> rfl

theorem expanderHoldOf_eq (channels : Vector ChannelCfg 24) (results : Vector (Option ChanResult) 24) :
    expanderHoldOf channels results = (List.finRange 24).any fun j : Fin 24 =>
      decide (channels[j].role = .headerPressure) &&
        results[j].any fun x => decide (x.window = .alarm ∨ x.value = none) := by
  simp only [expanderHoldOf, holdsBack_eq]

theorem windowOfResult_alarm_eq (r : Option ChanResult) :
    decide (windowOfResult r = .alarm) = r.any fun x => decide (x.window = .alarm) := by
  cases r <;> rfl

/-- The scanner's fields with an entry's result and mark written (R147). -/
def Scanner.entered (ch : Fin 24) (new : ChanResult) (now : Nat) (x : Scanner) : Scanner :=
  { x with results := x.results.set ch (some new), marks := x.marks.set ch true, pos := x.pos + 1, began := now }

/-- An entry's result and mark written, with its notice and the expander hold (R147, R149, R132). -/
def entryFormed (ch : Fin 24) (codes : List Nat) (s : State) : State :=
  let new := formResult s.cfg.channels[ch] codes
  let x := s.scan.entered ch new s.now
  raiseIf (windowEvent s.cfg.channels[ch] s.scan.results[ch] (some new)) .window { s with
    scan := x, disp := { s.disp with expanderHold := expanderHoldOf s.cfg.channels x.results } }

section Entry
variable {s : State} {ch : Fin 24} {codes : List Nat}

theorem completeEntry_amid (h : s.scan.pos + 1 < s.cfg.scanList.length) :
    completeEntry ch codes s = entryFormed ch codes s := by
  simp only [completeEntry, reformHold_raiseIf, raiseIf_cfg]
  exact if_neg (Nat.not_le.2 h)

theorem completeEntry_last (h : s.cfg.scanList.length ≤ s.scan.pos + 1) :
    completeEntry ch codes s = completePass (entryFormed ch codes s) := by
  simp only [completeEntry, reformHold_raiseIf, raiseIf_cfg]
  exact if_pos h

theorem exec_entryComplete_idle (h : s.cfg.scanList[s.scan.pos]? = none) (codes : List Nat) :
    exec (.entryComplete codes) s = .next s := by
  change execEntryComplete codes s = _
  rw [execEntryComplete, State.converting, h]

theorem exec_entryComplete (h : s.cfg.scanList[s.scan.pos]? = some ch) (codes : List Nat) :
    exec (.entryComplete codes) s =
      .next (if conversionsDone s ch codes then recomputeIfBanned s (completeEntry ch codes s) else s) := by
  change execEntryComplete codes s = _
  rw [execEntryComplete, State.converting, h]

theorem entryFormed_now : (entryFormed ch codes s).now = s.now := raiseIf_now _ _ _

theorem entryFormed_cfg : (entryFormed ch codes s).cfg = s.cfg := raiseIf_cfg _ _ _

theorem entryFormed_caverns : (entryFormed ch codes s).caverns = s.caverns := raiseIf_caverns _ _ _

theorem entryFormed_store : (entryFormed ch codes s).store = s.store := raiseIf_store _ _ _

theorem entryFormed_clock : (entryFormed ch codes s).clock = s.clock := raiseIf_clock _ _ _

theorem entryFormed_book : (entryFormed ch codes s).book = s.book := raiseIf_book _ _ _

theorem entryFormed_trains : (entryFormed ch codes s).trains = s.trains := raiseIf_trains _ _ _

theorem entryFormed_link : (entryFormed ch codes s).link = s.link := raiseIf_link _ _ _

theorem entryFormed_scan :
    (entryFormed ch codes s).scan = s.scan.entered ch (formResult s.cfg.channels[ch] codes) s.now := raiseIf_scan _ _ _

theorem entryFormed_hold :
    (entryFormed ch codes s).disp.expanderHold =
      expanderHoldOf s.cfg.channels (s.scan.results.set ch (some (formResult s.cfg.channels[ch] codes))) :=
  congrArg DispatchUnit.expanderHold (raiseIf_disp _ _ _)

theorem conversionsDone_iff :
    conversionsDone s ch codes = true ↔
      codes.length = s.cfg.channels[ch].averaging ∧ s.scan.began + s.cfg.channels[ch].averaging ≤ s.now := by
  simp only [conversionsDone, Bool.and_eq_true, decide_eq_true_eq]

end Entry

/-- Settles O42: an entry amid the list, or the last one and with it the pass. -/
theorem entryCompletes : Obligations.EntryCompletes := by
  unfold Obligations.EntryCompletes
  intro s codes
  refine ⟨fun hnone => exec_entryComplete_idle hnone codes, fun ch hch => ?_⟩
  intro cfg done new results marks alarm noted hold formed passCount marked counted someMarked everyMarked sorted vote outcome
    flags votes temps copied handed passed banned
  rw [exec_entryComplete hch]
  have hhold : expanderHoldOf s.cfg.channels results = hold := expanderHoldOf_eq _ _
  have hnoted : windowEvent cfg s.scan.results[ch] (some new) = noted := by
    rw [windowEvent, windowOfResult_alarm_eq, windowOfResult_alarm_eq]
  have hformed : entryFormed ch codes s = formed := by
    change raiseIf (windowEvent cfg s.scan.results[ch] (some new)) .window { s with
      scan := _, disp := { s.disp with expanderHold := expanderHoldOf s.cfg.channels results } } = _
    rw [hnoted, hhold]
    rfl
  refine ⟨fun hdone => ?_, fun hdone hpos => ?_, fun hdone hlast => ?_⟩
  · rw [if_neg (mt conversionsDone_iff.1 hdone)]
  · rw [if_pos (conversionsDone_iff.2 hdone), completeEntry_amid hpos,
      recomputeIfBanned_ofHold entryFormed_caverns entryFormed_store, entryFormed_hold, hformed]
    change Host.Outcome.next (recomputeIf (decide (expanderHoldOf s.cfg.channels results ≠ _)) _) = _
    rw [hhold]
  · rw [if_pos (conversionsDone_iff.2 hdone), completeEntry_last hlast]
    have htemps : temperatureResults (entryFormed ch codes s) = temps := by
      simp only [temperatureResults, entryFormed_cfg, entryFormed_scan]
      refine List.filterMap_congr fun j _ => ?_
      cases s.cfg.channels[j].role <;> rfl
    have hpassed : completePass (entryFormed ch codes s) = passed := by
      rw [completePass_eq, handPass, htemps, entryFormed_cfg, entryFormed_scan, entryFormed_clock, entryFormed_now,
        numbered_eq, hformed]
      rfl
    have hpassedHold : passed.disp.expanderHold = hold := by
      rw [← hpassed, completePass_keeps State.disp _ fun _ => rfl, entryFormed_hold]
      exact hhold
    have hbanned : banInputs passed ≠ banInputs s ↔ banned := by
      rw [banInputs_ne_iff, hpassedHold]
    rw [hpassed]
    refine ⟨fun h => ?_, fun h => ?_, fun i => ?_, ?_, ?_, ?_, ?_, ?_, ?_, ?_⟩
    · rw [recomputeIfBanned_of_ne (hbanned.2 h)]
    · rw [recomputeIfBanned_of_eq (not_not.1 (mt hbanned.1 h))]
    · rw [← hpassed, completePass_cavern entryFormed_cfg entryFormed_caverns, entryFormed_scan]
      rfl
    · rw [← hpassed, completePass_store entryFormed_cfg entryFormed_store, htemps]
    · exact takeTemperatures_heard _ _
    · rw [← hpassed, completePass_keeps State.clock _ fun _ => rfl, entryFormed_clock]
    · rw [← hpassed, completePass_keeps State.cfg _ fun _ => rfl, entryFormed_cfg]
    · rw [← hpassed, completePass_keeps State.book _ fun _ => rfl, entryFormed_book]
    · rw [← hpassed, completePass_keeps State.trains _ fun _ => rfl, entryFormed_trains]
    · rw [← hpassed, completePass_keeps State.link _ fun _ => rfl, entryFormed_link]

end Sys2Proof.Machine
end

section
/-! SUPPORT. The interval's number (R159 to R163, R199): a boundary leaves the clock as it was set, a boundary that a pulse or the
own timer takes stands at least 298 s after the origin before it, and every command but the clock's own and POWER_ON_RESET keeps
the number. -/

namespace Sys2Proof.Machine

/-! ### The blocks take a boundary (R163) -/

theorem clock_of_timeline {s t : State} (h : t.timeline = s.timeline) : t.clock = s.clock := congrArg Timeline.clock h

theorem clock_of_plan {s t : State} (h : t.plan = s.plan) : t.clock = s.clock := congrArg Plan.clock h

theorem shiftLive_clock (n : Nat) (s : State) : (shiftLive n s).clock = s.clock := by
  unfold shiftLive
  split <;> rfl

theorem engineBoundary_clock (n : Nat) (s : State) : (engineBoundary n s).clock = s.clock := by
  cases h : s.engine.run.bind Run.item with
  | none =>
    rw [engineBoundary_of_noItem h, shiftLive_clock]
    rfl
  | some it =>
    rw [engineBoundary_of_item h]
    exact shiftLive_clock n _

theorem takeBoundary_clock (ended n : Nat) (b : Block) (s : State) : (takeBoundary ended n b s).clock = s.clock := by
  by_cases hb : b = .engine
  · subst hb
    exact engineBoundary_clock n s
  · exact clock_of_timeline (takeBoundary_timeline s ended n hb)

/-- The blocks leave the clock at a boundary, in whatever order they take it. -/
theorem takeBoundaryIn_clock (order : List Block) (ended n : Nat) (s : State) :
    (takeBoundaryIn order ended n s).clock = s.clock :=
  foldl_keeps State.clock _ (fun s b => takeBoundary_clock ended n b s) order s

theorem boundary_clock (mode : ClockMode) (origin : Nat) (absorb : Bool) (s : State) :
    (boundary mode origin absorb s).clock = { s.clock with
      mode := mode, interval := nextInterval s.free s.clock.interval, origin := origin, absorbOpen := absorb } :=
  takeBoundaryIn_clock _ _ _ _

theorem nextInterval_eq_succ {n : Nat} (h : n < 4294967295) (free : Nat) : nextInterval free n = n + 1 :=
  if_neg (Nat.not_le.2 h)

/-! ### Boundaries in time (R164 to R168) -/

/-- A running clock `c` has taken a boundary by the moment `now`, at least 298 s after its origin, and stands as `c'`. -/
def TookBoundary (c c' : Clock) (now : Nat) : Prop :=
  c.running = true ∧ c.origin + 298000 ≤ c'.origin ∧ c'.origin ≤ now ∧
    (c.interval < 4294967295 → c'.interval = c.interval + 1)

theorem tookBoundary_boundary {s : State} (hrun : s.clock.running = true) {origin : Nat}
    (hlow : s.clock.origin + 298000 ≤ origin) (hhigh : origin ≤ s.now) (mode : ClockMode) (absorb : Bool) :
    TookBoundary s.clock (boundary mode origin absorb s).clock s.now := by
  rw [boundary_clock]
  exact ⟨hrun, hlow, hhigh, fun hi => nextInterval_eq_succ hi s.free⟩

section Moves
variable {s : State}

/-- A pulse in its window takes a boundary at its own moment (R164, R166). -/
theorem tookBoundary_pulse (hrun : s.clock.running = true) (hphase : 298000 ≤ s.now - s.clock.origin) (phase : Nat) :
    TookBoundary s.clock (pulseBoundary phase s).clock s.now :=
  tookBoundary_boundary (s := { s with clock := { s.clock with lastOffset := some ((phase : Int) - 300000) } }) hrun
    (show s.clock.origin + 298000 ≤ s.now by omega) (Nat.le_refl s.now) _ _

/-- The own timer takes a boundary at its expiry moment (R165, R166). -/
theorem tookBoundary_timer (hrun : s.clock.running = true) {e : Nat} (hlow : s.clock.origin + 298000 ≤ e) (hhigh : e ≤ s.now)
    (mode : ClockMode) : TookBoundary s.clock (timerBoundary mode e s).clock s.now :=
  tookBoundary_boundary (s := { s with clock := { s.clock with
    timerCount := incTo 65535 s.clock.timerCount, due := s.clock.origin + 300000 } }) hrun hlow hhigh _ _

/-- The own timer runs while the clock does, and runs out no earlier than 300 s after the origin (R159). -/
theorem Clock.expiry_late {c : Clock} {e : Nat} (h : c.expiry = some e) : c.running = true ∧ c.origin + 300000 ≤ e := by
  cases hm : c.mode <;> simp only [Clock.expiry, hm, Option.some.injEq, reduceCtorEq] at h
  all_goals
    subst h
    exact ⟨by simp only [Clock.running, hm], by omega⟩

/-- A pulse in FREE or HOLDOVER keeps the number or takes a boundary (R166 to R168). -/
theorem pulseUnlocked_interval (hrun : s.clock.running = true) :
    (pulseUnlocked (s.now - s.clock.origin) s).clock.interval = s.clock.interval ∨
      TookBoundary s.clock (pulseUnlocked (s.now - s.clock.origin) s).clock s.now := by
  unfold pulseUnlocked
  split_ifs with habsorb hwindow
  · exact .inl rfl
  · exact .inr (tookBoundary_pulse hrun hwindow.1 _)
  · exact .inl rfl

/-- A pulse begins an armed interval, keeps the number, or takes a boundary (R162, R164, R166 to R168). -/
theorem takePulse_interval (s : State) :
    s.clock.mode = .armed ∨ (takePulse s).clock.interval = s.clock.interval ∨
      TookBoundary s.clock (takePulse s).clock s.now := by
  unfold takePulse
  simp only
  split
  next => exact .inr (.inl rfl)
  next hm => exact .inl hm
  next hm =>
    split_ifs with hwindow
    · exact .inr (.inr (tookBoundary_pulse ((running_iff _).2 (.inl hm)) hwindow.1 _))
    · exact .inr (.inl rfl)
  next hm => exact .inr (pulseUnlocked_interval ((running_iff _).2 (.inr (.inl hm))))
  next hm => exact .inr (pulseUnlocked_interval ((running_iff _).2 (.inr (.inr hm))))

/-- OWN_TIMER_EXPIRY keeps the number or takes a boundary (R165, R166). -/
theorem takeExpiry_interval (s : State) :
    (takeExpiry s).clock.interval = s.clock.interval ∨ TookBoundary s.clock (takeExpiry s).clock s.now := by
  unfold takeExpiry
  split
  next => exact .inl rfl
  next e he =>
    obtain ⟨hrun, hlate⟩ := Clock.expiry_late he
    split_ifs with hearly
    · exact .inl rfl
    · have hlow : s.clock.origin + 298000 ≤ e := by omega
      have hhigh : e ≤ s.now := Nat.not_lt.1 hearly
      split
      · exact .inr (tookBoundary_timer (s := raise .holdover s) hrun hlow hhigh .holdover)
      · exact .inr (tookBoundary_timer hrun hlow hhigh _)

end Moves

/-! ### The commands that are not the clock's (R32, R46 to R51, R200) -/

section Others
variable {s : State}

/-- A request keeps the number where the command it carries does: a request out of turn keeps it anyway (R191). -/
theorem station_interval {act : State → State} (h : ∀ s, (act s).clock.interval = s.clock.interval) :
    (station act s).clock.interval = s.clock.interval := by
  by_cases hi : s.port.state = .idle
  · rw [station_idle hi, h, taken_clock]
  · rw [station_busy hi]
    rfl

theorem interval_of_timeline {t : State} (h : t.timeline = s.timeline) : t.clock.interval = s.clock.interval :=
  congrArg Clock.interval (clock_of_timeline h)

theorem considerRun_clock (s : State) : (considerRun s).clock = s.clock := by
  unfold considerRun
  split
  · rfl
  · split
    · rfl
    · split <;> rfl

theorem completeVerification_clock (run : Run) (s : State) : (completeVerification run s).clock = s.clock :=
  clock_of_timeline (s := goLive run (runTable run.copy) s) ((recompute_timeline _).trans (writeMarks_timeline _ _ _))

theorem refuseCandidate_clock (run : Run) (key : Nat) (note : RefusalNote) (r : Record) (s : State) :
    (refuseCandidate run key note r s).clock = s.clock :=
  clock_of_timeline (s := dropRun s) ((raise_timeline _ _).trans (setRecord_timeline _ _ _))

theorem admitCandidate_clock (run : Run) (key : Nat) (table : List ProjSlot) (r : Record) (s : State) :
    (admitCandidate run key table r s).clock = s.clock :=
  clock_of_timeline (s := goLive run table s) (by simp [admitCandidate])

theorem completeAdmission_clock (run : Run) (s : State) : (completeAdmission run s).clock = s.clock := by
  unfold completeAdmission
  split
  · rfl
  · split
    · rfl
    · unfold judgeCandidate
      split
      · exact refuseCandidate_clock _ _ _ _ _
      · simp only
        split
        · exact refuseCandidate_clock _ _ _ _ _
        · exact admitCandidate_clock _ _ _ _ _

theorem tripAtReset_clock (s : State) : (tripAtReset s).clock = s.clock := by
  unfold tripAtReset
  split
  · exact clock_of_plan (tripAsserted_plan s)
  · rfl

/-- A station reset keeps the number (R200). -/
theorem resetStationAct_interval (s : State) : (resetStationAct s).clock.interval = s.clock.interval := by
  rw [resetStationAct, tripAtReset_clock, stationReset_interval]
  rfl

/-- The commands that can change the number (R159 to R163, R199). -/
def movesInterval : Instr → Bool
  | .powerOnReset | .setInterval _ _ | .pulse | .ownTimerExpiry => true
  | _ => false

theorem interval_of_next {u t : State} (h : Host.Outcome.next u = (.next t : Result))
    (hu : u.clock.interval = s.clock.interval) : t.clock.interval = s.clock.interval :=
  holds_of_next (fun t => t.clock.interval = s.clock.interval) h hu

/-- Every other command keeps the number. -/
theorem exec_interval {c : Instr} {t : State} (hc : movesInterval c = false) (h : exec c s = .next t) :
    t.clock.interval = s.clock.interval := by
  by_cases hplan : actsOnPlan c = false
  · rw [clock_of_plan (exec_plan hplan h)]
  cases c with
  | powerOnReset | setInterval _ _ | pulse | ownTimerExpiry => simp [movesInterval] at hc
  | book p => exact interval_of_next h (station_interval fun s => interval_of_timeline (bookAct_timeline s p))
  | confirm key => exact interval_of_next h (station_interval fun s => interval_of_timeline (confirmAct_timeline s key))
  | amend p => exact interval_of_next h (station_interval fun s => interval_of_timeline (amendAct_timeline s p))
  | retire key => exact interval_of_next h (station_interval fun s => interval_of_timeline (retireAct_timeline s key))
  | runStart => exact interval_of_next h (congrArg Clock.interval (considerRun_clock s))
  | verificationRunComplete =>
    refine interval_of_next h ?_
    split
    · split
      · rw [completeVerification_clock]
      · rfl
    · rfl
  | admissionRunComplete =>
    refine interval_of_next h ?_
    split
    · split
      · rfl
      · rw [completeAdmission_clock]
    · rfl
  | absorbWindowClose => exact interval_of_next h (by split <;> rfl)
  | resetStation => exact interval_of_next h (station_interval resetStationAct_interval)
  | _ => simp [actsOnPlan] at hplan

end Others

/-- Settles O45: the commands that keep the number fall away, and a pulse or an expiry that moves a running clock's number takes a
boundary. -/
theorem boundariesStandApart : Obligations.BoundariesStandApart := by
  unfold Obligations.BoundariesStandApart
  refine ⟨fun c s t h hmoved => ?_, takeBoundaryIn_clock⟩
  by_cases hc : movesInterval c = false
  · exact absurd (exec_interval hc h) hmoved
  cases c with
  | powerOnReset => exact .inl rfl
  | setInterval n form => exact .inr (.inl ⟨n, form, rfl⟩)
  | pulse =>
    obtain rfl : takePulse s = t := Host.Outcome.next.inj h
    rcases takePulse_interval s with harmed | hkept | htook
    · exact .inr (.inr (.inl ⟨rfl, harmed⟩))
    · exact absurd hkept hmoved
    · exact .inr (.inr (.inr ⟨.inl rfl, htook⟩))
  | ownTimerExpiry =>
    obtain rfl : takeExpiry s = t := Host.Outcome.next.inj h
    rcases takeExpiry_interval s with hkept | htook
    · exact absurd hkept hmoved
    · exact .inr (.inr (.inr ⟨.inr rfl, htook⟩))
  | _ => exact absurd rfl hc

end Sys2Proof.Machine
end

section
/-! SUPPORT. SET_INTERVAL (R160 to R162): its refusals, and what each block leaves of the beginning of an interval (R56, R75, R92,
R121, R156). -/

namespace Sys2Proof.Machine

/-! ### What the blocks leave of a beginning -/

/-- The engine's fields at a beginning, before the cause of R30 that comes with it (R56). -/
def Engine.idled (e : Engine) : Engine :=
  { e with
    run := none, live := none, closed := none, runCount := 0
    snap := { e.snap with superseded := e.snap.superseded || e.live.isSome } }

/-- A cavern's fields at a beginning (R75). -/
def CavernWork.begun (w : CavernWork) : CavernWork := { w.started with drift := none }

/-- The store's fields at a beginning (R92). -/
def StoreWork.begun (w : StoreWork) : StoreWork := { w.started with heard := false }

section Begin
variable (s : State)

theorem engineBegin_eq : engineBegin s = setVerify { s with engine := s.engine.idled } := rfl

/-- A cause of R30 after another adds nothing. -/
theorem setVerifyIf_setVerify (b : Bool) : setVerifyIf b (setVerify s) = setVerify s := by
  have h := setVerifyIf_setVerifyIf (s := s) b true
  rwa [Bool.or_true] at h

theorem cavernBegin_eq (i : Fin 4) :
    cavernBegin i s = setVerifyIf (decide (s.caverns[i].started.startMass ≠ s.caverns[i].startMass))
      (setCavernWork i s.caverns[i].begun s) := by
  simp only [cavernBegin, boundaryStartMass_eq, setVerifyIf_caverns, setCavernWork_work, setCavernWork_setVerifyIf,
    setCavernWork_twice]
  rfl

/-- With verification pending already, a cavern's beginning writes its fields alone. -/
theorem cavernBegin_setVerify (i : Fin 4) :
    cavernBegin i (setVerify s) = setVerify (setCavernWork i s.caverns[i].begun s) := by
  rw [cavernBegin_eq]
  exact setVerifyIf_setVerify (setCavernWork i s.caverns[i].begun s) _

/-- The caverns' own fields, written one after the other. -/
theorem foldl_setCavernWork_begun :
    (List.finRange 4).foldl (fun s i => setCavernWork i s.caverns[i].begun s) s =
      { s with caverns := s.caverns.map CavernWork.begun } := by
  have hcaverns : ((List.finRange 4).foldl (fun s i => setCavernWork i s.caverns[i].begun s) s).caverns
      = s.caverns.map CavernWork.begun := by
    refine Vector.ext fun j hj => ?_
    rw [Vector.getElem_map]
    exact (foldl_caverns_mem (f := fun i s => setCavernWork i s.caverns[i].begun s) (view := fun _ => ())
      (after := fun _ _ w => w.begun) (fun _ _ => rfl) (fun _ _ => rfl) (List.nodup_finRange 4)
      (List.mem_finRange ⟨j, hj⟩) s).trans (setCavernWork_work _)
  have hrest := foldl_keeps (fun t => { t with caverns := s.caverns.map CavernWork.begun })
    (fun s i => setCavernWork i s.caverns[i].begun s) (fun _ _ => rfl) (List.finRange 4) s
  rw [← hrest, ← hcaverns]

theorem cavernsBegin_setVerify :
    cavernsBegin (setVerify s) = setVerify { s with caverns := s.caverns.map CavernWork.begun } := by
  rw [cavernsBegin, ← foldl_setCavernWork_begun]
  exact List.foldl_hom setVerify fun s i => cavernBegin_setVerify s i

theorem storeBegin_setVerify : storeBegin (setVerify s) = setVerify { s with store := s.store.begun } := by
  rw [storeBegin_eq]
  exact setVerifyIf_setVerify { s with store := s.store.begun } _

/-- What the blocks leave of the beginning of interval `n` (R161, R162). -/
theorem blocksBegin_eq (n : Nat) :
    blocksBegin n s = { s with
      engine := { s.engine.idled with flag := true }
      caverns := s.caverns.map CavernWork.begun
      store := s.store.begun
      disp := { s.disp with openTally := some ⟨n, [], 0, 0⟩, closedTally := none }
      scan := { s.scan with handed := Vector.replicate 4 false } } := by
  rw [blocksBegin, engineBegin_eq, cavernsBegin_setVerify, storeBegin_setVerify]
  rfl

/-- What SET_INTERVAL with the form AT_PULSE leaves (R162). -/
theorem armClock_eq (n : Nat) :
    armClock n s = { s with
      clock := { s.clock with mode := .armed, absorbOpen := false, armed := some n }
      engine := { s.engine.idled with flag := true }
      disp := { s.disp with openTally := none, closedTally := none } } := rfl

end Begin

/-! ### The command (R160) -/

section Command
variable {s : State} {n form : Nat}

theorem exec_setInterval_idle (h : s.port.state = .idle) (n form : Nat) :
    exec (.setInterval n form) s = .next (setIntervalAct n form s.taken) :=
  congrArg Host.Outcome.next (station_idle h _)

theorem bookHolds_iff (s : State) : bookHolds s = true ↔ ∃ i : Fin 128, s.book[i].record ≠ none := by
  simp [bookHolds, Option.isSome_iff_ne_none, -Fin.getElem_fin]

theorem nowFormOf_of_le (h : form ≤ 1) : nowFormOf form = some (decide (form = 0)) := by
  interval_cases form <;> rfl

theorem nowFormOf_of_gt (h : 1 < form) : nowFormOf form = none := by
  unfold nowFormOf
  split
  · omega
  · omega
  · rfl

theorem setIntervalAct_badValue (h : 1 < form ∨ 4000000000 < n) : setIntervalAct n form s = reply .badValue s := by
  by_cases hform : 1 < form
  · simp only [setIntervalAct, nowFormOf_of_gt hform]
  · simp only [setIntervalAct, nowFormOf_of_le (Nat.not_lt.1 hform), if_pos (h.resolve_left hform)]

/-- With values in range, SET_INTERVAL goes on to the book and the form. -/
theorem setIntervalAct_of_le (hform : form ≤ 1) (hn : n ≤ 4000000000) :
    setIntervalAct n form s =
      if bookHolds s then reply .wrongState s
      else if form = 0 then reply .done (beginNow n s) else reply .done (armClock n s) := by
  simp only [setIntervalAct, nowFormOf_of_le hform, if_neg (Nat.not_lt.2 hn), decide_eq_true_eq]

end Command

/-- Settles O43: the refusals in their order, and the blocks' beginning for each form. -/
theorem setIntervalBeginsOrArms : Obligations.SetIntervalBeginsOrArms := by
  unfold Obligations.SetIntervalBeginsOrArms
  intro n form s h held
  have hheld : bookHolds s.taken = true ↔ held := bookHolds_iff s.taken
  rw [exec_setInterval_idle h]
  refine ⟨fun hbad => ?_, fun hform hn hrec => ?_, fun hform hn hfree => ?_, fun hform hn hfree => ?_⟩
  · rw [setIntervalAct_badValue hbad, reply_taken]
  · rw [setIntervalAct_of_le hform hn, if_pos (hheld.2 hrec), reply_taken]
  · refine ⟨_, rfl, ?_⟩
    rw [setIntervalAct_of_le (by omega) hn, if_neg (mt hheld.1 hfree), if_pos hform, beginNow, blocksBegin_eq]
    refine ⟨rfl, rfl, rfl, rfl, fun i => ?_, rfl, rfl, rfl, rfl, rfl, rfl, rfl, rfl, rfl, rfl⟩
    exact Vector.getElem_map CavernWork.begun i.isLt
  · rw [setIntervalAct_of_le (by omega) hn, if_neg (mt hheld.1 hfree), if_neg (by omega), armClock_eq]
    rfl

end Sys2Proof.Machine
end

section
/-! SUPPORT. SET_ALIAS, LINK_SPEED and READ_LINK (R183, R185, R186): the addresses that are known, the refusals and the table
entry that a SET_ALIAS writes. -/

namespace Sys2Proof.Machine

/-! ### The commands taken in IDLE -/

section Taken
variable {s : State} (h : s.port.state = .idle)
include h

theorem exec_setAlias_idle (hsave : s.nv.saving = none) (p : AliasParams) :
    exec (.setAlias p) s = .next (setAliasAct p s.taken) :=
  congrArg Host.Outcome.next ((station_idle h _).trans (settingsWrite_idle (s := s.taken) hsave _))

theorem exec_setAlias_busy (hsave : s.nv.saving ≠ none) (p : AliasParams) :
    exec (.setAlias p) s = .next (s.answered .busy .empty) :=
  congrArg Host.Outcome.next ((station_idle h _).trans (settingsWrite_busy (s := s.taken) hsave _))

theorem exec_linkSpeed_idle (target : Nat) : exec (.linkSpeed target) s = .next (linkSpeedAct target s.taken) :=
  congrArg Host.Outcome.next (station_idle h _)

theorem exec_readLink_idle : exec .readLink s = .next (readLinkAct s.taken) :=
  congrArg Host.Outcome.next (station_idle h _)

end Taken

/-! ### Addresses (R98, R186) -/

/-- The address of an entry, its kind code in the upper four bits (R98). -/
theorem busAddress_eq (t : TrainCfg) :
    t.busAddress = t.index + (match t.kind with | .compressor => 192 | .expander => 208) := by
  unfold TrainCfg.busAddress
  cases t.kind <;> exact Nat.add_comm ..

theorem address_eq_some_iff (t : TrainCfg) (address : Nat) :
    t.address = some address ↔ t.configured = true ∧ address = t.busAddress := by
  cases hconf : t.configured <;> simp [TrainCfg.address, hconf, eq_comm]

/-- Another table entry than entry `n`, or a configured roster entry, has the address (R186). -/
def KnownAddress (s : State) (n address : Nat) : Prop :=
  (∃ (j : Fin 8) (a : AliasEntry), j.val ≠ n ∧ s.cfg.aliases[j] = some a ∧ a.address = address) ∨
    ∃ i : Fin 8, s.cfg.trains[i].configured = true ∧ address = s.cfg.trains[i].index +
      (match s.cfg.trains[i].kind with | .compressor => 192 | .expander => 208)

theorem addressKnown_iff (idx : Fin 8) (address : Nat) (s : State) :
    addressKnown idx address s = true ↔ KnownAddress s idx address := by
  simp only [addressKnown, KnownAddress, Bool.or_eq_true, List.any_eq_true, List.mem_finRange, true_and, Bool.and_eq_true,
    Option.any_eq_true, decide_eq_true_iff, address_eq_some_iff, busAddress_eq, ← exists_and_left, ne_eq, Fin.ext_iff]

/-! ### SET_ALIAS (R186) -/

section SetAlias
variable {s : State} {idx : Fin 8} {v : AliasValue} {p : AliasParams}

/-- The checks on the value given to table entry `n` (R186). -/
def AliasValueBad (s : State) (n : Nat) (v : AliasValue) : Prop :=
  v.entry = 0 ∨ 8 < v.entry ∨ 254 < v.address ∨ 1 < v.quiet ∨ KnownAddress s n v.address

theorem flagOf_of_gt : ∀ {n : Nat}, 1 < n → flagOf n = none
  | _ + 2, _ => rfl

theorem aliasOf_bad (h : AliasValueBad s idx v) : aliasOf idx v s = none := by
  unfold aliasOf
  rcases h with h | h | h | h | h
  · rw [entryOf_eq_none (.inl h)]
  · rw [entryOf_eq_none (.inr h)]
  · split
    · exact if_neg fun hok => absurd hok.1 (by omega)
    · rfl
  · rw [flagOf_of_gt h]
    split <;> simp_all
  · split
    · exact if_neg fun hok => absurd ((addressKnown_iff ..).2 h) (by simp [hok.2])
    · rfl

theorem aliasOf_good {i : Fin 8} (h : ¬AliasValueBad s idx v) (hi : v.entry = i.val + 1) :
    aliasOf idx v s = some ⟨v.address, i, v.quiet == 1⟩ := by
  simp only [AliasValueBad, not_or, Nat.not_lt] at h
  obtain ⟨-, -, haddress, hquiet, hknown⟩ := h
  have hfree : addressKnown idx v.address s = false := Bool.eq_false_iff.2 (mt (addressKnown_iff ..).1 hknown)
  simp only [aliasOf, hi, entryOf_succ, flagOf_of_le hquiet]
  exact if_pos ⟨haddress, hfree⟩

theorem aliasIndexOf_val (idx : Fin 8) : aliasIndexOf idx.val = some idx := dif_pos idx.isLt

theorem setAliasAct_badIndex (h : 7 < p.index) : setAliasAct p s = reply .badValue s := by
  have hnone : aliasIndexOf p.index = none := dif_neg (by omega)
  simp only [setAliasAct, hnone]

theorem setAliasAct_badAlternative (h : 1 < p.alternative) : setAliasAct p s = reply .badValue s := by
  unfold setAliasAct
  split
  · rfl
  · split
    · omega
    · omega
    · rfl

theorem setAliasAct_empty (hp : p.index = idx.val) (h : p.alternative = 0) :
    setAliasAct p s = reply .done (setAliasEntry idx none s) := by
  simp only [setAliasAct, hp, aliasIndexOf_val, h]

theorem setAliasAct_badValue (hp : p.index = idx.val) (h : p.alternative = 1) (hv : AliasValueBad s p.index p.value) :
    setAliasAct p s = reply .badValue s := by
  simp only [setAliasAct, hp, aliasIndexOf_val, h, aliasOf_bad (hp ▸ hv)]

theorem setAliasAct_give {i : Fin 8} (hp : p.index = idx.val) (h : p.alternative = 1) (hv : ¬AliasValueBad s p.index p.value)
    (hi : p.value.entry = i.val + 1) :
    setAliasAct p s = reply .done (setAliasEntry idx (some ⟨p.value.address, i, p.value.quiet == 1⟩) s) := by
  simp only [setAliasAct, hp, aliasIndexOf_val, h, aliasOf_good (hp ▸ hv) hi]

end SetAlias

/-! ### LINK_SPEED (R185) -/

theorem linkSpeedAct_eq (target : Nat) (s : State) : linkSpeedAct target s =
    if target = 0 then reply .done { s with link := { s.link with speedPending := some .base } }
    else if target = 1 then reply .done { s with link := { s.link with speedPending := some .fast } }
    else reply .badValue s := by
  unfold linkSpeedAct
  rcases target with _ | _ | target <;> rfl

/-- Settles O46: SET_ALIAS by its checks, LINK_SPEED by its target, and the counters that READ_LINK clears. -/
theorem aliasesSpeedAndReadLink : Obligations.AliasesSpeedAndReadLink := by
  unfold Obligations.AliasesSpeedAndReadLink
  intro s h
  refine ⟨fun hsave => exec_setAlias_busy h hsave, fun hsave p => ?_, fun target => ?_, ?_⟩
  · intro known v bad with_
    rw [exec_setAlias_idle h hsave]
    refine ⟨fun hbad => ?_, fun idx hp halt => ?_, fun idx i hgood hp halt hi => ?_⟩
    · by_cases hindex : 7 < p.index
      · rw [setAliasAct_badIndex hindex, reply_taken]
      · rcases hbad.resolve_left hindex with halt | ⟨halt, hv⟩
        · rw [setAliasAct_badAlternative halt, reply_taken]
        · have hp : p.index = (⟨p.index, by omega⟩ : Fin 8).val := rfl
          rw [setAliasAct_badValue (s := s.taken) hp halt hv, reply_taken]
    · rw [setAliasAct_empty hp halt]
      rfl
    · have hv : ¬AliasValueBad s.taken p.index v := fun hv => hgood (.inr (.inr ⟨halt, hv⟩))
      rw [setAliasAct_give hp halt hv hi]
      rfl
  · rw [exec_linkSpeed_idle h, linkSpeedAct_eq]
    split
    · rfl
    · split <;> rfl
  · refine ⟨_, exec_readLink_idle h, fun i => ?_⟩
    exact Vector.getElem_ofFn i.isLt

end Sys2Proof.Machine
end

section
/-! SUPPORT. FORWARD (R172, R187): the table entry that an address finds, the kinds by their position, and the gates in their
order. -/

namespace Sys2Proof.Machine

theorem exec_forward_idle {s : State} (h : s.port.state = .idle) (p : ForwardParams) :
    exec (.forward p) s = .next (forwardAct p s.taken) :=
  congrArg Host.Outcome.next (station_idle h _)

/-! ### Lookups -/

/-- The lowest valid table entry with the address is the one found (R187). -/
theorem findAlias_eq_some {s : State} {j : Fin 8} {a : AliasEntry} {address : Nat} (ha : s.cfg.aliases[j] = some a)
    (haddress : a.address = address)
    (hfirst : ∀ (k : Fin 8) (b : AliasEntry), k < j → s.cfg.aliases[k] = some b → b.address ≠ address) :
    findAlias s address = some a := by
  have hsplit : s.cfg.aliases.toList =
      s.cfg.aliases.toList.take j ++ some a :: s.cfg.aliases.toList.drop (j + 1) := by
    have hj : (j : Nat) < s.cfg.aliases.toList.length := by simp
    have hget : s.cfg.aliases.toList[j.val] = some a := ha
    rw [← hget, ← List.drop_eq_getElem_cons hj, List.take_append_drop]
  have hbefore : ((s.cfg.aliases.toList.take j).filterMap id).find? (fun a => decide (a.address = address)) = none := by
    refine List.find?_eq_none.2 fun b hb => ?_
    obtain ⟨_, hmem, rfl⟩ := List.mem_filterMap.1 hb
    obtain ⟨k, hk, hget⟩ := List.mem_take_iff_getElem.1 hmem
    have hkj : k < j.val := by omega
    simpa using hfirst ⟨k, by omega⟩ b hkj (by simpa using hget)
  rw [findAlias, hsplit, List.filterMap_append, List.find?_append, hbefore]
  simp [haddress]

theorem findAlias_eq_none {s : State} {address : Nat}
    (h : ∀ (j : Fin 8) (a : AliasEntry), s.cfg.aliases[j] = some a → a.address ≠ address) : findAlias s address = none := by
  refine List.find?_eq_none.2 fun b hb => ?_
  obtain ⟨_, hmem, rfl⟩ := List.mem_filterMap.1 hb
  obtain ⟨k, hk, hget⟩ := List.mem_iff_getElem.1 hmem
  simpa using h ⟨k, by simpa using hk⟩ b (by simpa using hget)

theorem writable_iff (st : TrainState) : st.writable = true ↔ st = .absent ∨ st = .withdrawn ∨ st = .lockedOut := by
  cases st <;> simp [TrainState.writable]

/-! ### The gates -/

section Gates
variable {s : State} {p : ForwardParams} {kind : MsgKind} {a : AliasEntry}

/-- The checks on a FORWARD's own values (R187 step 1). -/
def ForwardBad (p : ForwardParams) : Prop :=
  7 < p.kind ∨ 16 < p.payload.length ∨ ((p.kind = 0 ∨ p.kind = 4) ∧ p.payload ≠ [])

/-- The kinds that no FORWARD may send to a train in this state (R187 step 3). -/
def ForwardOwned (p : ForwardParams) (st : TrainState) : Prop :=
  p.kind = 1 ∨ p.kind = 2 ∨ p.kind = 3 ∨ p.kind = 7 ∨
    (p.kind = 6 ∧ ¬(st = .absent ∨ st = .withdrawn ∨ st = .lockedOut))

theorem bare_of_sentKindOf {n : Nat} (h : sentKindOf n = some kind) : kind.bare = true ↔ n = 0 ∨ n = 4 := by
  unfold sentKindOf at h
  split at h <;> cases h <;> simp [MsgKind.bare]

theorem controls_of_sentKindOf {n : Nat} (h : sentKindOf n = some kind) :
    kind.controls = true ↔ n = 1 ∨ n = 2 ∨ n = 3 ∨ n = 7 := by
  unfold sentKindOf at h
  split at h <;> cases h <;> simp [MsgKind.controls]

theorem diagWrite_of_sentKindOf {n : Nat} (h : sentKindOf n = some kind) : kind = .diagWrite ↔ n = 6 := by
  unfold sentKindOf at h
  split at h <;> cases h <;> simp

theorem sentKindOf_of_gt : ∀ {n : Nat}, 7 < n → sentKindOf n = none
  | _ + 8, _ => rfl

theorem sentKindOf_isSome {n : Nat} (h : n ≤ 7) : ∃ kind, sentKindOf n = some kind := by
  interval_cases n <;> exact ⟨_, rfl⟩

theorem forwardAct_bad (h : ForwardBad p) : forwardAct p s = reply .badValue s := by
  unfold forwardAct
  split
  · rfl
  next kind hkind =>
    refine if_pos ?_
    have hrange : ¬7 < p.kind := fun hgt => by simp [sentKindOf_of_gt hgt] at hkind
    simpa [bare_of_sentKindOf hkind] using h.resolve_left hrange

theorem forwardAct_good (h : ¬ForwardBad p) : ∃ kind, sentKindOf p.kind = some kind ∧
    forwardAct p s = forwardTo kind p s := by
  simp only [ForwardBad, not_or] at h
  obtain ⟨hrange, hlen, hbare⟩ := h
  obtain ⟨kind, hkind⟩ := sentKindOf_isSome (Nat.not_lt.1 hrange)
  refine ⟨kind, hkind, ?_⟩
  simp only [forwardAct, hkind]
  refine if_neg ?_
  simpa [bare_of_sentKindOf hkind] using ⟨Nat.not_lt.1 hlen, by simpa using hbare⟩

theorem owned_iff (hkind : sentKindOf p.kind = some kind) (st : TrainState) :
    (kind.controls || (decide (kind = .diagWrite) && !st.writable)) = true ↔ ForwardOwned p st := by
  simp only [Bool.or_eq_true, Bool.and_eq_true, decide_eq_true_iff, controls_of_sentKindOf hkind,
    diagWrite_of_sentKindOf hkind, Bool.not_eq_true', Bool.eq_false_iff, ne_eq, writable_iff, ForwardOwned, or_assoc]

/-- With a configured roster entry behind the address, the kind is judged and then the room in the queue (R187). -/
theorem forwardTo_configured (hkind : sentKindOf p.kind = some kind) (halias : findAlias s p.address = some a)
    (hconf : s.cfg.trains[a.entry].configured = true) :
    (ForwardOwned p s.trains[a.entry].state → forwardTo kind p s = reply .owned s) ∧
    (¬ForwardOwned p s.trains[a.entry].state → 2 ≤ s.link.pass.length → forwardTo kind p s = reply .busy s) ∧
    (¬ForwardOwned p s.trains[a.entry].state → s.link.pass.length < 2 →
      forwardTo kind p s = queueForward a kind p.payload s) := by
  have howned := owned_iff hkind s.trains[a.entry].state
  simp only [forwardTo, halias, hconf, Bool.not_true, Bool.false_eq_true, if_false]
  refine ⟨fun h => if_pos (howned.2 h), fun h hfull => ?_, fun h hroom => ?_⟩
  · rw [if_neg (mt howned.1 h), if_pos hfull]
  · rw [if_neg (mt howned.1 h), if_neg (Nat.not_le.2 hroom)]

end Gates

/-! ### The queue (R187, R189) -/

/-- The link with a message at the tail of the pass-through queue (R187). -/
def Link.waiting (l : Link) (a : AliasEntry) (kind : MsgKind) (payload : List Byte) (owed : Bool) : Link :=
  { l with pass := l.pass ++ [⟨a.entry, kind, payload, a.quiet, owed⟩] }

theorem queueForward_quiet {a : AliasEntry} (h : a.quiet = true) (payload : List Byte) (s : State) :
    queueForward a .diagWrite payload s.taken =
      ({ s with link := s.link.waiting a .diagWrite payload false } : State).answered .done .empty := by
  simp only [queueForward, h, decide_true, Bool.and_self, Bool.not_true, Bool.false_eq_true, if_false]
  simp only [State.answered, Link.waiting, h]
  rfl

theorem queueForward_owed {a : AliasEntry} {kind : MsgKind} (h : ¬(kind = .diagWrite ∧ a.quiet = true))
    (payload : List Byte) (s : State) :
    queueForward a kind payload s.taken =
      { s with link := s.link.waiting a kind payload true, port := ⟨.owed, [0#8]⟩ } := by
  have howed : (!(decide (kind = .diagWrite) && a.quiet)) = true := by
    rw [Bool.not_eq_true', Bool.eq_false_iff]
    simpa using h
  simp only [queueForward, howed, if_true]
  rfl

/-- Settles O47: the checks one after another, and the message that waits by its kind. -/
theorem forwardGatesAndQueue : Obligations.ForwardGatesAndQueue := by
  unfold Obligations.ForwardGatesAndQueue
  intro p s h bad waiting
  rw [exec_forward_idle h]
  refine ⟨fun hbad => ?_, fun hgood hnone => ?_, fun j a hgood ha haddress hfirst => ?_⟩
  · rw [forwardAct_bad hbad, reply_taken]
  · obtain ⟨kind, -, hact⟩ := forwardAct_good (s := s.taken) hgood
    have halias : findAlias s.taken p.address = none := findAlias_eq_none hnone
    simp only [hact, forwardTo, halias, reply_taken]
  · intro st writable owned
    obtain ⟨kind, hkind, hact⟩ := forwardAct_good (s := s.taken) hgood
    have halias : findAlias s.taken p.address = some a := findAlias_eq_some ha haddress hfirst
    rw [hact]
    refine ⟨fun hconf => ?_, fun hconf => ?_⟩
    · simp only [forwardTo, halias, taken_cfg, hconf, Bool.not_false, if_true, reply_taken]
    · obtain ⟨howned, hfull, hroom⟩ := forwardTo_configured hkind halias hconf
      refine ⟨fun h => congrArg _ (howned h), fun h hlen => congrArg _ (hfull h hlen), fun h hlen => ?_⟩
      rw [hroom h hlen]
      refine ⟨fun hsix hquiet => ?_, fun k hk => ?_⟩
      · rw [(diagWrite_of_sentKindOf hkind).2 hsix, queueForward_quiet hquiet]
        rfl
      · have hsent : ∀ {n : Nat} {k' : MsgKind}, p.kind = n → sentKindOf n = some k' → kind = k' := fun hn hk' =>
          Option.some_injective _ (hkind.symm.trans (hn ▸ hk'))
        have hk' : kind = k ∧ ¬(k = .diagWrite ∧ a.quiet = true) := by
          rcases hk with ⟨hn, rfl⟩ | ⟨hn, rfl⟩ | ⟨hn, rfl⟩ | ⟨hn, rfl, hquiet⟩
          · exact ⟨hsent hn rfl, by simp⟩
          · exact ⟨hsent hn rfl, by simp⟩
          · exact ⟨hsent hn rfl, by simp⟩
          · exact ⟨hsent hn rfl, by simp [hquiet]⟩
        rw [hk'.1, queueForward_owed hk'.2]
        rfl

end Sys2Proof.Machine
end

section
/-! SUPPORT. How a command joins the link's queue (R177): no two of the commands that wait have the entry and the kind in
common. -/

namespace Sys2Proof.Machine

/-- What no two waiting commands have in common (R177). -/
def Cmd.key (c : Cmd) : Fin 8 × MsgKind := (c.entry, c.kind.msg)

theorem isSetFor_eq (i : Fin 8) (c : Cmd) :
    (decide (c.entry = i) && match c.kind with | .set _ => true | _ => false) = c.isSetFor i := by
  unfold Cmd.isSetFor
  cases c.kind <;> simp

theorem isSetFor_iff (i : Fin 8) (c : Cmd) : c.isSetFor i = true ↔ c.key = (i, .set) := by
  unfold Cmd.isSetFor Cmd.key
  cases c.kind <;> simp [CmdKind.msg]

/-- Among the commands of an entry, START and STOP are told by their kind alone. -/
theorem eq_of_key {c d : Cmd} (hc : c.key ≠ (c.entry, .set)) (h : d.key = c.key) : d = c := by
  obtain ⟨e, k⟩ := c
  obtain ⟨f, m⟩ := d
  cases k <;> cases m <;> simp_all [Cmd.key, CmdKind.msg]

theorem keys_append_nodup {c : Cmd} {q : List Cmd} (hq : (q.map Cmd.key).Nodup) (hc : ∀ d ∈ q, d.key ≠ c.key) :
    ((q ++ [c]).map Cmd.key).Nodup := by
  rw [List.map_append, List.map_singleton, List.nodup_append]
  refine ⟨hq, List.nodup_singleton _, fun a ha b hb => ?_⟩
  obtain ⟨d, hd, rfl⟩ := List.mem_map.1 ha
  rw [List.mem_singleton.1 hb]
  exact hc d hd

/-- A START or STOP that does not wait shares its key with none that waits. -/
theorem key_ne_of_not_mem {c : Cmd} {q : List Cmd} (hc : c.key ≠ (c.entry, .set)) (h : c ∉ q) : ∀ d ∈ q, d.key ≠ c.key :=
  fun _ hd hkey => h (eq_of_key hc hkey ▸ hd)

/-- A SET in the place of the SET that waits for its entry leaves every key as it was. -/
theorem keys_replaceSet {c : Cmd} (hc : c.key = (c.entry, .set)) (q : List Cmd) :
    (q.map fun d => if d.isSetFor c.entry then c else d).map Cmd.key = q.map Cmd.key := by
  rw [List.map_map]
  refine List.map_congr_left fun d _ => ?_
  by_cases hd : d.isSetFor c.entry = true
  · simp only [Function.comp_apply, hd, if_true, hc, (isSetFor_iff _ d).1 hd]
  · simp only [Function.comp_apply, hd, Bool.false_eq_true, if_false]

theorem enqueue_keys_nodup (c : Cmd) {q : List Cmd} (hq : (q.map Cmd.key).Nodup) : ((enqueue c q).map Cmd.key).Nodup := by
  obtain ⟨i, kind⟩ := c
  cases kind with
  | set p =>
    unfold enqueue
    simp only
    split
    · rw [keys_replaceSet (c := ⟨i, .set p⟩) rfl]
      exact hq
    next hnone => exact keys_append_nodup hq fun d hd hkey => hnone (List.any_eq_true.2 ⟨d, hd, (isSetFor_iff i d).2 hkey⟩)
  | stop =>
    have hothers := hq.sublist ((List.filter_sublist (l := q) (p := fun d => !d.isSetFor i)).map Cmd.key)
    unfold enqueue
    simp only
    split
    · exact hothers
    next hnone => exact keys_append_nodup hothers (key_ne_of_not_mem (by simp [Cmd.key, CmdKind.msg]) hnone)
  | start =>
    unfold enqueue
    simp only
    split
    · exact hq
    next hnone => exact keys_append_nodup hq (key_ne_of_not_mem (by simp [Cmd.key, CmdKind.msg]) hnone)

end Sys2Proof.Machine
end

section
/-! SUPPORT. The grant (R176 to R180, R185, R188): one consideration, class by class, and the grant that follows it where nothing
was sent. -/

namespace Sys2Proof.Machine

/-! ### Considerations that follow one another (R176) -/

/-- How many things wait that a consideration can take up, polls and the broadcast aside (R176). -/
def Link.waitingCount (l : Link) : Nat :=
  l.reissue.toList.length + l.cmds.length + l.pass.length + l.idents.length

@[simp] theorem dropCmd_link (c : Cmd) (s : State) : (dropCmd c s).link = s.link := by
  unfold dropCmd
  split <;> rfl

/-- A response is formed where it is owed and the port waits for one (R188, R189). -/
theorem answerOwed_eq (f : Fwd) (r : ResultCode) (b : Body) (s : State) : answerOwed f r b s =
    { s with port := if f.owed = true ∧ s.port.state = .owed then { s.port with state := .holding ⟨r, b⟩ } else s.port } := by
  unfold answerOwed
  split <;> rfl

@[simp] theorem answerOwed_link (f : Fwd) (r : ResultCode) (b : Body) (s : State) : (answerOwed f r b s).link = s.link := by
  unfold answerOwed
  split <;> rfl

/-- What takes up one waiting thing sends it, or leaves the link with the rest. -/
def Takes (l : Link) (t : State) : Prop := t.link.slot.isSome = true ∨ t.link = l

theorem grantCommand_takes (c : Cmd) (b : Bool) (s : State) : Takes s.link (grantCommand c b s) := by
  unfold grantCommand
  split
  · exact .inl rfl
  · exact .inr (dropCmd_link c s)

theorem grantForward_takes (f : Fwd) (s : State) : Takes s.link (grantForward f s) := by
  unfold grantForward
  split
  · exact .inr (answerOwed_link ..)
  · split
    · exact .inr (answerOwed_link ..)
    · exact .inl rfl

theorem grantIdent_takes (i : Fin 8) (s : State) : Takes s.link (grantIdent i s) := by
  unfold grantIdent
  split
  · exact .inl rfl
  · exact .inr rfl

theorem Takes.progress {l l' : Link} {t : State} (h : Takes l' t) (hless : l'.waitingCount < l.waitingCount) :
    t.link.slot.isSome = true ∨ t.link.waitingCount < l.waitingCount :=
  h.imp_right fun hl => by rw [hl]; exact hless

/-- A consideration sends something, takes up one waiting thing, or finds nothing. -/
theorem grantOnce_progress (s : State) : (grantOnce s).link.slot.isSome = true ∨
    (grantOnce s).link.waitingCount < s.link.waitingCount ∨ grantOnce s = s := by
  rw [← or_assoc]
  unfold grantOnce
  split
  next => exact .inl (.inl rfl)
  next hre =>
    have hless : ({ s.link with reissue := none } : Link).waitingCount < s.link.waitingCount := by
      simp only [Link.waitingCount, hre, Option.toList, List.length_nil, List.length_cons]
      omega
    simp only
    split
    · exact .inl (.inr hless)
    · exact .inl ((grantCommand_takes ..).progress hless)
  next cs _ _ hcmds =>
    exact .inl ((grantCommand_takes ..).progress (by simp only [Link.waitingCount, hcmds, List.length_cons]; omega))
  next hpass =>
    exact .inl ((grantForward_takes ..).progress (by simp only [Link.waitingCount, hpass, List.length_cons]; omega))
  next hidents =>
    exact .inl ((grantIdent_takes ..).progress (by simp only [Link.waitingCount, hidents, List.length_cons]; omega))
  next =>
    split
    · exact .inl (.inl rfl)
    · exact .inr rfl

section Follow
variable {s : State}

theorem grantUpTo_filled (h : s.link.slot.isSome = true) (n : Nat) : grantUpTo n s = s := by
  cases n with
  | zero => rfl
  | succ n => exact if_pos h

theorem grantUpTo_same (h : grantOnce s = s) (n : Nat) : grantUpTo n s = s := by
  induction n with
  | zero => rfl
  | succ n ih =>
    rw [grantUpTo, h, ih]
    exact ite_self _

theorem grantUpTo_succ (h : s.link.slot = none) (n : Nat) : grantUpTo (n + 1) s = grantUpTo n (grantOnce s) :=
  if_neg (by simp [h])

/-- Any number of considerations above what waits comes to the same. -/
theorem grantUpTo_enough {n m : Nat} (hn : s.link.waitingCount < n) (hm : s.link.waitingCount < m) :
    grantUpTo n s = grantUpTo m s := by
  induction n generalizing s m with
  | zero => exact absurd hn (Nat.not_lt_zero _)
  | succ n ih =>
    obtain ⟨m, rfl⟩ := Nat.exists_eq_succ_of_ne_zero (Nat.ne_zero_of_lt hm)
    by_cases hslot : s.link.slot.isSome = true
    · rw [grantUpTo_filled hslot, grantUpTo_filled hslot]
    · have hnone : s.link.slot = none := by simpa using hslot
      rcases grantOnce_progress s with hsent | hless | hsame
      · rw [grantUpTo_succ hnone, grantUpTo_succ hnone, grantUpTo_filled hsent, grantUpTo_filled hsent]
      · rw [grantUpTo_succ hnone, grantUpTo_succ hnone]
        exact ih (by omega) (by omega)
      · rw [grantUpTo_same hsame, grantUpTo_same hsame]

theorem waitingCount_lt_bound (l : Link) : l.waitingCount < l.cmds.length + l.pass.length + l.idents.length + 2 := by
  have : l.reissue.toList.length ≤ 1 := by cases l.reissue <;> simp
  unfold Link.waitingCount
  omega

theorem exec_grant_filled (h : s.link.slot ≠ none) : exec .grant s = .next s :=
  congrArg Host.Outcome.next (grantUpTo_filled (Option.isSome_iff_ne_none.2 h) _)

theorem exec_grant_nothing (h : grantOnce s = s) : exec .grant s = .next s :=
  congrArg Host.Outcome.next (grantUpTo_same h _)

theorem exec_grant_sent {t : State} (h : s.link.slot = none) (ht : grantOnce s = t) (hsent : t.link.slot.isSome = true) :
    exec .grant s = .next t := by
  subst ht
  exact congrArg Host.Outcome.next ((grantUpTo_succ h _).trans (grantUpTo_filled hsent _))

/-- Where a consideration took up something and sent nothing, the arbiter grants again at once (R176, R177). -/
theorem exec_grant_again {t : State} (h : s.link.slot = none) (ht : grantOnce s = t)
    (hless : t.link.waitingCount < s.link.waitingCount) : exec .grant s = exec .grant t := by
  subst ht
  have hbound := waitingCount_lt_bound s.link
  have hbound' := waitingCount_lt_bound (grantOnce s).link
  exact congrArg Host.Outcome.next ((grantUpTo_succ h _).trans (grantUpTo_enough (by omega) (by omega)))

end Follow

/-! ### What is sent and what is dropped -/

/-- The state with a frame to an entry in the slot of what is left of the link (R171, R185). -/
def State.sending (s : State) (i : Fin 8) (kind : MsgKind) (payload : List Byte) (origin : Origin) (l : Link) : State :=
  { s with link := { l with
    slot := some ⟨⟨s.cfg.trains[i].busAddress, s.link.tag, kind, payload⟩, [s.link.speed], some i, origin, false, false⟩
    tag := (s.link.tag + 1) % 4 } }

/-- What may be sent to an entry by the state that it stands in (R177). -/
def MaySend (s : State) (c : Cmd) : Prop :=
  if c.kind = .stop then s.cfg.trains[c.entry].configured = true
  else s.trains[c.entry].state = .ready ∨ s.trains[c.entry].state = .starting ∨ s.trains[c.entry].state = .running

theorem sendable_iff (c : Cmd) (s : State) : sendable c s = true ↔ MaySend s c := by
  unfold sendable MaySend
  cases c.kind with
  | stop => simp
  | start => cases s.trains[c.entry].state <;> simp
  | set p => cases s.trains[c.entry].state <;> simp

/-- A newer SET waits for the entry of a SET (R178). -/
theorem superseded_iff (c : Cmd) (s : State) : superseded c s = true ↔
    (∃ p, c.kind = .set p) ∧ ∃ d ∈ s.link.cmds, d.entry = c.entry ∧ ∃ p, d.kind = .set p := by
  have hset : ∀ d : Cmd, d.isSetFor c.entry = true ↔ d.entry = c.entry ∧ ∃ p, d.kind = .set p := fun d => by
    unfold Cmd.isSetFor
    cases d.kind <;> simp
  simp only [superseded, Bool.and_eq_true, List.any_eq_true, hset, true_and]

/-! ### The classes in their order (R176) -/

section Classes
variable {s : State} (hslot : s.link.slot = none)
include hslot

theorem exec_grant_broadcast {v : Speed} (h : s.link.speedPending = some v) :
    exec .grant s = .next (grantBroadcast v s) :=
  exec_grant_sent hslot (by simp only [grantOnce, h]) rfl

/-- A dispatch command taken up: sent, or handled as dropped (R177, R178). -/
theorem exec_grant_command {c : Cmd} {reissued : Bool} {l : Link}
    (honce : grantOnce s = grantCommand c reissued { s with link := l }) (htag : l.tag = s.link.tag)
    (hspeed : l.speed = s.link.speed) (hless : l.waitingCount < s.link.waitingCount) :
    (MaySend s c → exec .grant s = .next (s.sending c.entry c.kind.msg c.kind.payload (.command c reissued) l)) ∧
    (¬MaySend s c → exec .grant s = exec .grant (dropCmd c { s with link := l })) := by
  have hmay : sendable c { s with link := l } = true ↔ MaySend s c := sendable_iff c { s with link := l }
  refine ⟨fun h => exec_grant_sent hslot (honce.trans ?_) rfl, fun h => exec_grant_again hslot (honce.trans ?_) ?_⟩
  · rw [grantCommand, if_pos (hmay.2 h)]
    simp only [sendTo, State.sending, htag, hspeed]
  · exact if_neg (mt hmay.1 h)
  · rw [dropCmd_link]
    exact hless

omit hslot in
theorem waitingCount_reissue {c : Cmd} (hre : s.link.reissue = some c) :
    ({ s.link with reissue := none } : Link).waitingCount < s.link.waitingCount := by
  simp only [Link.waitingCount, hre, Option.toList, List.length_nil, List.length_cons]
  omega

section Reissue
variable {c : Cmd} (hspeed : s.link.speedPending = none) (hre : s.link.reissue = some c)
include hspeed hre

theorem exec_grant_superseded (h : superseded c s = true) :
    exec .grant s = exec .grant { s with link := { s.link with reissue := none } } :=
  exec_grant_again hslot (by simp only [grantOnce, hspeed, hre, h, if_true]) (waitingCount_reissue hre)

theorem exec_grant_reissue (h : ¬superseded c s = true) :
    (MaySend s c → exec .grant s = .next (s.sending c.entry c.kind.msg c.kind.payload (.command c true)
      { s.link with reissue := none })) ∧
    (¬MaySend s c → exec .grant s = exec .grant (dropCmd c { s with link := { s.link with reissue := none } })) :=
  exec_grant_command hslot (by simp only [grantOnce, hspeed, hre, h, Bool.false_eq_true, if_false]) rfl rfl
    (waitingCount_reissue hre)

end Reissue

section Rest
variable (hspeed : s.link.speedPending = none) (hre : s.link.reissue = none)
include hspeed hre

theorem exec_grant_first {c : Cmd} {cs : List Cmd} (hcmds : s.link.cmds = c :: cs) :
    (MaySend s c → exec .grant s = .next (s.sending c.entry c.kind.msg c.kind.payload (.command c false)
      { s.link with cmds := cs })) ∧
    (¬MaySend s c → exec .grant s = exec .grant (dropCmd c { s with link := { s.link with cmds := cs } })) :=
  exec_grant_command hslot (by simp only [grantOnce, hspeed, hre, hcmds]) rfl rfl
    (by simp only [Link.waitingCount, hcmds, List.length_cons]; omega)

variable (hcmds : s.link.cmds = [])
include hcmds

/-- A forwarded message taken up: sent, or answered that it may not be (R188). -/
theorem exec_grant_forward {f : Fwd} {fs : List Fwd} (hpass : s.link.pass = f :: fs) :
    (s.cfg.trains[f.entry].configured = false →
      exec .grant s = exec .grant (answerOwed f .noRecord .empty { s with link := { s.link with pass := fs } })) ∧
    (s.cfg.trains[f.entry].configured = true → f.kind = .diagWrite → ¬s.trains[f.entry].state.writable = true →
      exec .grant s = exec .grant (answerOwed f .owned .empty { s with link := { s.link with pass := fs } })) ∧
    (s.cfg.trains[f.entry].configured = true → (f.kind = .diagWrite → s.trains[f.entry].state.writable = true) →
      exec .grant s = .next (s.sending f.entry f.kind f.payload (.passThrough f) { s.link with pass := fs })) := by
  have honce : grantOnce s = grantForward f { s with link := { s.link with pass := fs } } := by
    simp only [grantOnce, hspeed, hre, hcmds, hpass]
  have hless : ({ s.link with pass := fs } : Link).waitingCount < s.link.waitingCount := by
    simp only [Link.waitingCount, hpass, List.length_cons]
    omega
  refine ⟨fun hconf => exec_grant_again hslot (honce.trans (if_pos hconf)) ?_,
    fun hconf hkind hw => exec_grant_again hslot (honce.trans ?_) ?_,
    fun hconf hw => exec_grant_sent hslot (honce.trans ?_) rfl⟩
  · rw [answerOwed_link]
    exact hless
  · rw [grantForward, if_neg (ne_false_of_eq_true hconf), if_pos ⟨hkind, Bool.eq_false_iff.2 hw⟩]
  · rw [answerOwed_link]
    exact hless
  · rw [grantForward, if_neg (ne_false_of_eq_true hconf), if_neg fun h => ne_false_of_eq_true (hw h.1) h.2]
    rfl

variable (hpass : s.link.pass = [])
include hpass

theorem exec_grant_ident {i : Fin 8} {is : List (Fin 8)} (hidents : s.link.idents = i :: is) :
    (s.cfg.trains[i].configured = true →
      exec .grant s = .next (s.sending i .ident [] .ident { s.link with idents := is })) ∧
    (s.cfg.trains[i].configured = false → exec .grant s = exec .grant { s with link := { s.link with idents := is } }) := by
  have honce : grantOnce s = grantIdent i { s with link := { s.link with idents := is } } := by
    simp only [grantOnce, hspeed, hre, hcmds, hpass, hidents]
  refine ⟨fun hconf => exec_grant_sent hslot (honce.trans (if_pos hconf)) rfl,
    fun hconf => exec_grant_again hslot (honce.trans (if_neg (ne_true_of_eq_false hconf))) ?_⟩
  simp only [Link.waitingCount, hidents, List.length_cons]
  omega

end Rest

end Classes

/-! ### Polls (R179) -/

/-- How far an entry stands above last polled, counting round (R179). -/
def pollDistance (last : Nat) (i : Fin 8) : Nat := (i.val + 8 - last) % 8

theorem mem_pollOrder (last : Nat) (i : Fin 8) : i ∈ pollOrder last := by
  simp only [pollOrder, List.mem_append, List.mem_filter, List.mem_finRange, true_and, decide_eq_true_iff]
  omega

theorem pollOrder_pairwise {last : Nat} (h : last ≤ 8) :
    (pollOrder last).Pairwise fun i j => pollDistance last i < pollDistance last j := by
  interval_cases last <;> decide

/-- In a list sorted by a measure, a search finds the one of least measure among those it looks for. -/
theorem find?_of_least {α : Type} {d : α → Nat} {p : α → Bool} {l : List α} {a : α}
    (hl : l.Pairwise fun x y => d x < d y) (ha : a ∈ l) (hp : p a = true) (hmin : ∀ b ∈ l, p b = true → d a ≤ d b) :
    l.find? p = some a := by
  induction l with
  | nil => cases ha
  | cons x l ih =>
    obtain ⟨hx, hl⟩ := List.pairwise_cons.1 hl
    rcases List.mem_cons.1 ha with rfl | ha
    · exact List.find?_cons_of_pos hp
    · have hnot : ¬p x = true := fun hpx => Nat.lt_irrefl _ ((hx a ha).trans_le (hmin x List.mem_cons_self hpx))
      rw [List.find?_cons_of_neg hnot]
      exact ih hl ha fun b hb => hmin b (List.mem_cons_of_mem _ hb)

theorem pollIsDue_iff (s : State) (i : Fin 8) : pollIsDue s i = true ↔ ∃ m, s.link.polls[i] = some m ∧ m.due = true := by
  unfold pollIsDue
  cases s.link.polls[i] <;> simp

section Poll
variable {s : State} (hslot : s.link.slot = none) (hspeed : s.link.speedPending = none) (hre : s.link.reissue = none)
  (hcmds : s.link.cmds = []) (hpass : s.link.pass = []) (hidents : s.link.idents = [])
include hspeed hre hcmds hpass hidents

theorem exec_grant_idle (h : ∀ i : Fin 8, ¬pollIsDue s i = true) : exec .grant s = .next s := by
  have hfind : (pollOrder s.link.lastPolled).find? (pollIsDue s) = none := List.find?_eq_none.2 fun i _ => h i
  exact exec_grant_nothing (by simp only [grantOnce, hspeed, hre, hcmds, hpass, hidents, hfind])

include hslot

theorem exec_grant_poll {i : Fin 8} (hlast : s.link.lastPolled ≤ 8) (hdue : pollIsDue s i = true)
    (hmin : ∀ j : Fin 8, pollIsDue s j = true → pollDistance s.link.lastPolled i ≤ pollDistance s.link.lastPolled j) :
    exec .grant s = .next (grantPoll i s) := by
  have hfind : (pollOrder s.link.lastPolled).find? (pollIsDue s) = some i :=
    find?_of_least (pollOrder_pairwise hlast) (mem_pollOrder _ i) hdue fun j _ => hmin j
  exact exec_grant_sent hslot (by simp only [grantOnce, hspeed, hre, hcmds, hpass, hidents, hfind]) rfl

end Poll

/-! ### The statement's own words -/

/-- The address of a frame sent, by the kind and the index of its entry (R98). -/
theorem sending_eq (s : State) (i : Fin 8) (kind : MsgKind) (payload : List Byte) (origin : Origin) (l : Link) :
    s.sending i kind payload origin l = { s with link := { l with
      slot := some ⟨⟨s.cfg.trains[i].index + (match s.cfg.trains[i].kind with | .compressor => 192 | .expander => 208),
        s.link.tag, kind, payload⟩, [s.link.speed], some i, origin, false, false⟩
      tag := (s.link.tag + 1) % 4 } } := by
  rw [State.sending, busAddress_eq]

/-- Settles O48: the queue by the command that joins it, and the grant class by class. -/
theorem grantByClass : Obligations.GrantByClass := by
  unfold Obligations.GrantByClass
  refine ⟨fun q i => ?_, fun s => ?_⟩
  · intro isSet single others
    have hset : isSet = Cmd.isSetFor i := funext (isSetFor_eq i)
    refine ⟨fun p => ?_, ?_, rfl, fun c => enqueue_keys_nodup c⟩
    · rw [hset]
      rfl
    · have hothers : others = q.filter fun c => !c.isSetFor i := by simp only [others, hset]
      rw [hothers]
      rfl
  · intro busOf send may payloadOf kindOf_ dropped newer writable
    have hsend : ∀ i kind payload origin l, s.sending i kind payload origin l = send i kind payload origin l := sending_eq s
    have hpayload : ∀ c : Cmd, c.kind.payload = payloadOf c := fun c => by
      cases hk : c.kind <;> simp [payloadOf, hk, CmdKind.payload]
    have hkind : ∀ c : Cmd, c.kind.msg = kindOf_ c := fun c => by
      cases hk : c.kind <;> simp [kindOf_, hk, CmdKind.msg]
    have hdropped : ∀ c l, dropCmd c { s with link := l } = dropped c l := fun c l => by
      cases hk : c.kind <;> simp [dropCmd, dropped, hk]
    have hnewer : ∀ c, superseded c s = true ↔ newer c := fun c => superseded_iff c s
    have hwritable : ∀ i : Fin 8, s.trains[i].state.writable = true ↔ writable i := fun i => writable_iff _
    refine ⟨exec_grant_filled, fun hslot => ⟨fun v hv => ?_, fun hspeed => ⟨fun c hre => ?_, fun hre => ?_⟩⟩⟩
    · rw [exec_grant_broadcast hslot hv]
      cases v <;> rfl
    · intro l
      refine ⟨fun hnew => exec_grant_superseded hslot hspeed hre ((hnewer c).2 hnew), fun hnew hmay => ?_,
        fun hnew hmay => ?_⟩
      · rw [(exec_grant_reissue hslot hspeed hre (mt (hnewer c).1 hnew)).1 hmay, hsend, hkind, hpayload]
      · rw [(exec_grant_reissue hslot hspeed hre (mt (hnewer c).1 hnew)).2 hmay, hdropped]
    · refine ⟨fun c cs hcmds => ⟨fun hmay => ?_, fun hmay => ?_⟩, fun hcmds => ⟨fun f fs hpass => ?_, fun hpass =>
        ⟨fun i is hidents => ⟨fun hconf => ?_, fun hconf => ?_⟩, fun hidents => ⟨fun i m hlast hi hdue hmin => ?_,
          fun hnone => ?_⟩⟩⟩⟩
      · rw [(exec_grant_first hslot hspeed hre hcmds).1 hmay, hsend, hkind, hpayload]
      · rw [(exec_grant_first hslot hspeed hre hcmds).2 hmay, hdropped]
      · obtain ⟨hnoRecord, howned, hsent⟩ := exec_grant_forward hslot hspeed hre hcmds hpass
        refine ⟨fun hconf => (hnoRecord hconf).trans ?_,
          fun hconf hdiag hw => (howned hconf hdiag (mt (hwritable _).1 hw)).trans ?_, fun hconf hw => ?_⟩
        · rw [answerOwed_eq]
        · rw [answerOwed_eq]
        · rw [hsent hconf fun hdiag => (hwritable _).2 (hw hdiag), hsend]
      · rw [(exec_grant_ident hslot hspeed hre hcmds hpass hidents).1 hconf, hsend]
      · exact (exec_grant_ident hslot hspeed hre hcmds hpass hidents).2 hconf
      · rw [exec_grant_poll hslot hspeed hre hcmds hpass hidents hlast ((pollIsDue_iff s i).2 ⟨m, hi, hdue⟩), ← hsend]
        · rfl
        · intro j hj
          obtain ⟨m', hm', hdue'⟩ := (pollIsDue_iff s j).1 hj
          exact hmin j m' hm' hdue'
      · refine exec_grant_idle hspeed hre hcmds hpass hidents fun j hj => ?_
        obtain ⟨m', hm', hdue'⟩ := (pollIsDue_iff s j).1 hj
        exact ne_false_of_eq_true hdue' (hnone j m' hm')

end Sys2Proof.Machine
end

section
/-! SUPPORT. Numbers as bytes, most significant first (R202), and codes that are positions in a list. -/

namespace Sys2Proof

@[simp] theorem length_beBytes (w n : Nat) : (beBytes w n).length = w := by
  induction w with
  | zero => rfl
  | succ w ih => rw [beBytes, List.length_cons, ih]

theorem beBytes_one (n : Nat) : beBytes 1 n = [BitVec.ofNat 8 n] := by
  simp [beBytes]

theorem beBytes_two (n : Nat) : beBytes 2 n = [BitVec.ofNat 8 (n / 256), BitVec.ofNat 8 n] := by
  simp [beBytes]

/-- Bytes spell the number that they were written from, up to their room (R202). -/
theorem beNat_beBytes (w n : Nat) : beNat (beBytes w n) = n % 256 ^ w := by
  induction w with
  | zero => simp [beBytes, beNat, Nat.mod_one]
  | succ w ih =>
    have hbyte : (BitVec.ofNat 8 (n / 256 ^ w)).toNat = n / 256 ^ w % 256 := BitVec.toNat_ofNat _ _
    rw [beBytes, beNat, ih, length_beBytes, hbyte, Nat.pow_succ, Nat.mod_mul, Nat.add_comm, Nat.mul_comm]

theorem beNat_append (xs ys : List Byte) : beNat (xs ++ ys) = beNat xs * 256 ^ ys.length + beNat ys := by
  induction xs with
  | nil => simp [beNat]
  | cons b xs ih =>
    rw [List.cons_append, beNat, beNat, ih, List.length_append, Nat.pow_add]
    ring

theorem beNat_lt (bs : List Byte) : beNat bs < 256 ^ bs.length := by
  induction bs with
  | nil => simp [beNat]
  | cons b bs ih =>
    have hb : b.toNat + 1 ≤ 256 := b.isLt
    calc beNat (b :: bs) < (b.toNat + 1) * 256 ^ bs.length := by rw [beNat, Nat.add_mul, Nat.one_mul]; omega
      _ ≤ 256 ^ (b :: bs).length := by rw [List.length_cons, Nat.pow_succ']; exact Nat.mul_le_mul_right _ hb

/-- The number that bytes spell, taken up byte by byte. -/
theorem foldl_eq_beNat (bs : List Byte) : bs.foldl (fun n b => n * 256 + b.toNat) 0 = beNat bs := by
  induction bs using List.reverseRecOn with
  | nil => rfl
  | append_singleton bs b ih => simp [ih, beNat_append, beNat]

theorem beNat_injective {xs ys : List Byte} (hlen : xs.length = ys.length) (h : beNat xs = beNat ys) : xs = ys := by
  induction xs generalizing ys with
  | nil => exact (List.length_eq_zero_iff.1 hlen.symm).symm
  | cons x xs ih =>
    obtain _ | ⟨y, ys⟩ := ys
    · cases hlen
    · have hlen' : xs.length = ys.length := Nat.succ.inj hlen
      have hx := beNat_lt xs
      have hy := beNat_lt ys
      rw [beNat, beNat, hlen'] at h
      rw [hlen'] at hx
      have hdiv : ∀ a n : Nat, n < 256 ^ ys.length → (a * 256 ^ ys.length + n) / 256 ^ ys.length = a := fun a n hn => by
        rw [Nat.mul_comm, Nat.mul_add_div (Nat.pow_pos (by decide)), Nat.div_eq_of_lt hn, Nat.add_zero]
      have hhead : x.toNat = y.toNat := by rw [← hdiv x.toNat _ hx, h, hdiv y.toNat _ hy]
      rw [hhead] at h
      rw [BitVec.eq_of_toNat_eq hhead, ih hlen' (Nat.add_left_cancel h)]

/-- Bytes are those that their number is written in. -/
theorem beBytes_beNat {bs : List Byte} {w : Nat} (h : bs.length = w) : beBytes w (beNat bs) = bs := by
  refine beNat_injective (by rw [length_beBytes, h]) ?_
  rw [beNat_beBytes, ← h, Nat.mod_eq_of_lt (beNat_lt bs)]

/-- A code that counts a list's values from `o` gives the value at position `k` the code `o + k` (R202). -/
theorem code_of_getElem? {α : Type} {code : α → Nat} {o : Nat} {l : List α}
    (hl : l.map code = List.range' o l.length) {k : Nat} {a : α} (h : l[k]? = some a) : code a = o + k := by
  have hk : k < l.length := (List.getElem?_eq_some_iff.1 h).1
  have hcode : (l.map code)[k]? = some (code a) := by rw [List.getElem?_map, h, Option.map_some]
  rw [hl, List.getElem?_range' hk] at hcode
  simpa using hcode.symm

end Sys2Proof
end

section
/-! SUPPORT. The unit link's check and frames (R171, R174, R204): the check bit by bit, and the bytes that split into fields. -/

namespace Sys2Proof.Machine

/-! ### The check -/

theorem crcBit_eq (c : Crc) (bit : Bool) :
    crcBit c bit = if c.getLsbD 15 = bit then c <<< 1 else (c <<< 1) ^^^ 0x1021#16 := by
  unfold crcBit
  cases c.getLsbD 15 <;> cases bit <;> rfl

theorem crcByte_eq (c : Crc) (b : Byte) : crcByte c b = (List.range 8).foldl (fun (c : Crc) k =>
    if c.getLsbD 15 = b.getLsbD (7 - k) then c <<< 1 else (c <<< 1) ^^^ 0x1021#16) c := by
  have horder : [7, 6, 5, 4, 3, 2, 1, 0] = (List.range 8).map fun k => 7 - k := rfl
  rw [crcByte, horder, List.foldl_map]
  simp only [crcBit_eq]

/-! ### Frames split into their fields -/

/-- The bytes of a frame before its check, from its fields (R204). -/
def frameBody (address tag code : Nat) (payload : List Byte) : List Byte :=
  [BitVec.ofNat 8 address, BitVec.ofNat 8 (tag * 64 + code), BitVec.ofNat 8 payload.length] ++ payload

theorem body_eq_frameBody (f : Frame) : f.body = frameBody f.address f.tag f.kind.code f.payload := by
  rw [Frame.body, beBytes_one, beBytes_one, beBytes_one]
  rfl

theorem length_crcBytes (bs : List Byte) : (beBytes 2 (crcOf bs).toNat).length = 2 := length_beBytes ..

theorem beNat_crcBytes (bs : List Byte) : beNat (beBytes 2 (crcOf bs).toNat) = (crcOf bs).toNat := by
  rw [beNat_beBytes]
  exact Nat.mod_eq_of_lt (crcOf bs).isLt

/-- The bytes that fields and their check make split into those fields (R174 step 1). -/
theorem splitFrame_frameBody {address tag code : Nat} {payload : List Byte} (haddress : address < 256) (htag : tag < 4)
    (hcode : code < 64) (hlen : payload.length ≤ 16) :
    splitFrame (frameBody address tag code payload ++ beBytes 2 (crcOf (frameBody address tag code payload)).toNat) =
      some (address, tag, code, payload) := by
  have hl : (BitVec.ofNat 8 payload.length).toNat = payload.length := Nat.mod_eq_of_lt (by omega)
  have ha : (BitVec.ofNat 8 address).toNat = address := Nat.mod_eq_of_lt haddress
  have htk : (BitVec.ofNat 8 (tag * 64 + code)).toNat = tag * 64 + code := Nat.mod_eq_of_lt (by omega)
  have htake : ∀ check : List Byte, (payload ++ check).take payload.length = payload := fun _ => List.take_left
  have hdrop : ∀ check : List Byte, (payload ++ check).drop payload.length = check := fun _ => List.drop_left
  have hsum : ¬(16 < payload.length ∨
      (payload ++ beBytes 2 (crcOf (frameBody address tag code payload)).toNat).length ≠ payload.length + 2) := by
    simp [hlen]
  generalize hcheck : beBytes 2 (crcOf (frameBody address tag code payload)).toNat = check at hsum ⊢
  have hbe : beNat check = (crcOf (frameBody address tag code payload)).toNat := by rw [← hcheck, beNat_crcBytes]
  simp only [frameBody, List.cons_append, List.nil_append] at hbe ⊢
  simp only [splitFrame, hl, ha, htk, htake, hdrop, if_neg hsum, hbe, if_true]
  have hdiv : (tag * 64 + code) / 64 = tag := by omega
  have hmod : (tag * 64 + code) % 64 = code := by omega
  rw [hdiv, hmod]

/-- What splits is made of its fields and their check (R174 step 1). -/
theorem eq_frameBody_of_splitFrame {bytes : List Byte} {address tag code : Nat} {payload : List Byte}
    (h : splitFrame bytes = some (address, tag, code, payload)) :
    address < 256 ∧ tag < 4 ∧ code < 64 ∧ payload.length ≤ 16 ∧
      bytes = frameBody address tag code payload ++ beBytes 2 (crcOf (frameBody address tag code payload)).toNat := by
  unfold splitFrame at h
  split at h
  next a tk l rest =>
    split at h
    · cases h
    next hlen =>
      rw [not_or, Nat.not_lt, not_not] at hlen
      obtain ⟨hl, hrest⟩ := hlen
      simp only at h
      split at h
      next hcheck =>
        cases h
        have htk := tk.isLt
        have hpayload : (rest.take l.toNat).length = l.toNat := by rw [List.length_take]; omega
        have hbody : a :: tk :: l :: rest.take l.toNat =
            frameBody a.toNat (tk.toNat / 64) (tk.toNat % 64) (rest.take l.toNat) := by
          have hjoin : tk.toNat / 64 * 64 + tk.toNat % 64 = tk.toNat := by omega
          simp only [frameBody, hpayload, hjoin, BitVec.ofNat_toNat, BitVec.setWidth_eq, List.cons_append, List.nil_append]
        have hbytes : beBytes 2 (beNat (rest.drop l.toNat)) = rest.drop l.toNat :=
          beBytes_beNat (by rw [List.length_drop]; omega)
        refine ⟨a.isLt, by omega, Nat.mod_lt _ (by decide), by omega, ?_⟩
        rw [← hbody, ← hcheck, hbytes]
        simp
      · cases h
  · cases h

theorem splitFrame_eq_some_iff {bytes : List Byte} {address tag code : Nat} {payload : List Byte} :
    splitFrame bytes = some (address, tag, code, payload) ↔
    address < 256 ∧ tag < 4 ∧ code < 64 ∧ payload.length ≤ 16 ∧
      bytes = frameBody address tag code payload ++ beBytes 2 (crcOf (frameBody address tag code payload)).toNat := by
  refine ⟨eq_frameBody_of_splitFrame, ?_⟩
  rintro ⟨haddress, htag, hcode, hlen, rfl⟩
  exact splitFrame_frameBody haddress htag hcode hlen

theorem splitFrame_bytes (f : Frame) (haddress : f.address < 256) (htag : f.tag < 4) (hlen : f.payload.length ≤ 16) :
    splitFrame f.bytes = some (f.address, f.tag, f.kind.code, f.payload) := by
  have hcode : f.kind.code < 64 := by cases f.kind <;> decide
  rw [Frame.bytes, body_eq_frameBody]
  exact splitFrame_frameBody haddress htag hcode hlen

end Sys2Proof.Machine
end

section
/-! SUPPORT. The judgement of a reply (R172, R174, R204): the contents of STATUS and ANNOUNCE by their bytes, and the tests in
their order. -/

namespace Sys2Proof.Machine

/-! ### The bytes of a payload -/

/-- The byte of a payload at a place; 0 past its end. -/
def byteAt (p : List Byte) (k : Nat) : Nat := (p[k]?.getD 0#8).toNat

/-- The three-byte power of a payload at a place (R204; log entry 48). -/
def powerAt (p : List Byte) (k : Nat) : Nat := byteAt p k * 65536 + byteAt p (k + 1) * 256 + byteAt p (k + 2)

theorem byteAt_lt (p : List Byte) (k : Nat) : byteAt p k < 256 := (p[k]?.getD 0#8).isLt

theorem beNat_take_one (p : List Byte) : beNat (p.take 1) = byteAt p 0 := by
  cases p with
  | nil => rfl
  | cons b p => simp [beNat, byteAt]

/-- A byte at a place before the end is the first of what is left from there. -/
theorem drop_eq_byteAt_cons {p : List Byte} {k : Nat} (h : k < p.length) :
    p.drop k = BitVec.ofNat 8 (byteAt p k) :: p.drop (k + 1) := by
  rw [List.drop_eq_getElem_cons h, byteAt, List.getElem?_eq_getElem h, Option.getD_some, BitVec.ofNat_toNat,
    BitVec.setWidth_eq]

theorem toNat_byteAt (p : List Byte) (k : Nat) : (BitVec.ofNat 8 (byteAt p k)).toNat = byteAt p k :=
  Nat.mod_eq_of_lt (byteAt_lt p k)

theorem beNat_two_at {p : List Byte} {k : Nat} (h : k + 2 ≤ p.length) :
    beNat ((p.drop k).take 2) = byteAt p k * 256 + byteAt p (k + 1) := by
  rw [drop_eq_byteAt_cons (by omega), drop_eq_byteAt_cons (by omega)]
  simp only [List.take_succ_cons, List.take_zero, beNat, toNat_byteAt, List.length_cons, List.length_nil]
  omega

theorem beNat_three_at {p : List Byte} {k : Nat} (h : k + 3 ≤ p.length) :
    beNat ((p.drop k).take 3) = powerAt p k := by
  rw [drop_eq_byteAt_cons (by omega), drop_eq_byteAt_cons (by omega), drop_eq_byteAt_cons (by omega)]
  simp only [List.take_succ_cons, List.take_zero, beNat, toNat_byteAt, List.length_cons, List.length_nil, powerAt,
    Nat.add_assoc, Nat.reduceAdd]
  omega

/-! ### STATUS -/

theorem reportedOf_isSome_iff (n : Nat) : (reportedOf n).isSome = true ↔ n ≤ 4 := by
  constructor
  · intro h
    by_contra hgt
    obtain ⟨m, rfl⟩ := Nat.exists_eq_add_of_le' (Nat.not_le.1 hgt)
    cases h
  · intro h
    interval_cases n <;> rfl

/-- The state that a code stands for (R204). -/
theorem code_of_reportedOf {n : Nat} {st : ReportedState} (h : reportedOf n = some st) :
    (n = 0 → st = .stopped) ∧ (n = 1 → st = .starting) ∧ (n = 2 → st = .running) ∧ (n = 3 → st = .stopping) ∧
      (n = 4 → st = .fault) := by
  unfold reportedOf at h
  split at h <;> cases h <;> simp

/-- A STATUS payload is well formed (R204). -/
def StatusFormed (p : List Byte) : Prop := 6 ≤ p.length ∧ p.length ≤ 15 ∧ byteAt p 0 ≤ 4 ∧ powerAt p 1 ≤ 150000

theorem parseStatus_of_formed {p : List Byte} (h : StatusFormed p) : ∃ r : Report,
    parseStatus p = some r ∧ reportedOf (byteAt p 0) = some r.state ∧ r.kw = powerAt p 1 ∧
      r.fault = byteAt p 4 * 256 + byteAt p 5 := by
  obtain ⟨hmin, hmax, hstate, hkw⟩ := h
  obtain ⟨st, hst⟩ := Option.isSome_iff_exists.1 ((reportedOf_isSome_iff _).2 hstate)
  refine ⟨⟨st, powerAt p 1, byteAt p 4 * 256 + byteAt p 5⟩, ?_, hst, rfl, rfl⟩
  have hpower : beNat ((p.drop 1).take 3) = powerAt p 1 := beNat_three_at (by omega)
  have hfault : beNat ((p.drop 4).take 2) = byteAt p 4 * 256 + byteAt p 5 := beNat_two_at (by omega)
  rw [parseStatus, if_pos ⟨hmin, hmax⟩, hpower, hfault, beNat_take_one]
  simp only [hst, if_pos hkw]

theorem formed_of_parseStatus {p : List Byte} (h : (parseStatus p).isSome = true) : StatusFormed p := by
  unfold parseStatus at h
  split at h
  next hlen =>
    simp only [beNat_take_one, beNat_three_at (show 1 + 3 ≤ p.length by omega)] at h
    split at h
    next st hst =>
      split at h
      next hkw => exact ⟨hlen.1, hlen.2, (reportedOf_isSome_iff _).1 (by rw [hst, Option.isSome_some]), hkw⟩
      · cases h
    · cases h
  · cases h

theorem parseStatus_isSome_iff (p : List Byte) : (parseStatus p).isSome = true ↔ StatusFormed p := by
  refine ⟨formed_of_parseStatus, fun h => ?_⟩
  obtain ⟨r, hr, -⟩ := parseStatus_of_formed h
  rw [hr, Option.isSome_some]

/-! ### ANNOUNCE -/

/-- The six-bit code of a packed name at a place (R204). -/
def letterAt (p : List Byte) (k : Nat) : Nat := beNat (p.drop 7) / 64 ^ (11 - k) % 64

/-- The twelve codes of a packed name are a name of `n` characters (R96, R204). -/
def NamedBy (letter : Nat → Nat) (n : Nat) : Prop :=
  1 ≤ n ∧ n ≤ 12 ∧ (∀ k, k < n → 1 ≤ letter k ∧ letter k ≤ 40) ∧ ∀ k, n ≤ k → k < 12 → letter k = 0

theorem unpackName_eq (p : List Byte) : unpackName (p.drop 7) = (List.range 12).map (letterAt p) := rfl

theorem nameCodes_range_iff (letter : Nat → Nat) :
    NameCodes ((List.range 12).map letter) ↔ ∃ n, NamedBy letter n := by
  refine exists_congr fun n => ?_
  simp only [NamedBy, List.length_map, List.length_range, List.getElem_map, List.getElem_range]
  refine and_congr_right fun _ => and_congr_right fun hn => ⟨fun h => ⟨fun k hk => ?_, fun k hle hk => ?_⟩,
    fun h k hk => ⟨h.1 k, fun hle => h.2 k hle hk⟩⟩
  · exact (h k (by omega)).1 hk
  · exact (h k hk).2 hle

theorem nameOf_range {letter : Nat → Nat} {n : Nat} (h : NamedBy letter n) :
    nameOf ((List.range 12).map letter) = some ((List.range n).map letter) := by
  obtain ⟨hpos, hle, hchar, hzero⟩ := h
  have htake : ((List.range 12).map letter).takeWhile (fun c => c != 0) = ((List.range 12).map letter).take n := by
    refine takeWhile_eq_take fun k hk => ?_
    simp only [List.length_map, List.length_range] at hk
    simp only [List.getElem_map, List.getElem_range]
    exact ⟨fun hkn => Nat.one_le_iff_ne_zero.1 (hchar k hkn).1, fun hnk => hzero k hnk hk⟩
  rw [nameOf_eq ((nameOf_isSome_iff _).2 ((nameCodes_range_iff letter).2 ⟨n, hpos, hle, hchar, hzero⟩)), htake,
    ← List.map_take, List.take_range, Nat.min_eq_left hle]

theorem trainKindOf_isSome_iff (n : Nat) : (trainKindOf n).isSome = true ↔ n ≤ 1 := by
  rcases n with _ | _ | n <;> simp [trainKindOf]

theorem code_of_trainKindOf {n : Nat} {k : TrainKind} (h : trainKindOf n = some k) :
    (n = 0 → k = .compressor) ∧ (n = 1 → k = .expander) := by
  unfold trainKindOf at h
  split at h <;> cases h <;> simp

/-- An ANNOUNCE payload is well formed (R204). -/
def AnnounceFormed (p : List Byte) : Prop :=
  p.length = 16 ∧ byteAt p 0 / 16 ≤ 1 ∧ byteAt p 0 % 16 ≤ 4 ∧ ∃ n, NamedBy (letterAt p) n

theorem parseAnnounce_of_formed {p : List Byte} (h : AnnounceFormed p) : ∃ a : Announce,
    parseAnnounce p = some a ∧ (∀ n, NamedBy (letterAt p) n → a.name = (List.range n).map (letterAt p)) ∧
      trainKindOf (byteAt p 0 / 16) = some a.kind ∧ a.ratedKw = powerAt p 1 ∧ a.minStableKw = powerAt p 4 ∧
      reportedOf (byteAt p 0 % 16) = some a.state := by
  obtain ⟨hlen, hkind, hstate, n, hname⟩ := h
  obtain ⟨k, hk⟩ := Option.isSome_iff_exists.1 ((trainKindOf_isSome_iff _).2 hkind)
  obtain ⟨st, hst⟩ := Option.isSome_iff_exists.1 ((reportedOf_isSome_iff _).2 hstate)
  refine ⟨⟨(List.range n).map (letterAt p), k, powerAt p 1, powerAt p 4, st⟩, ?_, fun m hm => ?_, hk, rfl, rfl, hst⟩
  · have hrated : beNat ((p.drop 1).take 3) = powerAt p 1 := beNat_three_at (by omega)
    have hstable : beNat ((p.drop 4).take 3) = powerAt p 4 := beNat_three_at (by omega)
    rw [parseAnnounce, if_pos hlen, hrated, hstable, beNat_take_one, unpackName_eq, nameOf_range hname]
    simp only [hk, hst]
  · exact Option.some_injective _ ((nameOf_range hname).symm.trans (nameOf_range hm))

theorem formed_of_parseAnnounce {p : List Byte} (h : (parseAnnounce p).isSome = true) : AnnounceFormed p := by
  unfold parseAnnounce at h
  split at h
  next hlen =>
    simp only [beNat_take_one, unpackName_eq] at h
    split at h
    next k st name hk hst hname =>
      refine ⟨hlen, (trainKindOf_isSome_iff _).1 ?_, (reportedOf_isSome_iff _).1 ?_,
        (nameCodes_range_iff _).1 ((nameOf_isSome_iff _).1 ?_)⟩
      · rw [hk, Option.isSome_some]
      · rw [hst, Option.isSome_some]
      · rw [hname, Option.isSome_some]
    · cases h
  · cases h

theorem parseAnnounce_isSome_iff (p : List Byte) : (parseAnnounce p).isSome = true ↔ AnnounceFormed p := by
  refine ⟨formed_of_parseAnnounce, fun h => ?_⟩
  obtain ⟨a, ha, -⟩ := parseAnnounce_of_formed h
  rw [ha, Option.isSome_some]

/-! ### The tests in their order (R174) -/

theorem msgKindOf_eq_some_iff (n : Nat) (kind : MsgKind) : msgKindOf n = some kind ↔ kind.code = n := by
  constructor
  · intro h
    unfold msgKindOf at h
    split at h <;> cases h <;> rfl
  · rintro rfl
    cases kind <;> rfl

theorem msgKindOf_eq_none_iff (n : Nat) : msgKindOf n = none ↔ ¬(1 ≤ n ∧ n ≤ 11) := by
  constructor
  · rintro h ⟨hpos, hle⟩
    interval_cases n <;> cases h
  · intro h
    obtain rfl | hgt : n = 0 ∨ 12 ≤ n := by omega
    · rfl
    · obtain ⟨m, rfl⟩ := Nat.exists_eq_add_of_le' hgt
      rfl

/-- A payload is well formed for the kind of its code (R174 step 2, R204; log entry 28). -/
def PayloadFormed (code : Nat) (p : List Byte) : Prop :=
  if code = 1 ∨ code = 3 ∨ code = 4 ∨ code = 5 then p.length = 0
  else if code = 2 then p.length = 3
  else if code = 8 ∨ code = 11 then p.length = 1
  else if code = 6 ∨ code = 7 then p.length ≤ 16
  else if code = 9 then StatusFormed p
  else AnnounceFormed p

theorem payloadOk_iff (kind : MsgKind) (p : List Byte) : payloadOk kind p = true ↔ PayloadFormed kind.code p := by
  cases kind with
  | status => exact parseStatus_isSome_iff p
  | announce => exact parseAnnounce_isSome_iff p
  | _ => exact decide_eq_true_iff

section Judge
variable {sent : Frame} {bytes payload : List Byte} {address tag code : Nat}
  (hsplit : splitFrame bytes = some (address, tag, code, payload))
include hsplit

theorem judgeReply_unknown (h : ¬(1 ≤ code ∧ code ≤ 11)) : judgeReply sent bytes = .sequence := by
  simp only [judgeReply, hsplit, (msgKindOf_eq_none_iff code).2 h]

theorem judgeReply_known {kind : MsgKind} (hk : kind.code = code) : judgeReply sent bytes =
    if payloadOk kind payload then judgeFields sent address tag kind payload else .crc := by
  simp only [judgeReply, hsplit, (msgKindOf_eq_some_iff code kind).2 hk]

theorem judgeReply_malformed (hknown : 1 ≤ code ∧ code ≤ 11) (h : ¬PayloadFormed code payload) :
    judgeReply sent bytes = .crc := by
  obtain ⟨kind, hk⟩ := Option.ne_none_iff_exists'.1 (mt (msgKindOf_eq_none_iff code).1 (not_not.2 hknown))
  have hcode := (msgKindOf_eq_some_iff code kind).1 hk
  rw [judgeReply_known hsplit hcode]
  exact if_neg (mt (payloadOk_iff kind payload).1 (hcode ▸ h))

theorem judgeReply_formed {kind : MsgKind} (hk : kind.code = code) (h : PayloadFormed code payload) :
    judgeReply sent bytes = judgeFields sent address tag kind payload := by
  rw [judgeReply_known hsplit hk]
  exact if_pos ((payloadOk_iff kind payload).2 (hk ▸ h))

end Judge

theorem MsgKind.code_injective {k l : MsgKind} (h : k.code = l.code) : k = l :=
  Option.some_injective _ (((msgKindOf_eq_some_iff _ k).2 rfl).symm.trans ((msgKindOf_eq_some_iff _ l).2 h.symm))

/-- The code of the reply that a sent kind expects (R172). -/
theorem code_expected (k : MsgKind) : k.expected.code = if k = .ident then 10 else 9 := by
  cases k <;> rfl

/-- A reply answers the frame that was sent (R174 steps 3 to 5). -/
def Paired (sent : Frame) (address tag code : Nat) : Prop :=
  address = sent.address ∧ tag = sent.tag ∧ (code = sent.kind.expected.code ∨ code = 11)

section Fields
variable {sent : Frame} {payload : List Byte} {address tag : Nat} {kind : MsgKind}

theorem judgeFields_unpaired (h : ¬Paired sent address tag kind.code) :
    judgeFields sent address tag kind payload = .sequence := by
  unfold judgeFields
  split
  · rfl
  next hat =>
    rw [not_or, not_not, not_not] at hat
    have hkind : ¬(kind.code = sent.kind.expected.code ∨ kind.code = 11) := fun hk => h ⟨hat.1, hat.2, hk⟩
    rw [if_neg fun hr => hkind (.inr (congrArg MsgKind.code hr)),
      if_pos fun he => hkind (.inl (congrArg MsgKind.code he))]

theorem judgeFields_reject (h : Paired sent address tag MsgKind.reject.code) :
    judgeFields sent address tag .reject payload = .rejected payload := by
  simp [judgeFields, h.1, h.2.1]

theorem expected_of_paired (h : Paired sent address tag kind.code) (hne : kind.code ≠ 11) : kind = sent.kind.expected :=
  MsgKind.code_injective (h.2.2.resolve_right hne)

theorem judgeFields_status {r : Report} (h : Paired sent address tag MsgKind.status.code)
    (hr : parseStatus payload = some r) : judgeFields sent address tag .status payload = .good (.status r) payload := by
  rw [judgeFields, if_neg (by simp [h.1, h.2.1]), if_neg (by decide),
    if_neg (not_not.2 (expected_of_paired h (by decide)))]
  simp only [hr]

theorem judgeFields_announce {a : Announce} (h : Paired sent address tag MsgKind.announce.code)
    (ha : parseAnnounce payload = some a) :
    judgeFields sent address tag .announce payload = .good (.announce a) payload := by
  rw [judgeFields, if_neg (by simp [h.1, h.2.1]), if_neg (by decide),
    if_neg (not_not.2 (expected_of_paired h (by decide)))]
  simp only [ha]

end Fields

/-- Settles O51: the check bit by bit, the frames by their fields, and the judgement test by test. -/
theorem replyJudgedInOrder : Obligations.ReplyJudgedInOrder := by
  unfold Obligations.ReplyJudgedInOrder
  refine ⟨fun bytes => ?_, fun f k haddress htag hlen hk => ?_, fun sent bytes => ⟨fun address tag code payload => ?_,
    fun hsplit => ?_, fun address tag code payload hsplit => ?_⟩⟩
  · exact congrArg (fun step => bytes.foldl step 0xFFFF#16) (funext fun c => funext fun b => crcByte_eq c b)
  · rw [splitFrame_bytes f haddress htag hlen, code_of_getElem? (code := MsgKind.code) (o := 1) rfl hk, Nat.add_comm]
  · rw [splitFrame_eq_some_iff, beBytes_two]
    rfl
  · simp only [judgeReply, hsplit]
  · intro first at_ kw packed letter named formed known expected paired
    have hletter : letterAt payload = letter := by
      funext k
      simp only [letter, letterAt, packed, foldl_eq_beNat]
    have hnamed : ∀ n, NamedBy (letterAt payload) n ↔ named n := fun n => by rw [hletter]; rfl
    have hformed : PayloadFormed code payload ↔ formed := by
      simp only [PayloadFormed, AnnounceFormed, exists_congr hnamed]
      rfl
    have hpaired : paired ↔ Paired sent address tag code := by
      rw [Paired, code_expected]
    refine ⟨fun hunknown => judgeReply_unknown hsplit hunknown,
      fun hknown hbad => judgeReply_malformed hsplit hknown (mt hformed.1 hbad), fun hknown hok hun => ?_,
      fun hknown hok hp hcode => ?_, fun hknown hok hp hcode => ?_, fun hknown hok hp hcode => ?_⟩
    · obtain ⟨kind, hk⟩ := Option.ne_none_iff_exists'.1 (mt (msgKindOf_eq_none_iff code).1 (not_not.2 hknown))
      have hkcode := (msgKindOf_eq_some_iff code kind).1 hk
      rw [judgeReply_formed hsplit hkcode (hformed.2 hok), judgeFields_unpaired (hkcode ▸ mt hpaired.2 hun)]
    · subst hcode
      rw [judgeReply_formed hsplit (kind := .reject) rfl (hformed.2 hok), judgeFields_reject (hpaired.1 hp)]
    · subst hcode
      obtain ⟨r, hr, hstate, hkw, hfault⟩ := parseStatus_of_formed (p := payload) (hformed.2 hok)
      refine ⟨r, ?_, hkw, hfault, code_of_reportedOf hstate⟩
      rw [judgeReply_formed hsplit (kind := .status) rfl (hformed.2 hok), judgeFields_status (hpaired.1 hp) hr]
    · subst hcode
      obtain ⟨a, ha, hname, hkind, hrated, hstable, hstate⟩ := parseAnnounce_of_formed (p := payload) (hformed.2 hok)
      obtain ⟨hcompressor, hexpander⟩ := code_of_trainKindOf hkind
      refine ⟨a, ?_, fun n hn => ?_, hcompressor, hexpander, hrated, hstable, code_of_reportedOf hstate⟩
      · rw [judgeReply_formed hsplit (kind := .announce) rfl (hformed.2 hok), judgeFields_announce (hpaired.1 hp) ha]
      · rw [hname n ((hnamed n).2 hn), hletter]

end Sys2Proof.Machine
end

section
/-! SUPPORT. What stands at an offset of some bytes (R202, R203, R205): blocks one after another, optional fields and lists. -/

namespace Sys2Proof.Machine

/-- A block of bytes stands at an offset. -/
def Stands (b : List Byte) (o : Nat) (x : List Byte) : Prop := x <+: b.drop o

/-- The number that the bytes of a field spell (R202). -/
def numAt (b : List Byte) (o size : Nat) : Nat := beNat ((b.drop o).take size)

section Blocks
variable {b x y : List Byte} {o : Nat}

theorem stands_self (b : List Byte) : Stands b 0 b := List.prefix_rfl

/-- Two blocks one after the other. -/
theorem stands_append : Stands b o (x ++ y) ↔ Stands b o x ∧ Stands b (o + x.length) y := by
  unfold Stands
  rw [← List.drop_drop]
  constructor
  · rintro ⟨z, hz⟩
    rw [← hz, List.append_assoc]
    exact ⟨List.prefix_append .., by rw [List.drop_left]; exact List.prefix_append ..⟩
  · rintro ⟨⟨z, hz⟩, hy⟩
    rw [← hz, List.drop_left] at hy
    rw [← hz]
    exact (List.prefix_append_right_inj x).2 hy

theorem Stands.numAt_eq (h : Stands b o x) {size : Nat} (hlen : x.length = size) : numAt b o size = beNat x := by
  rw [numAt, ← hlen, ← List.prefix_iff_eq_take.1 h]

/-- A number in the room of its field is the one that its bytes spell. -/
theorem Stands.num {w n : Nat} (h : Stands b o (beBytes w n)) (hn : n < 256 ^ w) : numAt b o w = n := by
  rw [h.numAt_eq (length_beBytes w n), beNat_beBytes, Nat.mod_eq_of_lt hn]

theorem Stands.flag {f : Bool} (h : Stands b o (flagByte f)) : numAt b o 1 = if f then 1 else 0 :=
  h.num (by cases f <;> decide)

@[simp] theorem length_flagByte (f : Bool) : (flagByte f).length = 1 := length_beBytes ..

@[simp] theorem length_zeros (n : Nat) : (zeros n).length = n := List.length_replicate

theorem zeros_append (m n : Nat) : zeros m ++ zeros n = zeros (m + n) := List.replicate_append_replicate

theorem beNat_zeros (n : Nat) : beNat (zeros n) = 0 := by
  induction n with
  | zero => rfl
  | succ n ih =>
    change beNat (0#8 :: zeros n) = 0
    rw [beNat, ih]
    simp

theorem Stands.zero {n : Nat} (h : Stands b o (zeros n)) : numAt b o n = 0 := by
  rw [h.numAt_eq (length_zeros n), beNat_zeros]

/-- Zeros stand wherever they lie among zeros. -/
theorem Stands.zerosAmid {n i k : Nat} (h : Stands b o (zeros n)) (hk : i + k ≤ n) : Stands b (o + i) (zeros k) := by
  obtain ⟨m, rfl⟩ := Nat.exists_eq_add_of_le hk
  rw [← zeros_append, ← zeros_append, stands_append, stands_append, length_zeros] at h
  exact h.1.2

end Blocks

/-! ### Optional fields and lists (R202, R203) -/

section Fields
variable {α : Type} {b : List Byte} {o size : Nat} {put : α → List Byte}

theorem length_optField (hput : ∀ a, (put a).length = size) (x : Option α) : (optField size put x).length = 1 + size := by
  cases x with
  | none => simp [optField]
  | some a => simp [optField, hput]

/-- An absent field is all 0 (R202). -/
theorem Stands.absent {x : Option α} (h : Stands b o (optField size put x)) (hx : x = none) : numAt b o (1 + size) = 0 := by
  subst hx
  have hzero : Stands b o (zeros (1 + size)) := by
    rw [← zeros_append]
    exact h
  exact hzero.zero

/-- A present field is its presence byte and its value (R202). -/
theorem Stands.present {x : Option α} {a : α} (h : Stands b o (optField size put x)) (hx : x = some a) :
    numAt b o 1 = 1 ∧ Stands b (o + 1) (put a) := by
  subst hx
  obtain ⟨hpresence, hvalue⟩ := stands_append.1 h
  rw [length_beBytes] at hvalue
  exact ⟨hpresence.num (by decide), hvalue⟩

theorem length_flatMap_put (hput : ∀ a, (put a).length = size) (l : List α) : (l.flatMap put).length = size * l.length := by
  induction l with
  | nil => rfl
  | cons a l ih => rw [List.flatMap_cons, List.length_append, hput, ih, List.length_cons, Nat.mul_succ, Nat.add_comm]

/-- The items of a list stand one after another, each in the same room. -/
theorem Stands.item (hput : ∀ a, (put a).length = size) {l : List α} (h : Stands b o (l.flatMap put)) {j : Nat} {a : α}
    (ha : l[j]? = some a) : Stands b (o + size * j) (put a) := by
  induction l generalizing o j with
  | nil => cases ha
  | cons c l ih =>
    rw [List.flatMap_cons, stands_append, hput] at h
    cases j with
    | zero =>
      cases ha
      exact h.1
    | succ j =>
      rw [Nat.mul_succ, Nat.add_comm (size * j), ← Nat.add_assoc]
      exact ih h.2 ha

theorem length_putList (hput : ∀ a, (put a).length = size) {room : Nat} {l : List α} (hl : l.length ≤ room) :
    (putList put room size l).length = 1 + size * room := by
  rw [putList, List.length_append, List.length_append, length_beBytes, length_flatMap_put hput, List.length_replicate,
    Nat.mul_comm (room - l.length), Nat.add_assoc, ← Nat.mul_add, Nat.add_sub_cancel' hl]

/-- A list with room left: its count, its items, and zeros for the items that are unused (R203). -/
theorem Stands.list (hput : ∀ a, (put a).length = size) {room : Nat} {l : List α}
    (h : Stands b o (putList put room size l)) (hl : l.length ≤ room) (hroom : room < 256) :
    numAt b o 1 = l.length ∧ (∀ j a, l[j]? = some a → Stands b (o + 1 + size * j) (put a)) ∧
      ∀ j, j < room → l[j]? = none → numAt b (o + 1 + size * j) size = 0 := by
  rw [putList, stands_append, stands_append, List.length_append, length_beBytes, length_flatMap_put hput] at h
  obtain ⟨⟨hcount, hitems⟩, hpad⟩ := h
  refine ⟨hcount.num (by omega), fun j a ha => hitems.item hput ha, fun j hj hnone => ?_⟩
  have hge : l.length ≤ j := List.getElem?_eq_none_iff.1 hnone
  obtain ⟨i, rfl⟩ := Nat.exists_eq_add_of_le hge
  have hfit : size * i + size ≤ (room - l.length) * size := by
    rw [← Nat.mul_succ, Nat.mul_comm]
    exact Nat.mul_le_mul_right _ (by omega)
  have hzeros : Stands b (o + (1 + size * l.length) + size * i) (zeros size) := Stands.zerosAmid hpad hfit
  rw [Nat.mul_add, ← Nat.add_assoc, Nat.add_assoc o 1]
  exact hzeros.zero

end Fields

end Sys2Proof.Machine
end

section
/-! SUPPORT. The bodies of READ_COMMITMENT and READ_PROJECTION, block by block (R205). -/

namespace Sys2Proof.Machine

/-! ### The commitment record -/

theorem length_refusalNote (n : RefusalNote) : n.bytes.length = 6 := by simp [RefusalNote.bytes]

theorem length_amendResult (a : AmendResult) : a.bytes.length = 6 := by
  cases a <;> simp [AmendResult.bytes, length_refusalNote]

theorem length_change (c : PowerChange) : (beBytes 4 c.power ++ beBytes 4 c.since).length = 8 := by simp

theorem length_amendment (a : Amendment) :
    (beBytes 4 a.power ++ beBytes 1 a.length ++ beBytes 4 a.start).length = 9 := by simp

theorem length_sums (q : Sums) : (beBytes 4 q.due ++ beBytes 4 q.delivered).length = 8 := by simp

theorem length_record (key : Nat) (r : Record) : (r.bytes key).length = 73 := by
  simp only [Record.bytes, List.length_append, length_beBytes, length_optField length_change,
    length_optField (length_beBytes 4), length_optField length_refusalNote, length_optField length_amendment,
    length_optField length_amendResult, length_optField length_sums,
    length_optField fun o : CloseOutcome => length_beBytes 1 o.code]

theorem stands_record (key : Nat) (r : Record) :
    let b := r.bytes key
    Stands b 0 (beBytes 2 key) ∧ Stands b 2 (beBytes 4 r.tradeRef) ∧ Stands b 6 (beBytes 1 r.cls.code) ∧
    Stands b 7 (beBytes 1 r.dir.code) ∧ Stands b 8 (beBytes 4 r.start) ∧ Stands b 12 (beBytes 1 r.length) ∧
    Stands b 13 (beBytes 4 r.power) ∧
    Stands b 17 (optField 8 (fun c : PowerChange => beBytes 4 c.power ++ beBytes 4 c.since) r.change) ∧
    Stands b 26 (beBytes 1 r.tolerance) ∧ Stands b 27 (optField 4 (beBytes 4) r.holdExpiry) ∧
    Stands b 32 (beBytes 1 r.state.code) ∧ Stands b 33 (optField 6 RefusalNote.bytes r.refusal) ∧
    Stands b 40 (optField 9 (fun a : Amendment => beBytes 4 a.power ++ beBytes 1 a.length ++ beBytes 4 a.start)
      r.pendingAmend) ∧
    Stands b 50 (optField 6 AmendResult.bytes r.lastAmend) ∧ Stands b 57 (optField 4 (beBytes 4) r.atRisk) ∧
    Stands b 62 (optField 8 (fun q : Sums => beBytes 4 q.due ++ beBytes 4 q.delivered) r.sums) ∧
    Stands b 71 (optField 1 (fun o : CloseOutcome => beBytes 1 o.code) r.outcome) := by
  have h := stands_self (r.bytes key)
  unfold Record.bytes at h ⊢
  simpa only [stands_append, List.length_append, length_beBytes, length_optField length_change,
    length_optField (length_beBytes 4), length_optField length_refusalNote, length_optField length_amendment,
    length_optField length_amendResult, length_optField length_sums,
    length_optField fun o : CloseOutcome => length_beBytes 1 o.code, Nat.reduceAdd, and_assoc] using h

/-! ### A note of a refusal -/

/-- A number in the room of its field stands at an offset (R202). -/
def HoldsAt (b : List Byte) (o size v : Nat) : Prop := v < 256 ^ size → numAt b o size = v

/-- A reason stands at an offset as its place in the list of reasons, counted from 1 (R205). -/
def ReasonAt (b : List Byte) (o : Nat) (r : Reason) : Prop := ∀ k : Nat,
  ([.grid, .capacity, .changeover, .heatShort, .noCavern, .tableRange, .massLow, .massHigh, .rate, .late] :
    List Reason)[k]? = some r → numAt b o 1 = k + 1

section Note
variable {b : List Byte} {o : Nat}

theorem Stands.holds {w n : Nat} (h : Stands b o (beBytes w n)) : HoldsAt b o w n := h.num

theorem Stands.reason {r : Reason} (h : Stands b o (beBytes 1 r.code)) : ReasonAt b o r := fun k hk => by
  rw [h.num (by cases r <;> decide), code_of_getElem? (code := Reason.code) (o := 1) rfl hk, Nat.add_comm]

theorem Stands.note {n : RefusalNote} (h : Stands b o n.bytes) :
    ReasonAt b o n.reason ∧ HoldsAt b (o + 1) 4 n.interval ∧ HoldsAt b (o + 5) 1 (n.cavern.getD 0) := by
  simp only [RefusalNote.bytes, stands_append, List.length_append, length_beBytes, Nat.reduceAdd, and_assoc] at h
  obtain ⟨hreason, hinterval, hcavern⟩ := h
  exact ⟨hreason.reason, hinterval.holds, hcavern.holds⟩

theorem Stands.presentNote {x : Option RefusalNote} {n : RefusalNote} (h : Stands b o (optField 6 RefusalNote.bytes x))
    (hx : x = some n) : numAt b o 1 = 1 ∧
      ReasonAt b (o + 1) n.reason ∧ HoldsAt b (o + 2) 4 n.interval ∧ HoldsAt b (o + 6) 1 (n.cavern.getD 0) :=
  (h.present hx).imp_right Stands.note

end Note

/-! ### Values and pairs of values -/

section Values
variable {α : Type} {b : List Byte} {o : Nat}

/-- A value of an enumeration stands as its position in the list that defines it (R202). -/
theorem Stands.position {code : α → Nat} {l : List α} (hl : l.map code = List.range' 0 l.length) (hroom : l.length ≤ 256)
    {a : α} (h : Stands b o (beBytes 1 (code a))) {k : Nat} (hk : l[k]? = some a) : numAt b o 1 = k := by
  have hlt : k < l.length := (List.getElem?_eq_some_iff.1 hk).1
  have hcode : code a = k := by rw [code_of_getElem? hl hk, Nat.zero_add]
  rw [h.num (by omega), hcode]

theorem Stands.presentNum {w n : Nat} {x : Option Nat} (h : Stands b o (optField w (beBytes w) x)) (hx : x = some n) :
    numAt b o 1 = 1 ∧ HoldsAt b (o + 1) w n :=
  (h.present hx).imp_right Stands.holds

theorem Stands.presentPair {f g : α → Nat} {x : Option α} {a : α}
    (h : Stands b o (optField 8 (fun a => beBytes 4 (f a) ++ beBytes 4 (g a)) x)) (hx : x = some a) :
    numAt b o 1 = 1 ∧ HoldsAt b (o + 1) 4 (f a) ∧ HoldsAt b (o + 5) 4 (g a) := by
  obtain ⟨hpresent, hvalue⟩ := h.present hx
  obtain ⟨hfirst, hsecond⟩ := stands_append.1 hvalue
  rw [length_beBytes] at hsecond
  exact ⟨hpresent, hfirst.holds, hsecond.holds⟩

theorem Stands.presentAmendment {x : Option Amendment} {a : Amendment}
    (h : Stands b o (optField 9 (fun a : Amendment => beBytes 4 a.power ++ beBytes 1 a.length ++ beBytes 4 a.start) x))
    (hx : x = some a) : numAt b o 1 = 1 ∧ HoldsAt b (o + 1) 4 a.power ∧ HoldsAt b (o + 5) 1 a.length ∧
      HoldsAt b (o + 6) 4 a.start := by
  obtain ⟨hpresent, hvalue⟩ := h.present hx
  simp only [stands_append, List.length_append, length_beBytes, Nat.add_assoc, Nat.reduceAdd] at hvalue
  obtain ⟨⟨hpower, hlength⟩, hstart⟩ := hvalue
  exact ⟨hpresent, hpower.holds, hlength.holds, hstart.holds⟩

/-- The result of the last amendment stands as six bytes of 0, or as the note of its refusal (R205). -/
theorem Stands.presentResult {x : Option AmendResult} (h : Stands b o (optField 6 AmendResult.bytes x)) :
    (x = some .admitted → numAt b o 1 = 1 ∧ numAt b (o + 1) 6 = 0) ∧
    ∀ n, x = some (.refused n) → numAt b o 1 = 1 ∧
      ReasonAt b (o + 1) n.reason ∧ HoldsAt b (o + 2) 4 n.interval ∧ HoldsAt b (o + 6) 1 (n.cavern.getD 0) :=
  ⟨fun hx => (h.present hx).imp_right Stands.zero, fun _ hx => (h.present hx).imp_right Stands.note⟩

end Values

/-! ### The projection page -/

theorem length_item (it : Item) : it.bytes.length = 3 := by simp [Item.bytes]

theorem length_cavernEnd (c : CavernEnd) : c.bytes.length = 6 := by simp [CavernEnd.bytes]

theorem length_beInt (w : Nat) (i : Int) : (beInt w i).length = w := length_beBytes ..

theorem length_slot (sl : ProjSlot) : sl.bytes.length = 51 := by
  simp only [ProjSlot.bytes, List.length_append, length_beBytes, length_beInt, length_optField length_cavernEnd,
    length_flagByte]

theorem length_invalidSlot : invalidSlotBytes.length = 51 := by simp [invalidSlotBytes]

theorem length_header (h : ProjHeader) (slot0 : Option Nat) (hitems : h.items.length ≤ 8) :
    (h.bytes slot0).length = 42 := by
  simp only [ProjHeader.bytes, List.length_append, length_beBytes, length_flagByte, length_optField (length_beBytes 2),
    length_putList length_item hitems]

/-- The fields of the header, which stands at the beginning of a page. -/
theorem Stands.header {b : List Byte} {h : ProjHeader} {slot0 : Option Nat} (hb : Stands b 0 (h.bytes slot0)) :
    Stands b 0 (flagByte slot0.isSome) ∧ Stands b 1 (beBytes 4 h.runCount) ∧ Stands b 5 (beBytes 4 (slot0.getD 0)) ∧
    Stands b 9 (beBytes 1 h.page) ∧ Stands b 10 (flagByte h.superseded) ∧ Stands b 11 (flagByte h.running.isSome) ∧
    Stands b 12 (beBytes 1 ((h.running.map fun q => q.1.code).getD 0)) ∧
    Stands b 13 (optField 2 (beBytes 2) (h.running.bind Prod.snd)) ∧ Stands b 16 (flagByte h.flag) ∧
    Stands b 17 (putList Item.bytes 8 3 h.items) := by
  unfold ProjHeader.bytes at hb
  simpa only [stands_append, List.length_append, length_beBytes, length_flagByte, length_optField (length_beBytes 2),
    Nat.reduceAdd, and_assoc] using hb

/-- The fields of a slot, from the offset where the slot stands. -/
theorem Stands.slot {b : List Byte} {o : Nat} {sl : ProjSlot} (h : Stands b o sl.bytes) :
    Stands b o (beBytes 4 sl.interval) ∧ Stands b (o + 4) (beInt 4 sl.net) ∧ Stands b (o + 8) (beBytes 4 sl.chargeCap) ∧
    Stands b (o + 12) (beBytes 4 sl.dischargeCap) ∧
    (∀ i : Fin 4, Stands b (o + 16 + 7 * i.val) (optField 6 CavernEnd.bytes sl.caverns[i])) ∧
    Stands b (o + 44) (beBytes 4 sl.heat) ∧ Stands b (o + 48) (flagByte sl.dump) ∧
    Stands b (o + 49) (beBytes 1 sl.status.code) ∧ Stands b (o + 50) (beBytes 1 sl.failCavern) := by
  simp only [ProjSlot.bytes, stands_append, List.length_append, length_beBytes, length_beInt,
    length_optField length_cavernEnd, length_flagByte, Nat.reduceAdd, and_assoc] at h
  obtain ⟨hinterval, hnet, hcharge, hdischarge, h0, h1, h2, h3, hrest⟩ := h
  refine ⟨hinterval, hnet, hcharge, hdischarge, fun i => ?_, hrest⟩
  fin_cases i
  · exact h0
  · exact h1
  · exact h2
  · exact h3

/-- A signed number in four bytes stands as its two's complement (R202). -/
theorem Stands.signed {b : List Byte} {o : Nat} {i : Int} (h : Stands b o (beInt 4 i)) (hmin : -2147483648 ≤ i)
    (hmax : i < 2147483648) : (numAt b o 4 : Int) = if i < 0 then i + 4294967296 else i := by
  rw [h.numAt_eq (length_beInt 4 i), beInt, beNat_beBytes]
  split <;> omega

/-- The status of a slot stands as 0, as its reason, or as 255 where it has none (R205). -/
theorem Stands.status {b : List Byte} {o : Nat} {st : SlotStatus} (h : Stands b o (beBytes 1 st.code)) :
    (st = .ok → numAt b o 1 = 0) ∧ (st = .noStatus → numAt b o 1 = 255) ∧ ∀ r, st = .fail r → ReasonAt b o r := by
  refine ⟨?_, ?_, ?_⟩
  · rintro rfl
    exact h.num (by decide)
  · rintro rfl
    exact h.num (by decide)
  · rintro r rfl
    exact Stands.reason h

/-- A slot of an invalid copy (R205). -/
theorem Stands.invalidSlot {b : List Byte} {o : Nat} (h : Stands b o invalidSlotBytes) :
    numAt b o 49 = 0 ∧ numAt b (o + 49) 1 = 255 ∧ numAt b (o + 50) 1 = 0 := by
  simp only [invalidSlotBytes, stands_append, List.length_append, length_beBytes, length_zeros, Nat.reduceAdd] at h
  obtain ⟨⟨hfields, hstatus⟩, hcavern⟩ := h
  exact ⟨hfields.zero, hstatus.num (by decide), hcavern.zero⟩

/-- An item of the queue in the header (R205). -/
theorem Stands.itemFields {b : List Byte} {o : Nat} {it : Item} (h : Stands b o it.bytes) :
    HoldsAt b o 2 it.key ∧ numAt b (o + 2) 1 = match it.kind with | .admitting => 0 | .amend => 1 := by
  obtain ⟨hkey, hkind⟩ := stands_append.1 h
  rw [length_beBytes] at hkind
  exact ⟨hkey.holds, (hkind.num (by cases it.kind <;> decide)).trans (by cases it.kind <;> rfl)⟩

/-- The kind of the run in flight in the header; 0 with none (R205). -/
theorem Stands.runKind {b : List Byte} {o : Nat} {run : Option (RunKind × Option Nat)}
    (h : Stands b o (beBytes 1 ((run.map fun q => q.1.code).getD 0))) :
    (run = none → numAt b o 1 = 0) ∧ ∀ kind subject, run = some (kind, subject) →
      numAt b o 1 = match kind with | .admitting => 0 | .amend => 1 | .verification => 2 := by
  refine ⟨?_, ?_⟩
  · rintro rfl
    exact h.num (by decide)
  · rintro kind subject rfl
    exact (Stands.num (n := kind.code) h (by cases kind <;> decide)).trans (by cases kind <;> rfl)

section Page
variable {head : ProjHeader} {slot0 : Option Nat} {slots : List ProjSlot}

/-- The slots of a page follow its header, 51 bytes each (R205). -/
theorem stands_page (hitems : head.items.length ≤ 8) :
    let b := (Body.projection head slot0 slots).bytes
    Stands b 0 (head.bytes slot0) ∧ Stands b 42 (slotsBytes slot0 slots) := by
  have h := stands_append.1 (stands_self (head.bytes slot0 ++ slotsBytes slot0 slots))
  rwa [length_header head slot0 hitems] at h

theorem slotsBytes_invalid (h : slot0 = none) :
    slotsBytes slot0 slots = (List.replicate 16 ()).flatMap fun _ => invalidSlotBytes :=
  if_neg (by simp [h])

theorem slotsBytes_valid (h : slot0 ≠ none) : slotsBytes slot0 slots = slots.flatMap ProjSlot.bytes :=
  if_pos (Option.isSome_iff_ne_none.2 h)

theorem length_slotsBytes (hslots : slot0 ≠ none → slots.length = 16) : (slotsBytes slot0 slots).length = 816 := by
  by_cases h : slot0 = none
  · rw [slotsBytes_invalid h, length_flatMap_put fun _ => length_invalidSlot]
    rfl
  · rw [slotsBytes_valid h, length_flatMap_put length_slot, hslots h]

theorem stands_invalidSlot (hitems : head.items.length ≤ 8) (h : slot0 = none) {j : Nat} (hj : j < 16) :
    Stands (Body.projection head slot0 slots).bytes (42 + 51 * j) invalidSlotBytes := by
  have hslots := (stands_page (slot0 := slot0) (slots := slots) hitems).2
  rw [slotsBytes_invalid h] at hslots
  exact hslots.item (fun _ => length_invalidSlot) (List.getElem?_replicate_of_lt hj)

theorem stands_slot (hitems : head.items.length ≤ 8) (h : slot0 ≠ none) {j : Nat} {sl : ProjSlot} (hsl : slots[j]? = some sl) :
    Stands (Body.projection head slot0 slots).bytes (42 + 51 * j) sl.bytes := by
  have hslots := (stands_page (slot0 := slot0) (slots := slots) hitems).2
  rw [slotsBytes_valid h] at hslots
  exact hslots.item length_slot hsl

theorem length_page (hitems : head.items.length ≤ 8) (hslots : slot0 ≠ none → slots.length = 16) :
    (Body.projection head slot0 slots).bytes.length = 858 := by
  rw [Body.bytes, List.length_append, length_header head slot0 hitems, length_slotsBytes hslots]

end Page

end Sys2Proof.Machine
end

section
/-! SUPPORT. READ_NOTICES, SET_NOTICE_MASK, raises and the fetch (R188, R189, R192 to R194, R201 to R203, R205). -/

namespace Sys2Proof.Machine

/-! ### Notices (R192, R193) -/

theorem getLsbD_bit (m n : Notice) : (Notice.bit m).getLsbD n.index = true ↔ n = m := by
  rw [Notice.bit, BitVec.getLsbD_twoPow, Bool.and_eq_true, decide_eq_true_eq, decide_eq_true_eq]
  exact ⟨fun h => (Notice.index_injective h.2).symm, fun h => ⟨m.index_lt, h ▸ rfl⟩⟩

/-- A raise takes its own flag out of the reported set and no other (R193). -/
theorem reported_raise (m n : Notice) (s : State) : (raise m s).notices.reported.getLsbD n.index =
    if n = m then false else s.notices.reported.getLsbD n.index := by
  have hbit := getLsbD_bit m n
  simp only [raise, BitVec.getLsbD_and, BitVec.getLsbD_not, n.index_lt, decide_true, Bool.true_and]
  split
  next h => rw [hbit.2 h, Bool.not_true, Bool.and_false]
  next h => rw [Bool.eq_false_iff.2 (mt hbit.1 h), Bool.not_false, Bool.and_true]

/-- ATTN stands while a set flag is enabled (R192). -/
theorem attn_iff (s : State) : s.attn = true ↔
    ∃ k, k < 23 ∧ s.notices.flags.getLsbD k = true ∧ s.notices.mask.getLsbD k = true := by
  have hzero : s.notices.flags &&& s.notices.mask = 0#23 ↔
      ∀ k, k < 23 → ¬(s.notices.flags.getLsbD k = true ∧ s.notices.mask.getLsbD k = true) := by
    refine ⟨fun h k _ hk => ?_, fun h => BitVec.eq_of_getLsbD_eq fun k hk => ?_⟩
    · have hbit : (s.notices.flags &&& s.notices.mask).getLsbD k = true := by rw [BitVec.getLsbD_and, hk.1, hk.2]; rfl
      rw [h, BitVec.getLsbD_zero] at hbit
      cases hbit
    · rw [BitVec.getLsbD_and, BitVec.getLsbD_zero, Bool.eq_false_iff, ne_eq, Bool.and_eq_true]
      exact h k hk
  rw [State.attn, bne_iff_ne, ne_eq]
  refine (not_congr hzero).trans ?_
  push Not
  rfl

theorem ready_iff (s : State) : s.ready = true ↔ ∃ r, s.port.state = .holding r := by
  unfold State.ready
  cases s.port.state <;> simp

/-! ### Commands and fetches (R189, R193, R194) -/

section Taken
variable {s : State} (h : s.port.state = .idle)
include h

theorem exec_readNotices_idle : exec .readNotices s = .next (readNoticesAct s.taken) :=
  congrArg Host.Outcome.next (station_idle h _)

theorem exec_setNoticeMask_idle (mask : Nat) : exec (.setNoticeMask mask) s = .next (setNoticeMaskAct mask s.taken) :=
  congrArg Host.Outcome.next (station_idle h _)

end Taken

/-- The bytes of a fetch of a held response (R189, R202). -/
theorem response_bytes (r : Response) : r.bytes 2 = [2#8, BitVec.ofNat 8 r.result.code,
    BitVec.ofNat 8 (r.body.bytes.length / 256), BitVec.ofNat 8 r.body.bytes.length] ++ r.body.bytes := by
  rw [Response.bytes, beBytes_one, beBytes_one, beBytes_two]
  rfl

section Fetch
variable {s : State} {n : Nat}

theorem exec_fetch (hn : 0 < n) : exec (.fetch n) s = .next (fetchBytes n s) :=
  congrArg Host.Outcome.next (if_neg (by omega))

theorem fetchBytes_short {r : Response} (h : s.port.state = .holding r) (hlt : n < (r.bytes 2).length) :
    fetchBytes n s = { s with port := ⟨.holding r, (r.bytes 2).take n⟩ } := by
  simp only [fetchBytes, h]
  exact if_neg (Nat.not_le.2 hlt)

theorem fetchBytes_whole {r : Response} (h : s.port.state = .holding r) (hle : (r.bytes 2).length ≤ n) :
    fetchBytes n s = { s with
      port := ⟨.idle, r.bytes 2⟩
      notices := { s.notices with flags := s.notices.flags &&& ~~~s.notices.reported, reported := 0 } } := by
  simp only [fetchBytes, h, if_pos hle, release, List.take_of_length_le hle]

theorem fetchBytes_idle (h : s.port.state = .idle) :
    fetchBytes n s = { s with port := ⟨.idle, [0#8, 14#8, 0#8, 0#8].take n⟩ } := by
  simp only [fetchBytes, h]
  rfl

theorem fetchBytes_owed (h : s.port.state = .owed) :
    fetchBytes n s = { s with port := ⟨.owed, [1#8, 14#8, 0#8, 0#8].take n⟩ } := by
  simp only [fetchBytes, h]
  rfl

end Fetch

/-! ### Small bodies -/

theorem numAt_noticeBytes (flags mask : NoticeSet) :
    numAt (noticeBytes flags ++ noticeBytes mask) 0 3 = flags.toNat ∧
      numAt (noticeBytes flags ++ noticeBytes mask) 3 3 = mask.toNat := by
  have hroom : ∀ n : NoticeSet, n.toNat < 256 ^ 3 := fun n => n.isLt.trans (by decide)
  obtain ⟨hflags, hmask⟩ := stands_append.1 (stands_self (noticeBytes flags ++ noticeBytes mask))
  exact ⟨hflags.num (hroom flags), Stands.num (by simpa [noticeBytes] using hmask) (hroom mask)⟩

theorem replyBody_bytes (kind : MsgKind) (payload : List Byte) : (Body.reply kind payload).bytes =
    [BitVec.ofNat 8 kind.portCode, BitVec.ofNat 8 payload.length] ++ payload ++
      List.replicate (16 - payload.length) 0#8 := by
  simp [Body.bytes, putList, beBytes_one]

theorem identityBytes_eq (source : SettingsSource) (saving : Bool) (last : SaveOutcome) :
    identityBytes source saving last = [9, 14, 4, 1, 2, 5, 12, 37, 34, 29, 29, 27, 3,
      BitVec.ofNat 8 source.code, BitVec.ofNat 8 (boolCode saving), BitVec.ofNat 8 last.code] := by
  rw [identityBytes, flagByte, beBytes_one, beBytes_one, beBytes_one, beBytes_one]
  rfl

/-- Settles O52: the bodies block by block, the notices bit by bit, and the fetch by what the port holds. -/
theorem noticesMaskAndFetch : Obligations.NoticesMaskAndFetch := by
  unfold Obligations.NoticesMaskAndFetch
  intro at_ holds flag reasonAt noteAt
  have hat : at_ = numAt := funext fun b => funext fun o => funext fun size => foldl_eq_beNat _
  clear_value at_
  subst hat
  refine ⟨fun key r => ?_, fun head slot0 slots hitems hslots => ?_, fun flags mask => ?_,
    fun k n hk => ?_, fun k r hk => ?_, rfl, fun key => ?_, fun k kind payload hlen hk => ?_, fun source saving last => ?_,
    fun s => ⟨attn_iff s, ready_iff s, fun n => ?_, fun h => ⟨?_, fun mask hmask => ?_, fun mask hmask => ?_⟩, rfl,
      fun r h => ⟨fun n hn hlt => ?_, fun n hle => ?_⟩, fun n hn h => ?_, fun n hn h => ?_⟩⟩
  · intro b
    obtain ⟨hkey, href, hcls, hdir, hstart, hlength, hpower, hchange, htolerance, hexpiry, hstate, hrefusal, hpending, hlast,
      hrisk, hsums, houtcome⟩ := stands_record key r
    exact ⟨length_record key r, hkey.num, href.num, (hcls.num (by cases r.cls <;> decide)).trans (by cases r.cls <;> rfl),
      (hdir.num (by cases r.dir <;> decide)).trans (by cases r.dir <;> rfl), hstart.num, hlength.num, hpower.num,
      hchange.absent, fun c => hchange.presentPair, htolerance.num, hexpiry.absent, fun n => hexpiry.presentNum,
      fun k => Stands.position (code := RecordState.code) rfl (by decide) hstate, hrefusal.absent,
      fun n => hrefusal.presentNote, hpending.absent, fun a => hpending.presentAmendment, hlast.absent,
      hlast.presentResult.1, hlast.presentResult.2, hrisk.absent, fun n => hrisk.presentNum, hsums.absent,
      fun q => hsums.presentPair, houtcome.absent, fun o k ho hk => (houtcome.present ho).imp_right fun h =>
        Stands.position (code := CloseOutcome.code) rfl (by decide) h hk⟩
  · intro b
    obtain ⟨hvalid, hcount, hfirst, hpage, hsuper, hrunning, hkind, hsubject, hflag, hlist⟩ :=
      (stands_page (slot0 := slot0) (slots := slots) hitems).1.header
    obtain ⟨hlen, hitem, hvacant⟩ := hlist.list length_item hitems (by decide)
    refine ⟨length_page hitems hslots, hvalid.flag, hcount.num, hfirst.num, hpage.num, hsuper.flag, hrunning.flag,
      fun hnone => ⟨hkind.runKind.1 hnone, hsubject.absent (by rw [hnone]; rfl)⟩,
      fun kind subject hrun => ⟨?_, fun hnone => hsubject.absent (by rw [hrun, hnone]; rfl),
        fun key hkey => hsubject.presentNum (by rw [hrun, hkey]; rfl)⟩,
      hflag.flag, hlen, fun j hj => ⟨hvacant j hj, fun it hit => ?_⟩,
      fun j hj => ⟨fun hnone => (stands_invalidSlot hitems hnone hj).invalidSlot, fun sl hsome hsl => ?_⟩⟩
    · exact (hkind.runKind.2 kind subject hrun).trans (by cases kind <;> rfl)
    · obtain ⟨hkey, hitemKind⟩ := (hitem j it hit).itemFields
      rw [Nat.add_right_comm] at hitemKind
      exact ⟨hkey, hitemKind.trans (by cases it.kind <;> rfl)⟩
    · obtain ⟨hinterval, hnet, hcharge, hdischarge, hcaverns, hheat, hdump, hstatus, hfail⟩ :=
        (stands_slot hitems hsome hsl).slot
      obtain ⟨hok, hnoStatus, hreason⟩ := hstatus.status
      refine ⟨hinterval.num, hnet.signed, hcharge.num, hdischarge.num, fun i => ⟨(hcaverns i).absent, fun e he => ?_⟩,
        hheat.num, hdump.flag, hok, hnoStatus, hreason, hfail.num⟩
      obtain ⟨hpresent, hend⟩ := (hcaverns i).present he
      obtain ⟨hmass, hpressure⟩ := stands_append.1 hend
      rw [length_beBytes] at hpressure
      have hmassAt : 42 + 51 * j + 16 + 7 * i.val + 1 = 42 + 51 * j + 17 + 7 * i.val := by omega
      have hpressureAt : 42 + 51 * j + 16 + 7 * i.val + 1 + 4 = 42 + 51 * j + 21 + 7 * i.val := by omega
      exact ⟨hpresent, hmassAt ▸ hmass.holds, hpressureAt ▸ hpressure.holds⟩
  · obtain ⟨hflags, hmask⟩ := numAt_noticeBytes flags mask
    refine ⟨by simp [Body.bytes, noticeBytes], fun i => ⟨?_, ?_⟩⟩
    · exact congrArg (Nat.testBit · i) hflags
    · exact congrArg (Nat.testBit · i) hmask
  · rw [code_of_getElem? (code := Notice.index) (o := 0) rfl hk, Nat.zero_add]
  · rw [code_of_getElem? (code := ResultCode.code) (o := 0) rfl hk, Nat.zero_add]
  · exact ⟨length_beBytes 2 key, (stands_self (beBytes 2 key)).num⟩
  · rw [replyBody_bytes, code_of_getElem? (code := MsgKind.portCode) (o := 0) rfl hk, Nat.zero_add]
  · have hbytes := identityBytes_eq source saving last
    cases source <;> cases saving <;> cases last <;> exact hbytes
  · refine ⟨(raised_raise n n s).2 (.inr rfl), (reported_raise n n s).trans (if_pos rfl), fun m hm => ⟨?_, ?_⟩⟩
    · exact (raised_raise n m s).trans (or_iff_left hm)
    · exact (reported_raise n m s).trans (if_neg hm)
  · exact exec_readNotices_idle h
  · rw [exec_setNoticeMask_idle h, setNoticeMaskAct, if_pos hmask]
    rfl
  · rw [exec_setNoticeMask_idle h, setNoticeMaskAct, if_neg (Nat.not_lt.2 hmask), reply_taken]
  · rw [exec_fetch hn, fetchBytes_short h ((response_bytes r).symm ▸ hlt), response_bytes]
  · have hframe : 0 < (r.bytes 2).length := by rw [response_bytes]; exact Nat.succ_pos _
    have hle' : (r.bytes 2).length ≤ n := (response_bytes r).symm ▸ hle
    rw [exec_fetch (by omega), fetchBytes_whole h hle', response_bytes]
  · rw [exec_fetch hn, fetchBytes_idle h]
  · rw [exec_fetch hn, fetchBytes_owed h]

end Sys2Proof.Machine
end

section
/-! SUPPORT. What every command leaves of the waiting commands, the present moment and the pins
(95_what_each_step_holds.md). -/

namespace Sys2Proof.Machine

/-- What stands around the part's own working: the waiting commands, the present moment and the pins. -/
def State.around (s : State) : List Instr × Nat × Pins := (s.pending, s.now, s.pins)

variable (s : State)

theorem around_ite {c : Prop} [Decidable c] {a b : State} (ha : a.around = s.around) (hb : b.around = s.around) :
    (if c then a else b).around = s.around := by split <;> assumption

/-! ### The shared operations -/

@[simp] theorem around_with_cfg (x : Settings) : ({ s with cfg := x } : State).around = s.around := rfl
@[simp] theorem around_with_scan (x : Scanner) : ({ s with scan := x } : State).around = s.around := rfl
@[simp] theorem around_with_clock (x : Clock) : ({ s with clock := x } : State).around = s.around := rfl
@[simp] theorem around_with_link (x : Link) : ({ s with link := x } : State).around = s.around := rfl

@[simp] theorem raise_around (n : Notice) : (raise n s).around = s.around := rfl
@[simp] theorem raiseIf_around (b : Bool) (n : Notice) : (raiseIf b n s).around = s.around := by cases b <;> rfl
@[simp] theorem setVerify_around : (setVerify s).around = s.around := rfl
@[simp] theorem setVerifyIf_around (b : Bool) : (setVerifyIf b s).around = s.around := by cases b <;> rfl
@[simp] theorem reply_around (r : ResultCode) : (reply r s).around = s.around := rfl
@[simp] theorem issue_around (c : Cmd) : (issue c s).around = s.around := rfl
@[simp] theorem putIdent_around (i : Fin 8) : (putIdent i s).around = s.around := around_ite s rfl rfl
@[simp] theorem putIdentAfter_around (i : Fin 8) : (putIdentAfter i s).around = s.around :=
  around_ite s rfl (putIdent_around s i)
@[simp] theorem withdrawIdent_around (i : Fin 8) : (withdrawIdent i s).around = s.around := rfl

section
variable {s}

/-- A request keeps what the command it carries keeps: a request out of turn touches neither (R191). -/
theorem station_around {act : State → State} (h : ∀ s, (act s).around = s.around) : (station act s).around = s.around := by
  by_cases hi : s.port.state = .idle
  · rw [station_idle hi, h]
    rfl
  · rw [station_busy hi]
    rfl

/-- A settings-class write keeps what the command keeps: BUSY touches neither (R198). -/
theorem settingsWrite_around {act : State → State} (h : ∀ s, (act s).around = s.around) :
    (settingsWrite act s).around = s.around :=
  around_ite s (reply_around s _) (h s)

end

/-! ### The book and the runs -/

@[simp] theorem setRecord_around (key : Nat) (r : Record) : (setRecord key r s).around = s.around := by
  simp only [State.around, setRecord_pending, setRecord_now, setRecord_pins]
@[simp] theorem freeRecord_around (key : Nat) : (freeRecord key s).around = s.around := by
  simp only [State.around, freeRecord_pending, freeRecord_now, freeRecord_pins]
@[simp] theorem dropItem_around (key : Nat) : (dropItem key s).around = s.around := rfl
@[simp] theorem pushItem_around (it : Item) : (pushItem it s).around = s.around := rfl
@[simp] theorem leaveBook_around (key : Nat) (r : Record) : (leaveBook key r s).around = s.around := by simp [leaveBook]

theorem bookBoundaryAt_around (n : Nat) (i : Fin 128) : (bookBoundaryAt n i s).around = s.around := by
  unfold bookBoundaryAt
  split
  · rfl
  · simp only
    split_ifs <;> simp

theorem creditRecord_around (key n due delivered : Nat) : (creditRecord key n due delivered s).around = s.around := by
  unfold creditRecord
  split
  · rfl
  · simp only
    split <;> simp

@[simp] theorem closeTally_around : (closeTally s).around = s.around := by
  unfold closeTally
  split
  · rfl
  · exact foldl_keeps State.around _ (fun s c => creditRecord_around s _ _ _ _) _ s

theorem writeMark_around (copy : RunCopy) (table : List ProjSlot) (q : State × Bool) (r : Counted) :
    (writeMark copy table q r).1.around = q.1.around := by
  unfold writeMark
  split
  · split <;> simp
  · rfl

@[simp] theorem writeMarks_around (copy : RunCopy) (table : List ProjSlot) : (writeMarks copy table s).around = s.around := by
  have hfold : ∀ (l : List Counted) (q : State × Bool), (l.foldl (writeMark copy table) q).1.around = q.1.around := by
    intro l
    induction l with
    | nil => intro q; rfl
    | cons r l ih => intro q; rw [List.foldl_cons, ih, writeMark_around]
  rw [writeMarks, raiseIf_around, hfold]

@[simp] theorem goLive_around (run : Run) (table : List ProjSlot) : (goLive run table s).around = s.around := rfl
@[simp] theorem dropRun_around : (dropRun s).around = s.around := rfl
@[simp] theorem startRun_around (candidate : Option Item) : (startRun candidate s).around = s.around := rfl

/-! ### The dispatch unit and the roster -/

@[simp] theorem recompute_around : (recompute s).around = s.around := by
  have h := recompute_frame s
  simp only [State.around, h.pending, h.now, h.pins]
@[simp] theorem recomputeIf_around (b : Bool) : (recomputeIf b s).around = s.around := around_ite s (recompute_around s) rfl
@[simp] theorem recomputeIfMoved_around (before : State) : (recomputeIfMoved before s).around = s.around :=
  recomputeIf_around s _
@[simp] theorem recomputeIfBanned_around (before : State) : (recomputeIfBanned before s).around = s.around :=
  recomputeIf_around s _
@[simp] theorem reformHold_around : (reformHold s).around = s.around := rfl
@[simp] theorem zeroLost_around : (zeroLost s).around = s.around := rfl
@[simp] theorem dispatchBoundary_around (n : Nat) : (dispatchBoundary n s).around = s.around := by
  rw [dispatchBoundary, recompute_around]
  exact closeTally_around s

@[simp] theorem setTrain_around (i : Fin 8) (w : TrainWork) : (setTrain i w s).around = s.around := rfl
@[simp] theorem setTrainCfg_around (i : Fin 8) (t : TrainCfg) : (setTrainCfg i t s).around = s.around := rfl
@[simp] theorem moveTrain_around (i : Fin 8) (new : TrainState) (timer : Option Timer) :
    (moveTrain i new timer s).around = s.around := by
  simp only [State.around, moveTrain_pending, moveTrain_now, moveTrain_pins]
@[simp] theorem enterStopping_around (i : Fin 8) : (enterStopping i s).around = s.around := by simp [enterStopping]
@[simp] theorem stopTrain_around (i : Fin 8) : (stopTrain i s).around = s.around := by simp [stopTrain]
@[simp] theorem lockOut_around (i : Fin 8) (c : LockoutCause) : (lockOut i c s).around = s.around := by simp [lockOut]
@[simp] theorem enterResting_around (i : Fin 8) : (enterResting i s).around = s.around := by simp [enterResting]
@[simp] theorem restAfterStop_around (i : Fin 8) : (restAfterStop i s).around = s.around :=
  around_ite s (moveTrain_around s i _ _) (enterResting_around s i)
@[simp] theorem stopUnbidden_around (i : Fin 8) : (stopUnbidden i s).around = s.around := by simp [stopUnbidden]
@[simp] theorem enterRunning_around (i : Fin 8) : (enterRunning i s).around = s.around := by simp [enterRunning]
@[simp] theorem setBindFault_around (i : Fin 8) (f : Option BindFault) : (setBindFault i f s).around = s.around := by
  simp [setBindFault]
@[simp] theorem ratingChanged_around (i : Fin 8) : (ratingChanged i s).around = s.around := around_ite s rfl rfl
@[simp] theorem takeRatings_around (i : Fin 8) (a : Announce) : (takeRatings i a s).around = s.around :=
  around_ite s rfl (by simp)

theorem tripAsserted_around : (tripAsserted s).around = s.around := by
  rw [tripAsserted, recompute_around, zeroLost_around, inMerit_keeps State.around stopIfUp fun i s =>
    around_ite s (stopTrain_around s i) rfl]
  rfl

theorem tripReleased_around : (tripReleased s).around = s.around := recompute_around _

@[simp] theorem reportAnnounced_around (i : Fin 8) (st : ReportedState) : (reportAnnounced i st s).around = s.around := rfl

theorem bindAs_around (i : Fin 8) (st : ReportedState) : (bindAs i st s).around = s.around := by
  cases st <;> simp [bindAs]

theorem takeAnnounce_around (i : Fin 8) (a : Announce) : (takeAnnounce i a s).around = s.around := by
  refine around_ite s ?_ ?_
  · unfold announceAbsent
    simp only
    split
    · rw [bindAs_around]
      simp
    · simp
  · unfold announceOther
    simp only
    split <;> simp

theorem recoverLost_around (i : Fin 8) (st : ReportedState) : (recoverLost i st s).around = s.around := by
  cases st with
  | starting => exact around_ite s (moveTrain_around s i _ _) (stopUnbidden_around s i)
  | running => exact around_ite s (moveTrain_around s i _ _) (stopUnbidden_around s i)
  | stopped => exact enterResting_around s i
  | stopping => exact enterStopping_around s i
  | fault => exact lockOut_around s i _

theorem takeStatus_around (i : Fin 8) (r : Report) : (takeStatus i r s).around = s.around := by
  unfold takeStatus statusMove
  split
  · exact recoverLost_around _ i _
  all_goals simp

@[simp] theorem identFailed_around (i : Fin 8) : (identFailed i s).around = s.around :=
  around_ite s (setBindFault_around s i _) rfl
@[simp] theorem identEnded_around (i : Fin 8) : (identEnded i s).around = s.around := around_ite s rfl rfl
@[simp] theorem declareLost_around (i : Fin 8) : (declareLost i s).around = s.around := by
  unfold declareLost
  split <;> simp

theorem rosterCount_around (i : Fin 8) : (rosterCount i s).around = s.around := by
  unfold rosterCount
  split
  · rfl
  · exact around_ite s (moveTrain_around _ i _ _) rfl
  · rfl

theorem rosterBoundary_around (n : Nat) : (rosterBoundary n s).around = s.around := by
  rw [rosterBoundary, recompute_around]
  refine foldl_keeps State.around _ (fun s i => ?_) _ s
  exact around_ite s ((setTrain_around ..).trans (rosterCount_around s i)) rfl

/-! ### The caverns, the heat store and the scanner -/

@[simp] theorem setCavernCfg_around (i : Fin 4) (c : CavernCfg) : (setCavernCfg i c s).around = s.around := rfl
@[simp] theorem setCavernWork_around (i : Fin 4) (w : CavernWork) : (setCavernWork i w s).around = s.around := rfl
@[simp] theorem setStoreWork_around (w : StoreWork) : (setStoreWork w s).around = s.around := rfl
@[simp] theorem setStoreCfg_around (c : StoreCfg) : (setStoreCfg c s).around = s.around := rfl
@[simp] theorem boundaryStartMass_around (i : Fin 4) : (boundaryStartMass i s).around = s.around := by
  simp [boundaryStartMass_eq]
@[simp] theorem judgeCavernInhibit_around (i : Fin 4) : (judgeCavernInhibit i s).around = s.around := by
  simp [judgeCavernInhibit]
@[simp] theorem remeasure_around (i : Fin 4) : (remeasure i s).around = s.around := by
  unfold remeasure
  split <;> simp [formMass_eq]
theorem cavernsBoundary_around (ended : Nat) : (cavernsBoundary ended s).around = s.around :=
  foldl_keeps State.around _ (fun s i => (cavernBoundary_frame ended i s).keeps State.around rfl) _ s

@[simp] theorem judgeStoreInhibit_around : (judgeStoreInhibit s).around = s.around := by simp [judgeStoreInhibit]
@[simp] theorem storeStartContent_around : (storeStartContent s).around = s.around := by simp [storeStartContent_eq]
@[simp] theorem recontent_around : (recontent s).around = s.around := by
  unfold recontent
  split <;> rfl
theorem storeBoundary_around : (storeBoundary s).around = s.around := by simp [storeBoundary_eq]

theorem scannerBoundary_around : (scannerBoundary s).around = s.around := by
  rw [scannerBoundary, clearHanded, around_with_scan]
  refine foldl_keeps State.around _ (fun s i => ?_) _ s
  exact around_ite s rfl ((takeVote_frame s i _ _).keeps State.around rfl)

theorem completeEntry_around (ch : Fin 24) (codes : List Nat) : (completeEntry ch codes s).around = s.around := by
  unfold completeEntry
  simp only
  split
  · rw [completePass_keeps State.around _ fun _ => rfl]
    simp
  · simp

/-! ### The unit link -/

theorem countOutcome_around (i : Fin 8) (o : TxnOutcome) : (countOutcome i o s).around = s.around := by
  unfold countOutcome
  simp only
  split <;> simp

@[simp] theorem dropCmd_around (c : Cmd) : (dropCmd c s).around = s.around := by
  unfold dropCmd
  split <;> rfl
@[simp] theorem answerOwed_around (f : Fwd) (r : ResultCode) (b : Body) : (answerOwed f r b s).around = s.around :=
  around_ite s rfl rfl

theorem handRoster_around (i : Fin 8) (kind : MsgKind) (o : TxnOutcome) : (handRoster i kind o s).around = s.around := by
  unfold handRoster
  split
  · unfold handReply
    split
    · exact around_ite s (takeStatus_around s i _) (takeStatus_around s i _)
    · exact takeAnnounce_around s i _
  · exact around_ite s (identFailed_around s i) rfl

theorem handOrigin_around (origin : Origin) (o : TxnOutcome) : (handOrigin origin o s).around = s.around := by
  unfold handOrigin
  split
  · exact around_ite s rfl (around_ite s (dropCmd_around s _) rfl)
  · unfold forwardResponse
    split <;> simp
  · rfl

theorem endTransaction_around (t : Txn) (i : Fin 8) (o : TxnOutcome) : (endTransaction t i o s).around = s.around := by
  unfold endTransaction
  simp only
  split_ifs <;> simp [countOutcome_around, handRoster_around, handOrigin_around]

theorem grantOnce_around : (grantOnce s).around = s.around := by
  unfold grantOnce
  split
  · rfl
  · exact around_ite s rfl (around_ite s rfl (dropCmd_around _ _))
  · exact around_ite s rfl (dropCmd_around _ _)
  · exact around_ite s (answerOwed_around ..) (around_ite s (answerOwed_around ..) rfl)
  · exact around_ite s rfl rfl
  · split <;> rfl

theorem grantUpTo_around (n : Nat) : (grantUpTo n s).around = s.around := by
  induction n generalizing s with
  | zero => rfl
  | succ n ih => exact around_ite s rfl ((ih _).trans (grantOnce_around s))

theorem abandonTransaction_around : (abandonTransaction s).around = s.around := by
  unfold abandonTransaction
  split
  · exact endTransaction_around ..
  · rfl

theorem linkReset_around : (linkReset s).around = s.around :=
  (foldl_keeps State.around _ (fun s f => answerOwed_around s f _ _) _ _).trans (abandonTransaction_around s)

/-! ### The clock -/

theorem engineBoundary_around (n : Nat) : (engineBoundary n s).around = s.around := by
  have hshift : (shiftLive n (dropRun (setVerify s))).around = s.around := by
    unfold shiftLive
    split <;> rfl
  unfold engineBoundary
  simp only
  split <;> exact hshift

theorem takeBoundary_around (ended n : Nat) (b : Block) : (takeBoundary ended n b s).around = s.around := by
  cases b with
  | book => exact foldl_keeps State.around _ (fun s i => bookBoundaryAt_around s n i) _ s
  | engine => exact engineBoundary_around s n
  | caverns => exact cavernsBoundary_around s ended
  | store => exact (recomputeIf_around _ _).trans (storeBoundary_around s)
  | roster => exact rosterBoundary_around s n
  | dispatch => exact dispatchBoundary_around s n
  | scanner => exact scannerBoundary_around s

theorem boundary_around (mode : ClockMode) (origin : Nat) (absorb : Bool) : (boundary mode origin absorb s).around = s.around :=
  takeBoundaryIn_keeps State.around _ _ (fun b s => takeBoundary_around s _ _ b) _ _

theorem blocksBegin_around (n : Nat) : (blocksBegin n s).around = s.around := by rw [blocksBegin_eq]; rfl

theorem pulseUnlocked_around (phase : Nat) : (pulseUnlocked phase s).around = s.around :=
  around_ite s rfl (around_ite s (boundary_around ..) rfl)

theorem takePulse_around : (takePulse s).around = s.around := by
  unfold takePulse
  split
  · rfl
  · exact blocksBegin_around _ _
  · exact around_ite s (boundary_around ..) rfl
  · exact pulseUnlocked_around ..
  · exact pulseUnlocked_around ..

theorem takeExpiry_around : (takeExpiry s).around = s.around := by
  unfold takeExpiry
  split
  · rfl
  · refine around_ite s rfl ?_
    split <;> exact boundary_around ..
end Sys2Proof.Machine
end

section
/-! SUPPORT. What each command keeps of the waiting commands, the present moment and the pins
(95_what_each_step_holds.md; log entries 1, 2, 5 and 29). -/

namespace Sys2Proof.Machine

variable (s : State)

/-! ### Station commands -/

theorem bookAct_around (p : BookParams) : (bookAct p s).around = s.around := by
  unfold bookAct
  split
  · rfl
  · split
    · refine around_ite s rfl (around_ite s rfl (around_ite s rfl ?_))
      split
      · rfl
      · exact around_ite s rfl rfl
    · rfl

theorem confirmAct_around (key : Nat) : (confirmAct key s).around = s.around := by
  unfold confirmAct
  split
  · rfl
  · exact around_ite s (by simp) rfl

theorem amendAct_around (p : AmendParams) : (amendAct p s).around = s.around := by
  unfold amendAct
  split
  · rfl
  · refine around_ite s rfl (around_ite s rfl ?_)
    simp only
    split
    · rfl
    · exact around_ite s rfl (by simp)

theorem retireAct_around (key : Nat) : (retireAct key s).around = s.around := by
  unfold retireAct
  split
  · rfl
  · unfold retireRecord
    split <;> simp

theorem readProjectionAct_around (page : Nat) : (readProjectionAct page s).around = s.around := by
  unfold readProjectionAct
  split_ifs <;> rfl

theorem setCavernAct_around (p : CavernParams) : (setCavernAct p s).around = s.around := by
  unfold setCavernAct
  split
  · rfl
  · exact around_ite s (by simp) rfl

theorem loadCavernTableAct_around (p : CavernTableParams) : (loadCavernTableAct p s).around = s.around := by
  unfold loadCavernTableAct
  split
  · rfl
  · exact around_ite s (by simp) rfl

theorem setStoreAct_around (p : StoreParams) : (setStoreAct p s).around = s.around := around_ite s (by simp) rfl

theorem loadStoreTableAct_around (p : StoreTableParams) : (loadStoreTableAct p s).around = s.around :=
  around_ite s (by simp) rfl

theorem rebindEffects_around (i : Fin 8) (old new : TrainCfg) : (rebindEffects i old new s).around = s.around := by
  have hdisown : ∀ s, (disownTxn i s).around = s.around := fun _ => rfl
  unfold rebindEffects
  split
  · simp
  · simp [hdisown]
  · simp only
    split_ifs <;> simp [hdisown]
  · rfl

theorem applyTrain_around (i : Fin 8) (new : TrainCfg) : (applyTrain i new s).around = s.around := by
  have hrating : ∀ old s, (ratingEffects i old new s).around = s.around := fun old s => by
    unfold ratingEffects
    exact around_ite s (by simp) (setVerifyIf_around s _)
  simp [applyTrain, hrating, rebindEffects_around]

theorem setTrainAct_around (p : TrainParams) : (setTrainAct p s).around = s.around := by
  unfold setTrainAct
  split
  · rfl
  · exact around_ite s rfl (around_ite s rfl (applyTrain_around s _ _))

theorem setOutageAct_around (p : OutageParams) : (setOutageAct p s).around = s.around := by
  unfold setOutageAct
  split
  · rfl
  · exact around_ite s rfl (around_ite s rfl (by simp))

section
variable {s}

/-- A command on an entry keeps what its act keeps: its refusals touch nothing but the port. -/
theorem entryCommand_around {n : Nat} {allowed : TrainState → Bool} {act : Fin 8 → State → State}
    (h : ∀ i s, (act i s).around = s.around) : (entryCommand n allowed act s).around = s.around := by
  unfold entryCommand
  split
  · rfl
  · exact around_ite s rfl (around_ite s (h _ s) rfl)

/-- An event of the entry that a number names keeps what it keeps for every entry. -/
theorem onEntry_around {n : Nat} {f : Fin 8 → State → State} (h : ∀ i s, (f i s).around = s.around) :
    (onEntry n f s).around = s.around := by
  unfold onEntry
  split
  · exact h _ s
  · rfl

end

theorem setSiteAct_around (p : SiteParams) : (setSiteAct p s).around = s.around := around_ite s (by simp) rfl

theorem setChannelAct_around (p : ChannelParams) : (setChannelAct p s).around = s.around := by
  unfold setChannelAct
  split
  · rfl
  · exact around_ite s (by rw [reply_around, applyChannel_eq, recomputeIf_around, raiseIf_around]; rfl) rfl

theorem setScanListAct_around (l : List Nat) : (setScanListAct l s).around = s.around := by
  unfold setScanListAct
  split
  · rfl
  · exact around_ite s rfl (by rw [applyScanList_eq]; rfl)

theorem setIntervalAct_around (n form : Nat) : (setIntervalAct n form s).around = s.around := by
  unfold setIntervalAct
  split
  · rfl
  · refine around_ite s rfl (around_ite s rfl (around_ite s ?_ rfl))
    simp only [reply_around, beginNow, startRun_around, blocksBegin_around, around_with_clock]

theorem setAliasAct_around (p : AliasParams) : (setAliasAct p s).around = s.around := by
  unfold setAliasAct
  split
  · rfl
  · split
    · rfl
    · split <;> rfl
    · rfl

theorem forwardAct_around (p : ForwardParams) : (forwardAct p s).around = s.around := by
  unfold forwardAct
  split
  · rfl
  · refine around_ite s rfl ?_
    unfold forwardTo
    split
    · rfl
    · exact around_ite s rfl (around_ite s rfl (around_ite s rfl (around_ite s rfl rfl)))

theorem fetchBytes_around (n : Nat) : (fetchBytes n s).around = s.around := by
  unfold fetchBytes
  split
  · exact around_ite s rfl rfl
  · rfl

/-! ### Runs and resets -/

theorem considerRun_around : (considerRun s).around = s.around := by
  refine around_ite s rfl ?_
  split
  · rfl
  · exact around_ite s rfl rfl

theorem completeVerification_around (run : Run) : (completeVerification run s).around = s.around := by
  simp [completeVerification]

theorem completeAdmission_around (run : Run) : (completeAdmission run s).around = s.around := by
  unfold completeAdmission
  split
  · rfl
  · split
    · rfl
    · unfold judgeCandidate
      split
      · simp [refuseCandidate]
      · simp only
        split
        · simp [refuseCandidate]
        · simp [admitCandidate]

theorem powerOnState_around : (powerOnState s).around = s.around := raiseIf_around _ _ _

theorem tripAtReset_around : (tripAtReset s).around = s.around := around_ite s (tripAsserted_around s) rfl

theorem resetStationAct_around : (resetStationAct s).around = s.around := by
  rw [resetStationAct, tripAtReset_around]
  simp only [State.around, stationReset, reply_pending, reply_now, reply_pins]

/-! ### Every command -/

section
variable {s}

/-- Every command completes, and every command but the two trip events keeps the waiting commands, the present moment and the
pins. -/
theorem exec_around (c : Instr) (hassert : c ≠ .siteTripAssert) (hrelease : c ≠ .siteTripRelease) :
    ∃ t : State, exec c s = .next t ∧ t.around = s.around := by
  cases c with
  | siteTripAssert => exact absurd rfl hassert
  | siteTripRelease => exact absurd rfl hrelease
  | book p => exact ⟨_, rfl, station_around fun s => bookAct_around s p⟩
  | confirm key => exact ⟨_, rfl, station_around fun s => confirmAct_around s key⟩
  | amend p => exact ⟨_, rfl, station_around fun s => amendAct_around s p⟩
  | retire key => exact ⟨_, rfl, station_around fun s => retireAct_around s key⟩
  | readCommitment key => exact ⟨_, rfl, station_around fun s => by unfold readCommitmentAct; split <;> rfl⟩
  | listCommitments page => exact ⟨_, rfl, station_around fun s => around_ite s rfl rfl⟩
  | readProjection page => exact ⟨_, rfl, station_around fun s => readProjectionAct_around s page⟩
  | verify => exact ⟨_, rfl, station_around fun s => around_ite s rfl rfl⟩
  | setCavern p => exact ⟨_, rfl, station_around fun _ => settingsWrite_around fun s => setCavernAct_around s p⟩
  | loadCavernTable p => exact ⟨_, rfl, station_around fun _ => settingsWrite_around fun s => loadCavernTableAct_around s p⟩
  | readCavern n => exact ⟨_, rfl, station_around fun s => by unfold readCavernAct; split <;> rfl⟩
  | setStore p => exact ⟨_, rfl, station_around fun _ => settingsWrite_around fun s => setStoreAct_around s p⟩
  | loadStoreTable p => exact ⟨_, rfl, station_around fun _ => settingsWrite_around fun s => loadStoreTableAct_around s p⟩
  | readStore => exact ⟨_, rfl, station_around fun _ => rfl⟩
  | setTrain p => exact ⟨_, rfl, station_around fun _ => settingsWrite_around fun s => setTrainAct_around s p⟩
  | setOutage p => exact ⟨_, rfl, station_around fun s => setOutageAct_around s p⟩
  | withdraw n => exact ⟨_, rfl, station_around fun _ => entryCommand_around fun i s => by simp [withdrawAct]⟩
  | restore n => exact ⟨_, rfl, station_around fun _ => entryCommand_around fun i s => by simp [restoreAct]⟩
  | release n => exact ⟨_, rfl, station_around fun _ => entryCommand_around fun i s => by simp [releaseAct]⟩
  | rebind n => exact ⟨_, rfl, station_around fun _ => entryCommand_around fun i s => around_ite s (by simp) (by simp)⟩
  | readTrain n => exact ⟨_, rfl, station_around fun s => by unfold readTrainAct; split <;> rfl⟩
  | setSite p => exact ⟨_, rfl, station_around fun _ => settingsWrite_around fun s => setSiteAct_around s p⟩
  | readDispatch => exact ⟨_, rfl, station_around fun _ => rfl⟩
  | setChannel p => exact ⟨_, rfl, station_around fun _ => settingsWrite_around fun s => setChannelAct_around s p⟩
  | setScanList l => exact ⟨_, rfl, station_around fun _ => settingsWrite_around fun s => setScanListAct_around s l⟩
  | readChannel n => exact ⟨_, rfl, station_around fun s => by unfold readChannelAct; split <;> rfl⟩
  | snapshot => exact ⟨_, rfl, station_around fun s => around_ite s rfl rfl⟩
  | setInterval n form => exact ⟨_, rfl, station_around fun s => setIntervalAct_around s n form⟩
  | readClock => exact ⟨_, rfl, station_around fun _ => rfl⟩
  | setAlias p => exact ⟨_, rfl, station_around fun _ => settingsWrite_around fun s => setAliasAct_around s p⟩
  | forward p => exact ⟨_, rfl, station_around fun s => forwardAct_around s p⟩
  | linkSpeed n => exact ⟨_, rfl, station_around fun s => by unfold linkSpeedAct; split <;> rfl⟩
  | readLink => exact ⟨_, rfl, station_around fun _ => rfl⟩
  | saveSettings => exact ⟨_, rfl, station_around fun s => around_ite s rfl rfl⟩
  | readNotices => exact ⟨_, rfl, station_around fun _ => rfl⟩
  | setNoticeMask n => exact ⟨_, rfl, station_around fun s => around_ite s rfl rfl⟩
  | resetStation => exact ⟨_, rfl, station_around resetStationAct_around⟩
  | identify => exact ⟨_, rfl, station_around fun _ => rfl⟩
  | unknownCommand r => exact ⟨_, rfl, station_around fun _ => rfl⟩
  | fetch n => exact ⟨_, rfl, around_ite s rfl (fetchBytes_around s n)⟩
  | powerOnReset => exact ⟨_, rfl, (tripAtReset_around _).trans (powerOnState_around s)⟩
  | saveComplete => exact ⟨_, rfl, by split <;> rfl⟩
  | pulse => exact ⟨_, rfl, takePulse_around s⟩
  | ownTimerExpiry => exact ⟨_, rfl, takeExpiry_around s⟩
  | absorbWindowClose => exact ⟨_, rfl, around_ite s rfl rfl⟩
  | runStart => exact ⟨_, rfl, considerRun_around s⟩
  | verificationRunComplete => exact ⟨_, rfl, by split; exacts [around_ite s (completeVerification_around s _) rfl, rfl]⟩
  | admissionRunComplete => exact ⟨_, rfl, by split; exacts [around_ite s rfl (completeAdmission_around s _), rfl]⟩
  | pinTimeout => exact ⟨_, rfl, by split; exacts [around_ite s rfl rfl, rfl]⟩
  | entryComplete codes =>
    exact ⟨_, rfl, by split; exacts [around_ite s ((recomputeIfBanned_around _ s).trans (completeEntry_around s _ _)) rfl, rfl]⟩
  | grant => exact ⟨_, rfl, grantUpTo_around s _⟩
  | replyReceived bytes => exact ⟨_, rfl, by split; exacts [endTransaction_around s _ _ _, rfl]⟩
  | replyTimeout => exact ⟨_, rfl, by split; exacts [endTransaction_around s _ _ _, rfl]⟩
  | broadcastSent => exact ⟨_, rfl, by split; exacts [by split <;> rfl, rfl]⟩
  | unsolicitedFrame => exact ⟨_, rfl, rfl⟩
  | linkReset => exact ⟨_, rfl, linkReset_around s⟩
  | startTimerExpiry n => exact ⟨_, rfl, onEntry_around fun i s => around_ite s (by simp) rfl⟩
  | stopTimerExpiry n => exact ⟨_, rfl, onEntry_around fun i s => around_ite s (by simp) rfl⟩
  | pollDue n => exact ⟨_, rfl, onEntry_around fun i s => by unfold pollFallsDue; split; exacts [around_ite s rfl rfl, rfl]⟩
  | periodicIdent n => exact ⟨_, rfl, onEntry_around fun i s => around_ite s (by simp) rfl⟩

theorem around_eq_iff {s t : State} : t.around = s.around ↔ t.pending = s.pending ∧ t.now = s.now ∧ t.pins = s.pins := by
  simp only [State.around, Prod.mk.injEq]

end

/-- Settles O2: the two trip events write the level of the TRIP input, and every other command keeps it too. -/
theorem everyCommandCompletes : Obligations.EveryCommandCompletes := by
  unfold Obligations.EveryCommandCompletes
  intro c s
  by_cases hassert : c = .siteTripAssert
  · subst hassert
    by_cases htrip : s.pins.trip = true
    · exact ⟨s, congrArg Host.Outcome.next (if_pos htrip), rfl, rfl, fun _ _ => rfl⟩
    · obtain ⟨hpending, hnow, -⟩ := around_eq_iff.1 (tripAsserted_around { s with pins := ⟨true⟩ })
      exact ⟨_, congrArg Host.Outcome.next (if_neg htrip), hpending, hnow, fun h => absurd rfl h⟩
  by_cases hrelease : c = .siteTripRelease
  · subst hrelease
    by_cases htrip : s.pins.trip = true
    · obtain ⟨hpending, hnow, -⟩ := around_eq_iff.1 (tripReleased_around { s with pins := ⟨false⟩ })
      exact ⟨_, congrArg Host.Outcome.next (if_pos htrip), hpending, hnow, fun _ h => absurd rfl h⟩
    · exact ⟨s, congrArg Host.Outcome.next (if_neg htrip), rfl, rfl, fun _ _ => rfl⟩
  obtain ⟨t, hexec, haround⟩ := exec_around (s := s) c hassert hrelease
  obtain ⟨hpending, hnow, hpins⟩ := around_eq_iff.1 haround
  exact ⟨t, hexec, hpending, hnow, fun _ _ => hpins⟩

end Sys2Proof.Machine
end

section
/-! SUPPORT. Requests out of turn (R191, R193), and the settings store (R197, R198). -/

namespace Sys2Proof.Machine

/-- A request is taken by the station port before any command acts (R189, R191). -/
theorem exec_request {c : Instr} (h : isRequest c = true) : ∃ act : State → State, ∀ s, exec c s = .next (station act s) := by
  cases c with
  | fetch | powerOnReset | saveComplete | pulse | ownTimerExpiry | absorbWindowClose | siteTripAssert | siteTripRelease
  | runStart | verificationRunComplete | admissionRunComplete | pinTimeout | entryComplete | grant | replyReceived
  | replyTimeout | broadcastSent | unsolicitedFrame | linkReset | startTimerExpiry | stopTimerExpiry | pollDue
  | periodicIdent => cases h
  | _ => exact ⟨_, fun _ => rfl⟩

/-- Settles O3: a request of any command is answered before the command acts. -/
theorem requestOutOfTurn : Obligations.RequestOutOfTurn := by
  unfold Obligations.RequestOutOfTurn
  intro c s hc hport
  obtain ⟨act, hexec⟩ := exec_request hc
  rw [hexec, station_busy hport]
  rfl

/-- A settings-class write other than SAVE_SETTINGS examines its values where no save is in flight (R198). -/
theorem exec_settingsWrite {c : Instr} (h : isSettingsWrite c = true) (hsave : c ≠ .saveSettings) :
    ∃ act : State → State, ∀ s, exec c s = .next (station (settingsWrite act) s) := by
  cases c with
  | saveSettings => exact absurd rfl hsave
  | setCavern | loadCavernTable | setStore | loadStoreTable | setTrain | setChannel | setScanList | setAlias | setSite =>
    exact ⟨_, fun _ => rfl⟩
  | _ => cases h

section Save
variable {s : State} (h : s.port.state = .idle)
include h

theorem exec_saveSettings_idle : exec .saveSettings s = .next (saveSettingsAct s.taken) :=
  congrArg Host.Outcome.next (station_idle h _)

omit h in
/-- SAVE_SETTINGS while a save is in flight (R198). -/
theorem saveSettingsAct_busy (hsaving : s.nv.saving ≠ none) : saveSettingsAct s = reply .busy s :=
  if_pos (Option.isSome_iff_ne_none.2 hsaving)

omit h in
/-- SAVE_SETTINGS taken (R197). -/
theorem saveSettingsAct_taken (hsaving : s.nv.saving = none) :
    saveSettingsAct s = reply .queued { s with nv := { s.nv with saving := some s.cfg, image := none } } :=
  if_neg (by rw [hsaving]; exact Bool.false_ne_true)

/-- While a save is in flight every settings-class write is refused BUSY (R198). -/
theorem exec_settingsWrite_busy {c : Instr} (hc : isSettingsWrite c = true) (hsaving : s.nv.saving ≠ none) :
    exec c s = .next (s.answered .busy .empty) := by
  by_cases hsave : c = .saveSettings
  · rw [hsave, exec_saveSettings_idle h, saveSettingsAct_busy (s := s.taken) hsaving, reply_taken]
  · obtain ⟨act, hexec⟩ := exec_settingsWrite hc hsave
    rw [hexec, station_idle h, settingsWrite_busy (s := s.taken) hsaving, reply_taken]

end Save

/-- Settles O53: the save by what is in flight, and the other settings-class writes by what they share. -/
theorem settingsSaved : Obligations.SettingsSaved := by
  unfold Obligations.SettingsSaved
  intro s
  refine ⟨fun h hsaving => ?_, fun c hc h hsaving => exec_settingsWrite_busy h hc hsaving, fun image hsaving => ?_,
    fun hsaving => ?_⟩
  · rw [exec_saveSettings_idle h, saveSettingsAct_taken (s := s.taken) hsaving]
    rfl
  · rw [exec, execSaveComplete, hsaving]
  · rw [exec, execSaveComplete, hsaving]

end Sys2Proof.Machine
end

section
/-! SUPPORT. SET_SITE (R195, R196) and the two events of the site trip (R125, R126). -/

namespace Sys2Proof.Machine

/-! ### SET_SITE -/

/-- The values given lie in their ranges (R195). -/
def siteValuesOk (p : SiteParams) : Prop :=
  (∀ v ∈ p.importLimit, v ≤ 800000) ∧ (∀ v ∈ p.exportLimit, v ≤ 800000) ∧ (∀ v ∈ p.changeoverGap, v ≤ 3) ∧
    (∀ v ∈ p.minNotice, v ≤ 12) ∧ (∀ v ∈ p.pollPeriod, 200 ≤ v ∧ v ≤ 2000) ∧ (∀ v ∈ p.holdLimit, 1 ≤ v ∧ v ≤ 24) ∧
    (∀ v ∈ p.tol, 1 ≤ v ∧ v ≤ 500) ∧ (∀ v ∈ p.errorThreshold, 1 ≤ v ∧ v ≤ 255)

theorem siteInRange_iff (p : SiteParams) : siteInRange p = true ↔ siteValuesOk p := by
  simp only [siteInRange, Bool.and_eq_true, within_iff, Nat.zero_le, true_and, and_assoc, siteValuesOk]

/-- The three values that runs and the dispatch unit read are the same (R196). -/
theorem gridDiffers_eq_false_iff (a b : SiteCfg) : a.gridDiffers b = false ↔
    a.importLimit = b.importLimit ∧ a.exportLimit = b.exportLimit ∧ a.changeoverGap = b.changeoverGap := by
  simp only [SiteCfg.gridDiffers, Bool.or_eq_false_iff, decide_eq_false_iff_not, ne_eq, not_not, and_assoc]

section SetSite
variable {s : State} {p : SiteParams}

theorem exec_setSite_idle (h : s.port.state = .idle) (hsave : s.nv.saving = none) (p : SiteParams) :
    exec (.setSite p) s = .next (setSiteAct p s.taken) :=
  congrArg Host.Outcome.next ((station_idle h _).trans (settingsWrite_idle (s := s.taken) hsave _))

theorem setSiteAct_refused (hbad : ¬siteValuesOk p) : setSiteAct p s = reply .badValue s :=
  if_neg (mt (siteInRange_iff p).1 hbad)

variable (hok : siteValuesOk p)
include hok

theorem setSiteAct_taken : setSiteAct p s =
    let b := (s.cfg.site.updated p).gridDiffers s.cfg.site
    reply .done (recomputeIf b (setVerifyIf b (s.withSite (s.cfg.site.updated p)))) := by
  rw [setSiteAct, if_pos ((siteInRange_iff p).2 hok)]
  rfl

/-- A change of none of the three values reaches neither the engine nor the dispatch unit (R196). -/
theorem setSiteAct_same (hsame : (s.cfg.site.updated p).gridDiffers s.cfg.site = false) :
    setSiteAct p s = reply .done (s.withSite (s.cfg.site.updated p)) := by
  rw [setSiteAct_taken hok, hsame]
  rfl

/-- A change of one of the three values is a cause of R30, and the dispatch unit recomputes (R125, R196). -/
theorem setSiteAct_changed (hchanged : (s.cfg.site.updated p).gridDiffers s.cfg.site = true) :
    setSiteAct p s = reply .done (recompute (setVerify (s.withSite (s.cfg.site.updated p)))) := by
  simp only [setSiteAct_taken hok, hchanged, recomputeIf, setVerifyIf, if_true]

end SetSite

/-! ### The site trip -/

section Trip
variable {s : State}

/-- An assertion of an input that stands asserted is no event (log entry 2). -/
theorem exec_siteTripAssert_standing (h : s.pins.trip = true) : exec .siteTripAssert s = .next s :=
  congrArg Host.Outcome.next (if_pos h)

theorem exec_siteTripAssert_event (h : s.pins.trip = false) :
    exec .siteTripAssert s = .next (tripAsserted { s with pins := ⟨true⟩ }) :=
  congrArg Host.Outcome.next (if_neg (Bool.eq_false_iff.1 h))

/-- A release of an input that stands released is no event (log entry 2). -/
theorem exec_siteTripRelease_standing (h : s.pins.trip = false) : exec .siteTripRelease s = .next s :=
  congrArg Host.Outcome.next (if_neg (Bool.eq_false_iff.1 h))

theorem exec_siteTripRelease_event (h : s.pins.trip = true) :
    exec .siteTripRelease s = .next (tripReleased { s with pins := ⟨false⟩ }) :=
  congrArg Host.Outcome.next (if_pos h)

end Trip

/-- Settles O38: SET_SITE by its ranges and by whether one of the three values differs, and each trip event by the level that it
finds. -/
theorem siteValuesAndTrip : Obligations.SiteValuesAndTrip := by
  unfold Obligations.SiteValuesAndTrip
  refine ⟨?_, fun s => ⟨exec_siteTripAssert_standing, fun htrip => ?_, exec_siteTripRelease_standing,
    exec_siteTripRelease_event⟩⟩
  · intro p s h hsave old new inRange same
    rw [exec_setSite_idle h hsave]
    have hsame : (s.taken.cfg.site.updated p).gridDiffers s.taken.cfg.site = false ↔ same := gridDiffers_eq_false_iff new old
    refine ⟨fun hbad => ?_, fun hok heq => ?_, fun hok hne => ?_⟩
    · rw [setSiteAct_refused hbad, reply_taken]
    · rw [setSiteAct_same hok (hsame.2 heq)]
      rfl
    · rw [setSiteAct_changed hok (eq_true_of_ne_false (mt hsame.1 hne))]
      rfl
  · rw [exec_siteTripAssert_event htrip]
    rfl

end Sys2Proof.Machine
end

section
/-! SUPPORT. Parameters of a transfer read back from the bytes that carry them (R202, R203): numbers, optional fields, lists and
arrays. -/

namespace Sys2Proof.Machine

/-- A parser reads a value from its bytes and leaves whatever follows them. -/
def Reads {α : Type} (f : List Byte → Option (α × List Byte)) (bytes : List Byte) (x : α) : Prop :=
  ∀ rest, f (bytes ++ rest) = some (x, rest)

/-- Bytes that are read with none left over fit the parameters (R190). -/
theorem Reads.whole {α : Type} {f : List Byte → Option (α × List Byte)} {bytes : List Byte} {x : α} (h : Reads f bytes x) :
    whole (f bytes) = some x := by
  rw [← List.append_nil bytes, h, Sys2Proof.whole]

/-- One parameter read, and then the parameters after it. -/
theorem Reads.andThen {α β : Type} {f : List Byte → Option (α × List Byte)} {b c : List Byte} {x : α}
    {k : α × List Byte → Option β} {r : Option β} (h : Reads f b x) (hk : k (x, c) = r) : (f (b ++ c) >>= k) = r := by
  rw [h c]
  exact hk

/-! ### Numbers -/

theorem takeNat_beBytes {w n : Nat} (h : fitsNat w n = true) : Reads (takeNat w) (beBytes w n) n := by
  intro rest
  have hlen : ¬(beBytes w n ++ rest).length < w := by rw [List.length_append, length_beBytes]; omega
  rw [takeNat, if_neg hlen, List.take_left' (length_beBytes w n), List.drop_left' (length_beBytes w n), beNat_beBytes,
    Nat.mod_eq_of_lt (of_decide_eq_true h)]

/-- A signed number in its field's range is the one that its two's complement stands for (R202). -/
theorem signedOf_emod {w : Nat} {i : Int} (h : fitsInt w i = true) : signedOf w (i % (256 ^ w : Nat)).toNat = i := by
  simp only [fitsInt, Bool.and_eq_true, decide_eq_true_eq] at h
  unfold signedOf
  generalize 256 ^ w = m at h ⊢
  obtain ⟨hlow, hhigh⟩ := h
  by_cases hneg : i < 0
  · have hmod : i % (m : Int) = i + m := by
      rw [← Int.add_emod_right, Int.emod_eq_of_lt] <;> omega
    rw [hmod, if_neg (by omega)]
    omega
  · have hmod : i % (m : Int) = i := Int.emod_eq_of_lt (by omega) (by omega)
    rw [hmod, if_pos (by omega)]
    omega

theorem takeInt_beInt {w : Nat} {i : Int} (h : fitsInt w i = true) : Reads (takeInt w) (beInt w i) i := by
  intro rest
  have hpos : (0 : Int) < (256 ^ w : Nat) := by exact_mod_cast Nat.pow_pos (by decide)
  have hfits : fitsNat w (i % (256 ^ w : Nat)).toNat = true :=
    decide_eq_true ((Int.toNat_lt (Int.emod_nonneg _ hpos.ne')).2 (Int.emod_lt_of_pos _ hpos))
  rw [takeInt, beInt, takeNat_beBytes hfits, Option.map_some, signedOf_emod h]

/-! ### Optional fields (R202, R203) -/

section Optional
variable {α : Type} {f : List Byte → Option (α × List Byte)} {bytes : List Byte} {x : α}

/-- An absent field: its value's bytes are passed over. -/
theorem Reads.absent (h : Reads f bytes x) : Reads (takeOpt f) (beBytes 1 0 ++ bytes) none := by
  intro rest
  rw [List.append_assoc, takeOpt, takeNat_beBytes (by decide)]
  simp only [h rest, Option.map_some]

theorem Reads.present (h : Reads f bytes x) : Reads (takeOpt f) (beBytes 1 1 ++ bytes) (some x) := by
  intro rest
  rw [List.append_assoc, takeOpt, takeNat_beBytes (by decide)]
  simp only [h rest, Option.map_some]

end Optional

theorem fitsNat_zero (w : Nat) : fitsNat w 0 = true := decide_eq_true (Nat.pow_pos (by decide))

theorem takeOpt_putOptNat {w : Nat} {o : Option Nat} (h : fitsOptNat w o = true) :
    Reads (takeOpt (takeNat w)) (putOptNat w o) o := by
  cases o with
  | none => exact (takeNat_beBytes (fitsNat_zero w)).absent
  | some n => exact (takeNat_beBytes h).present

theorem takeOpt_putOptInt {w : Nat} {o : Option Int} (h : fitsOptInt w o = true) :
    Reads (takeOpt (takeInt w)) (putOptInt w o) o := by
  cases o with
  | none =>
    intro rest
    rw [putOptInt, List.append_assoc, takeOpt, takeNat_beBytes (by decide)]
    simp only [takeInt, takeNat_beBytes (fitsNat_zero w) rest, Option.map_some]
  | some i => exact (takeInt_beInt h).present

@[simp] theorem length_putOptNat (w : Nat) (o : Option Nat) : (putOptNat w o).length = 1 + w := by
  cases o <;> simp [putOptNat]

@[simp] theorem length_putOptInt (w : Nat) (o : Option Int) : (putOptInt w o).length = 1 + w := by
  cases o <;> simp [putOptInt, length_beInt]

/-! ### Items one after another (R203) -/

section Items
variable {α : Type} {f : List Byte → Option (α × List Byte)} {put : α → List Byte}

theorem takeMany_flatMap {l : List α} (h : ∀ a ∈ l, Reads f (put a) a) : Reads (takeMany f l.length) (l.flatMap put) l := by
  intro rest
  induction l with
  | nil => rfl
  | cons a l ih =>
    have hl := ih fun b hb => h b (List.mem_cons_of_mem a hb)
    rw [List.flatMap_cons, List.append_assoc, List.length_cons, takeMany, h a List.mem_cons_self]
    simp only [hl, Option.map_some]

theorem takeMany_add (m n : Nat) (bs : List Byte) : takeMany f (m + n) bs =
    (takeMany f m bs).bind fun r => (takeMany f n r.2).map fun q => (r.1 ++ q.1, q.2) := by
  induction m generalizing bs with
  | zero => simp [takeMany]
  | succ m ih =>
    rw [Nat.succ_add, takeMany, takeMany]
    cases hf : f bs with
    | none => rfl
    | some r => simp [ih, Option.map_bind, Option.bind_map, Function.comp_def]

theorem takeMany_zeros {size : Nat} {z : α} (h : Reads f (List.replicate size 0#8) z) (k : Nat) :
    Reads (takeMany f k) (List.replicate (k * size) 0#8) (List.replicate k z) := by
  have hmany := takeMany_flatMap (put := fun _ => List.replicate size 0#8) (l := List.replicate k z) fun a ha =>
    List.eq_of_mem_replicate ha ▸ h
  rwa [List.length_replicate, List.flatMap_replicate, List.flatten_replicate_replicate] at hmany

/-- A list with its unused items 0 (R203). -/
theorem Reads.list {size room : Nat} {pad z : α} {l : List α} (hitems : ∀ a ∈ l, Reads f (put a) a)
    (hzero : Reads f (List.replicate size 0#8) z) (hl : l.length ≤ room) (hroom : room < 256) :
    Reads (takeList f room pad) (putList put room size l) l := by
  intro rest
  have hcount : fitsNat 1 l.length = true := decide_eq_true (by omega)
  obtain ⟨k, rfl⟩ := Nat.exists_eq_add_of_le hl
  rw [putList, Nat.add_sub_cancel_left, List.append_assoc, List.append_assoc, takeList, takeNat_beBytes hcount]
  simp only [takeMany_add, takeMany_flatMap hitems _, takeMany_zeros hzero k rest, Option.bind_some, Option.map_some, if_pos hl,
    List.take_left']

/-- A fixed array of items. -/
theorem Reads.vec {n : Nat} {v : Vector α n} (h : ∀ a ∈ v.toList, Reads f (put a) a) :
    Reads (takeVec f n) (v.toList.flatMap put) v := by
  intro rest
  have hmany := takeMany_flatMap h rest
  rw [Vector.length_toList] at hmany
  simp only [takeVec, hmany, Vector.length_toList, dif_pos]
  rfl

end Items
end Sys2Proof.Machine
end

section
/-! SUPPORT. The parameters of each station command read back from their bytes, in the order of the command table (R190, R202,
R203). -/

namespace Sys2Proof.Machine

/-! ### The parameters of each command -/

theorem bookParams_reads {p : BookParams} (h : p.fits = true) : Reads BookParams.parse p.bytes p := by
  simp only [BookParams.fits, Bool.and_eq_true, and_assoc] at h
  obtain ⟨href, hcls, hdir, hstart, hlength, hpower, htolerance, hexpiry⟩ := h
  intro rest
  simp only [BookParams.parse, BookParams.bytes, List.append_assoc]
  exact (takeNat_beBytes href).andThen <| (takeNat_beBytes hcls).andThen <| (takeNat_beBytes hdir).andThen <|
    (takeNat_beBytes hstart).andThen <| (takeNat_beBytes hlength).andThen <| (takeNat_beBytes hpower).andThen <|
    (takeOpt_putOptNat htolerance).andThen <| (takeOpt_putOptNat hexpiry).andThen rfl

theorem amendParams_reads {p : AmendParams} (h : p.fits = true) : Reads AmendParams.parse p.bytes p := by
  simp only [AmendParams.fits, Bool.and_eq_true, and_assoc] at h
  obtain ⟨hkey, hpower, hlength, hstart⟩ := h
  intro rest
  simp only [AmendParams.parse, AmendParams.bytes, List.append_assoc]
  exact (takeNat_beBytes hkey).andThen <| (takeOpt_putOptNat hpower).andThen <|
    (takeOpt_putOptNat hlength).andThen <| (takeOpt_putOptNat hstart).andThen rfl

theorem cavernParams_reads {p : CavernParams} (h : p.fits = true) : Reads CavernParams.parse p.bytes p := by
  simp only [CavernParams.fits, Bool.and_eq_true, and_assoc] at h
  obtain ⟨hnumber, hservice, hweight, hmin, hmax, hrate, hdrift⟩ := h
  intro rest
  simp only [CavernParams.parse, CavernParams.bytes, List.append_assoc]
  exact (takeNat_beBytes hnumber).andThen <| (takeOpt_putOptNat hservice).andThen <|
    (takeOpt_putOptNat hweight).andThen <| (takeOpt_putOptNat hmin).andThen <| (takeOpt_putOptNat hmax).andThen <|
    (takeOpt_putOptNat hrate).andThen <| (takeOpt_putOptNat hdrift).andThen rfl

theorem cavernTableParams_reads {p : CavernTableParams} (h : p.fits = true) : Reads CavernTableParams.parse p.bytes p := by
  simp only [CavernTableParams.fits, Bool.and_eq_true, and_assoc, List.all_eq_true] at h
  obtain ⟨hnumber, hmass, hstep, hpressures⟩ := h
  have hvec : Reads (takeVec (takeNat 2) 17) (p.pressures.toList.flatMap (beBytes 2)) p.pressures :=
    .vec fun x hx => takeNat_beBytes (hpressures x hx)
  intro rest
  simp only [CavernTableParams.parse, CavernTableParams.bytes, List.append_assoc]
  exact (takeNat_beBytes hnumber).andThen <| (takeNat_beBytes hmass).andThen <| (takeNat_beBytes hstep).andThen <|
    hvec.andThen rfl

theorem storeParams_reads {p : StoreParams} (h : p.fits = true) : Reads StoreParams.parse p.bytes p := by
  simp only [StoreParams.fits, Bool.and_eq_true, and_assoc] at h
  obtain ⟨hcapacity, hfloor, hcapture, hdraw, hloss, hyield, huse, hcharge, hdischarge⟩ := h
  intro rest
  simp only [StoreParams.parse, StoreParams.bytes, List.append_assoc]
  exact (takeOpt_putOptNat hcapacity).andThen <| (takeOpt_putOptNat hfloor).andThen <|
    (takeOpt_putOptNat hcapture).andThen <| (takeOpt_putOptNat hdraw).andThen <| (takeOpt_putOptNat hloss).andThen <|
    (takeOpt_putOptNat hyield).andThen <| (takeOpt_putOptNat huse).andThen <| (takeOpt_putOptInt hcharge).andThen <|
    (takeOpt_putOptInt hdischarge).andThen rfl

theorem takePoint_reads {q : Int × Nat} (ht : fitsInt 2 q.1 = true) (hc : fitsNat 4 q.2 = true) :
    Reads takePoint (beInt 2 q.1 ++ beBytes 4 q.2) q := by
  intro rest
  simp only [takePoint, List.append_assoc]
  exact (takeInt_beInt ht).andThen <| (takeNat_beBytes hc).andThen rfl

theorem storeTableParams_reads {p : StoreTableParams} (h : p.fits = true) : Reads StoreTableParams.parse p.bytes p := by
  simp only [StoreTableParams.fits, Bool.and_eq_true, List.all_eq_true] at h
  obtain ⟨htemps, hcontents⟩ := h
  have hpoints : Reads (takeVec takePoint 9) p.bytes (p.temps.zip p.contents) := by
    rw [StoreTableParams.bytes, ← Vector.toList_zip]
    refine .vec fun q hq => ?_
    rw [Vector.toList_zip] at hq
    exact takePoint_reads (htemps _ (List.of_mem_zip hq).1) (hcontents _ (List.of_mem_zip hq).2)
  intro rest
  have htemps' : (Vector.ofFn fun i : Fin 9 => (p.temps.zip p.contents)[i].1) = p.temps := by ext i hi; simp
  have hcontents' : (Vector.ofFn fun i : Fin 9 => (p.temps.zip p.contents)[i].2) = p.contents := by ext i hi; simp
  rw [StoreTableParams.parse, hpoints rest]
  simp only [Option.bind_eq_bind, Option.bind_some, htemps', hcontents', Option.pure_def]

theorem takeOpt_putOptName {o : Option (Vector Nat 12)} (h : o.all (fun v => v.toList.all (fitsNat 1)) = true) :
    Reads (takeOpt (takeVec (takeNat 1) 12)) (putOptName o) o := by
  cases o with
  | none =>
    have hzero : Reads (takeVec (takeNat 1) 12) (List.replicate 12 0#8) (Vector.replicate 12 0) :=
      .vec (put := beBytes 1) (v := Vector.replicate 12 0) fun x hx => by
        rw [Vector.toList_replicate] at hx
        exact List.eq_of_mem_replicate hx ▸ takeNat_beBytes (fitsNat_zero 1)
    exact hzero.absent
  | some v =>
    exact Reads.present (.vec fun x hx => takeNat_beBytes (List.all_eq_true.1 h x hx))

theorem trainParams_reads {p : TrainParams} (h : p.fits = true) : Reads TrainParams.parse p.bytes p := by
  simp only [TrainParams.fits, Bool.and_eq_true, and_assoc] at h
  obtain ⟨hentry, hconfigured, hkind, hindex, hname, hhold, hrated, hstable, hpriority, hlead, hrun, hrest, hstart, hstop⟩ := h
  intro rest
  simp only [TrainParams.parse, TrainParams.bytes, List.append_assoc]
  exact (takeNat_beBytes hentry).andThen <| (takeOpt_putOptNat hconfigured).andThen <|
    (takeOpt_putOptNat hkind).andThen <| (takeOpt_putOptNat hindex).andThen <| (takeOpt_putOptName hname).andThen <|
    (takeOpt_putOptNat hhold).andThen <| (takeOpt_putOptNat hrated).andThen <| (takeOpt_putOptNat hstable).andThen <|
    (takeOpt_putOptNat hpriority).andThen <| (takeOpt_putOptNat hlead).andThen <| (takeOpt_putOptNat hrun).andThen <|
    (takeOpt_putOptNat hrest).andThen <| (takeOpt_putOptNat hstart).andThen <| (takeOpt_putOptNat hstop).andThen rfl

theorem takeWindow_reads {w : Window} (h : w.fits = true) : Reads takeWindow w.bytes w := by
  simp only [Window.fits, Bool.and_eq_true] at h
  obtain ⟨hfirst, hlast⟩ := h
  intro rest
  simp only [takeWindow, Window.bytes, List.append_assoc]
  exact (takeNat_beBytes hfirst).andThen <| (takeNat_beBytes hlast).andThen rfl

theorem outageParams_reads {p : OutageParams} (h : p.fits = true) : Reads OutageParams.parse p.bytes p := by
  simp only [OutageParams.fits, Bool.and_eq_true, and_assoc, decide_eq_true_eq, List.all_eq_true] at h
  obtain ⟨hentry, hroom, hwindows⟩ := h
  have hlist : Reads (takeList takeWindow 4 ⟨0, 0⟩) (putList Window.bytes 4 8 p.windows) p.windows :=
    .list (fun w hw => takeWindow_reads (hwindows w hw)) (takeWindow_reads (w := ⟨0, 0⟩) rfl) hroom (by decide)
  intro rest
  simp only [OutageParams.parse, OutageParams.bytes, List.append_assoc]
  exact (takeNat_beBytes hentry).andThen <| hlist.andThen rfl

theorem siteParams_reads {p : SiteParams} (h : p.fits = true) : Reads SiteParams.parse p.bytes p := by
  simp only [SiteParams.fits, Bool.and_eq_true, and_assoc] at h
  obtain ⟨himport, hexport, hgap, hnotice, hpoll, hhold, htol, herror⟩ := h
  intro rest
  simp only [SiteParams.parse, SiteParams.bytes, List.append_assoc]
  exact (takeOpt_putOptNat himport).andThen <| (takeOpt_putOptNat hexport).andThen <|
    (takeOpt_putOptNat hgap).andThen <| (takeOpt_putOptNat hnotice).andThen <| (takeOpt_putOptNat hpoll).andThen <|
    (takeOpt_putOptNat hhold).andThen <| (takeOpt_putOptNat htol).andThen <| (takeOpt_putOptNat herror).andThen rfl

theorem takeRole_reads {r : RoleCode} (h : r.fits = true) :
    Reads takeRole (beBytes 1 r.alternative ++ beBytes 1 r.first ++ beBytes 1 r.second) r := by
  simp only [RoleCode.fits, Bool.and_eq_true, and_assoc] at h
  obtain ⟨halternative, hfirst, hsecond⟩ := h
  intro rest
  simp only [takeRole, List.append_assoc]
  exact (takeNat_beBytes halternative).andThen <| (takeNat_beBytes hfirst).andThen <|
    (takeNat_beBytes hsecond).andThen rfl

theorem takeOpt_putOptRole {o : Option RoleCode} (h : o.all RoleCode.fits = true) :
    Reads (takeOpt takeRole) (putOptRole o) o := by
  cases o with
  | none => exact (takeRole_reads (r := ⟨0, 0, 0⟩) rfl).absent
  | some r =>
    rw [putOptRole, List.append_assoc, List.append_assoc, ← List.append_assoc (beBytes 1 r.alternative)]
    exact (takeRole_reads h).present

theorem channelParams_reads {p : ChannelParams} (h : p.fits = true) : Reads ChannelParams.parse p.bytes p := by
  simp only [ChannelParams.fits, Bool.and_eq_true, and_assoc] at h
  obtain ⟨hchannel, hrole, hgain, hoffset, haveraging, hlow, hhigh, hmode⟩ := h
  intro rest
  simp only [ChannelParams.parse, ChannelParams.bytes, List.append_assoc]
  exact (takeNat_beBytes hchannel).andThen <| (takeOpt_putOptRole hrole).andThen <|
    (takeOpt_putOptInt hgain).andThen <| (takeOpt_putOptInt hoffset).andThen <|
    (takeOpt_putOptNat haveraging).andThen <| (takeOpt_putOptInt hlow).andThen <|
    (takeOpt_putOptInt hhigh).andThen <| (takeOpt_putOptNat hmode).andThen rfl

theorem takeAlias_reads {v : AliasValue} (h : v.fits = true) :
    Reads takeAlias (beBytes 1 v.address ++ beBytes 1 v.entry ++ beBytes 1 v.quiet) v := by
  simp only [AliasValue.fits, Bool.and_eq_true, and_assoc] at h
  obtain ⟨haddress, hentry, hquiet⟩ := h
  intro rest
  simp only [takeAlias, List.append_assoc]
  exact (takeNat_beBytes haddress).andThen <| (takeNat_beBytes hentry).andThen <| (takeNat_beBytes hquiet).andThen rfl

theorem aliasParams_reads {p : AliasParams} (h : p.fits = true) : Reads AliasParams.parse p.bytes p := by
  simp only [AliasParams.fits, Bool.and_eq_true, and_assoc] at h
  obtain ⟨hindex, halternative, hvalue⟩ := h
  have hbytes : p.bytes = beBytes 1 p.index ++ (beBytes 1 p.alternative ++
      (beBytes 1 p.value.address ++ beBytes 1 p.value.entry ++ beBytes 1 p.value.quiet)) := by
    simp only [AliasParams.bytes, List.append_assoc]
  intro rest
  rw [AliasParams.parse, hbytes, List.append_assoc, List.append_assoc (beBytes 1 p.alternative)]
  exact (takeNat_beBytes hindex).andThen <| (takeNat_beBytes halternative).andThen <| (takeAlias_reads hvalue).andThen rfl

theorem forwardParams_reads {p : ForwardParams} (h : p.fits = true) : Reads ForwardParams.parse p.bytes p := by
  simp only [ForwardParams.fits, Bool.and_eq_true, and_assoc, decide_eq_true_eq] at h
  obtain ⟨haddress, hkind, hroom⟩ := h
  have hlist : Reads (takeList takeByte 16 0#8) (putList (fun b => [b]) 16 1 p.payload) p.payload :=
    .list (fun _ _ _ => rfl) (fun _ => rfl) hroom (by decide)
  intro rest
  simp only [ForwardParams.parse, ForwardParams.bytes, List.append_assoc]
  exact (takeNat_beBytes haddress).andThen <| (takeNat_beBytes hkind).andThen <| hlist.andThen rfl

theorem takeIntervalForm_reads {n form : Nat} (hn : fitsNat 4 n = true) (hform : fitsNat 1 form = true) :
    Reads takeIntervalForm (beBytes 4 n ++ beBytes 1 form) (n, form) := by
  intro rest
  simp only [takeIntervalForm, List.append_assoc]
  exact (takeNat_beBytes hn).andThen <| (takeNat_beBytes hform).andThen rfl

theorem scanList_reads {l : List Nat} (hroom : l.length ≤ 32) (hl : ∀ n ∈ l, fitsNat 1 n = true) :
    Reads (takeList (takeNat 1) 32 0) (putList (beBytes 1) 32 1 l) l :=
  .list (fun n hn => takeNat_beBytes (hl n hn)) (takeNat_beBytes (fitsNat_zero 1)) hroom (by decide)

/-! ### The room that they take (R202) -/

theorem length_bookParams (p : BookParams) : p.bytes.length = 22 := by simp [BookParams.bytes]

theorem length_amendParams (p : AmendParams) : p.bytes.length = 14 := by simp [AmendParams.bytes]

theorem length_cavernParams (p : CavernParams) : p.bytes.length = 19 := by simp [CavernParams.bytes]

theorem length_cavernTableParams (p : CavernTableParams) : p.bytes.length = 43 := by
  simp [CavernTableParams.bytes, length_flatMap_put (length_beBytes 2)]

theorem length_storeParams (p : StoreParams) : p.bytes.length = 31 := by simp [StoreParams.bytes]

theorem length_storeTableParams (p : StoreTableParams) : p.bytes.length = 54 := by
  have hpoint : ∀ q : Int × Nat, (beInt 2 q.1 ++ beBytes 4 q.2).length = 6 := fun q => by
    rw [List.length_append, length_beInt, length_beBytes]
  simp [StoreTableParams.bytes, length_flatMap_put hpoint]

theorem length_putOptName (o : Option (Vector Nat 12)) : (putOptName o).length = 13 := by
  cases o <;> simp [putOptName, length_flatMap_put (length_beBytes 1)]

theorem length_trainParams (p : TrainParams) : p.bytes.length = 46 := by simp [TrainParams.bytes, length_putOptName]

theorem length_window (w : Window) : w.bytes.length = 8 := by simp [Window.bytes]

theorem length_outageParams {p : OutageParams} (h : p.fits = true) : p.bytes.length = 34 := by
  simp only [OutageParams.fits, Bool.and_eq_true, and_assoc, decide_eq_true_eq] at h
  obtain ⟨-, hroom, -⟩ := h
  rw [OutageParams.bytes, List.length_append, length_beBytes, length_putList length_window hroom]

theorem length_siteParams (p : SiteParams) : p.bytes.length = 24 := by simp [SiteParams.bytes]

theorem length_putOptRole (o : Option RoleCode) : (putOptRole o).length = 4 := by cases o <;> simp [putOptRole]

theorem length_channelParams (p : ChannelParams) : p.bytes.length = 27 := by
  simp [ChannelParams.bytes, length_putOptRole]

theorem length_aliasParams (p : AliasParams) : p.bytes.length = 5 := by simp [AliasParams.bytes]

theorem length_forwardParams {p : ForwardParams} (h : p.fits = true) : p.bytes.length = 19 := by
  simp only [ForwardParams.fits, Bool.and_eq_true, decide_eq_true_eq] at h
  obtain ⟨-, hroom⟩ := h
  rw [ForwardParams.bytes, List.length_append, List.length_append, length_beBytes, length_beBytes,
    length_putList (size := 1) (put := fun b => [b]) (fun _ => rfl) hroom]

end Sys2Proof.Machine
end

section
/-! SUPPORT. The transfer of a station command (R190, R202, R203). -/

namespace Sys2Proof.Machine

/-- The parameter bytes of a station command fit one transfer under its code, and that code and those bytes give the command
back. -/
structure Carried (i : Instr) (code : Nat) (bytes : List Byte) : Prop where
  pos : 1 ≤ code
  le : code ≤ 38
  room : bytes.length < 256
  decodes : decodeCommand code bytes = some i

section Ways
variable {code size : Nat} {bytes : List Byte}

theorem carried_of_reads {α : Type} {make : α → Instr} {f : List Byte → Option (α × List Byte)} {x : α}
    (hread : Reads f bytes x) (hlen : bytes.length = size) (hsize : size < 256 := by decide)
    (hcode : 1 ≤ code ∧ code ≤ 38 := by decide)
    (hdecode : ∀ bs, decodeCommand code bs = (whole (f bs)).map make := by exact fun _ => rfl) :
    Carried (make x) code bytes where
  pos := hcode.1
  le := hcode.2
  room := hlen ▸ hsize
  decodes := by rw [hdecode, hread.whole, Option.map_some]

theorem carried_of_none {i : Instr} (hdecode : decodeCommand code [] = some i)
    (hcode : 1 ≤ code ∧ code ≤ 38 := by decide) : Carried i code [] := ⟨hcode.1, hcode.2, by decide, hdecode⟩

end Ways

/-- Every well-formed station command is carried by its code and its parameter bytes. -/
theorem encodeCommand_carried {i : Instr} {code : Nat} {bytes : List Byte} (hi : i.wellFormed = true)
    (h : encodeCommand i = some (code, bytes)) : Carried i code bytes := by
  cases i with
  | verify | readStore | readDispatch | snapshot | readClock | readLink | saveSettings | readNotices | resetStation | identify =>
    cases h
    exact carried_of_none rfl
  | confirm n | retire n | readCommitment n | listCommitments n | readProjection n | readCavern n | withdraw n | restore n
  | release n | rebind n | readTrain n | readChannel n | linkSpeed n | setNoticeMask n =>
    cases h
    exact carried_of_reads (takeNat_beBytes hi) (length_beBytes _ _)
  | book p =>
    cases h
    exact carried_of_reads (bookParams_reads hi) (length_bookParams p)
  | amend p =>
    cases h
    exact carried_of_reads (amendParams_reads hi) (length_amendParams p)
  | setCavern p =>
    cases h
    exact carried_of_reads (cavernParams_reads hi) (length_cavernParams p)
  | loadCavernTable p =>
    cases h
    exact carried_of_reads (cavernTableParams_reads hi) (length_cavernTableParams p)
  | setStore p =>
    cases h
    exact carried_of_reads (storeParams_reads hi) (length_storeParams p)
  | loadStoreTable p =>
    cases h
    exact carried_of_reads (storeTableParams_reads hi) (length_storeTableParams p)
  | setTrain p =>
    cases h
    exact carried_of_reads (trainParams_reads hi) (length_trainParams p)
  | setOutage p =>
    cases h
    exact carried_of_reads (outageParams_reads hi) (length_outageParams hi)
  | setSite p =>
    cases h
    exact carried_of_reads (siteParams_reads hi) (length_siteParams p)
  | setChannel p =>
    cases h
    exact carried_of_reads (channelParams_reads hi) (length_channelParams p)
  | setScanList l =>
    cases h
    obtain ⟨hroom, hl⟩ := Bool.and_eq_true_iff.1 hi
    exact carried_of_reads (scanList_reads (of_decide_eq_true hroom) (List.all_eq_true.1 hl))
      (length_putList (length_beBytes 1) (of_decide_eq_true hroom))
  | setInterval n form =>
    cases h
    obtain ⟨hn, hform⟩ := Bool.and_eq_true_iff.1 hi
    have hlen : (beBytes 4 n ++ beBytes 1 form).length = 5 := by rw [List.length_append, length_beBytes, length_beBytes]
    exact carried_of_reads (code := 28) (make := fun q => .setInterval q.1 q.2) (takeIntervalForm_reads hn hform) hlen
  | setAlias p =>
    cases h
    exact carried_of_reads (aliasParams_reads hi) (length_aliasParams p)
  | forward p =>
    cases h
    exact carried_of_reads (forwardParams_reads hi) (length_forwardParams hi)
  | _ => cases h

/-- The transfer of a carried command is decoded to the command (R190, R202). -/
theorem Carried.decodeTransfer {i : Instr} {code : Nat} {bytes : List Byte} (h : Carried i code bytes) :
    decodeTransfer (beBytes 1 code ++ beBytes 1 bytes.length ++ bytes) = some i := by
  obtain ⟨hpos, hle, hroom, hdecode⟩ := h
  have hcode : (BitVec.ofNat 8 code).toNat = code := by rw [BitVec.toNat_ofNat]; omega
  have hlen : (BitVec.ofNat 8 bytes.length).toNat = bytes.length := by rw [BitVec.toNat_ofNat]; omega
  have hrequest : BitVec.ofNat 8 code ≠ 0#8 := fun h => by
    have := congrArg BitVec.toNat h
    rw [hcode, BitVec.toNat_ofNat] at this
    omega
  simp only [beBytes_one, List.cons_append, List.nil_append, Sys2Proof.decodeTransfer, if_neg hrequest,
    hlen, hcode, Nat.lt_irrefl, if_false, if_neg (Nat.not_lt.2 hle), List.take_length, hdecode]

/-- Settles O55: a command's bytes are read back parameter by parameter, and its transfer by its code and its length. -/
theorem transferRoundTrip : Obligations.TransferRoundTrip := by
  unfold Obligations.TransferRoundTrip
  intro i bytes hi h
  obtain ⟨⟨code, params⟩, hcommand, rfl⟩ := Option.map_eq_some_iff.1 h
  exact (encodeCommand_carried hi hcommand).decodeTransfer

end Sys2Proof.Machine
end
